-- ==== Sys2Proof/Word.lean ====
section
/-! DEFINITION. The part's words: bytes, 16-bit words, floor sets, notice sets, and a table built from a function of its index. -/

namespace Sys2Proof

/-- A byte as the ports carry it (R194). -/
abbrev Byte := BitVec 8

/-- A 16-bit word, the size of every table field (R194). -/
abbrev Word := BitVec 16

/-- A set of floors 0 to 47, bit f standing for floor f (section 11.1). -/
abbrev FloorSet := BitVec 48

/-- A set of notice kinds, the bit of a kind at its position of section 11.1. -/
abbrev NoticeSet := BitVec 11

/-- The image of a store record: 17 words (section 11.3). -/
abbrev Image := Vector Word 17

/-- The array of length `n` whose entry `i` is `f i`. -/
def tabulate {n : Nat} {α : Type} (f : Fin n → α) : Vector α n :=
  ⟨⟨List.ofFn f⟩, by simp⟩

@[simp] theorem getElem_tabulate {n : Nat} {α : Type} (f : Fin n → α) (i : Nat) (h : i < n) :
    (tabulate f)[i] = f ⟨i, h⟩ := by
  simp [tabulate]

/-- Whether floor `f` is in the set. -/
def FloorSet.has (fs : FloorSet) (f : Nat) : Bool := fs.getLsbD f

/-- The set of the floors that `p` picks. -/
def FloorSet.ofPred (p : Fin 48 → Bool) : FloorSet := BitVec.ofFnLE p

@[simp] theorem FloorSet.has_ofPred (p : Fin 48 → Bool) (f : Nat) :
    (FloorSet.ofPred p).has f = if h : f < 48 then p ⟨f, h⟩ else false := by
  simp [FloorSet.has, FloorSet.ofPred, BitVec.getLsbD_ofFnLE]

/-- A word split into its two bytes, high byte first (R194). -/
def Word.bytes (w : Word) : List Byte := [w.extractLsb' 8 8, w.extractLsb' 0 8]

/-- The word of two bytes, high byte first (R194). -/
def Word.ofBytes (hi lo : Byte) : Word := hi ++ lo

end Sys2Proof
end

