-- ==== Sys2Proof/Config.lean ====
section
/-! DEFINITION. What is fixed for the part (the timings that are not stored, R184) and the free value of the order of ties (the other free value stands beside the type it has, in Machine/Types.lean). -/

namespace Sys2Proof

/-! Fixed timings in ms. -/

/-- The start-up load (R191). -/
def Config.loadTime : Nat := 200
/-- The RESET stage of verification (R32). -/
def Config.resetTime : Nat := 4000
/-- The SETTLE stage of verification (R33). -/
def Config.settleTime : Nat := 6000
/-- The stagger of the re-secure queue (R119). -/
def Config.staggerTime : Nat := 2000
/-- The open-wait of a door group (R121). -/
def Config.openWaitTime : Nat := 30000
/-- The cool-down of a tripped circuit (R126). -/
def Config.coolDownTime : Nat := 5000
/-- The stop timeout of a channel (R149). -/
def Config.stopTime : Nat := 5000
/-- The refresh period of the routing chain (R155). -/
def Config.refreshTime : Nat := 100
/-- The length of a shift of the routing chain (R155). -/
def Config.shiftTime : Nat := 2
/-- The length of a store write (R186). -/
def Config.writeTime : Nat := 12

/-! Free values. -/

/-- FREE VALUE (log entry 3): where an expiry is placed among others that come due in the same millisecond ("either
may be taken first", chapters 1 to 9). -/
opaque Config.tieOrder : Nat → Nat

end Sys2Proof
end

