-- ==== Sys2Proof/Syntax.lean ====
section
/-! DEFINITION. The part's names (states, kinds, roles, codes), each in the code order of section 11.1, and Instr: one constructor per row of the table of operations and events. -/

namespace Sys2Proof

/-- The code of a value: its position in the list of section 11.1. -/
def codeIn {α : Type} [DecidableEq α] (l : List α) (x : α) : Nat := l.idxOf x

/-- Regime state (R43). -/
inductive RegimeState
  | quiet | holdAck | holdInvestigate | active
  deriving DecidableEq, Repr
def RegimeState.list : List RegimeState := [.quiet, .holdAck, .holdInvestigate, .active]

/-- Line mode (R17). -/
inductive LineMode
  | unused | supervised | contact
  deriving DecidableEq, Repr, Inhabited
def LineMode.list : List LineMode := [.unused, .supervised, .contact]

/-- Line kind (R18). -/
inductive LineKind
  | smoke | heat | callpoint | flow | panel | lobby | hoistway | panelTrouble | doorPosition
  deriving DecidableEq, Repr, Inhabited
def LineKind.list : List LineKind :=
  [.smoke, .heat, .callpoint, .flow, .panel, .lobby, .hoistway, .panelTrouble, .doorPosition]

/-- Line state (R20). -/
inductive LineState
  | unused | normal | verifying | active | troubleOpen | troubleShort | isolated
  deriving DecidableEq, Repr
def LineState.list : List LineState :=
  [.unused, .normal, .verifying, .active, .troubleOpen, .troubleShort, .isolated]

/-- Band of an averaged sample: SHORT, ALARM, NORMAL, OPEN (R10). -/
inductive Band
  | short | alarm | normal | openLoop
  deriving DecidableEq, Repr
def Band.list : List Band := [.short, .alarm, .normal, .openLoop]

/-- Power group state (R31). -/
inductive PGroupState
  | idle | reset | settle | window
  deriving DecidableEq, Repr
def PGroupState.list : List PGroupState := [.idle, .reset, .settle, .window]

/-- Floor status (R73). -/
inductive FloorStatus
  | none | alert | evacuate
  deriving DecidableEq, Repr
def FloorStatus.list : List FloorStatus := [.none, .alert, .evacuate]

/-- Car motion (R89). -/
inductive Motion
  | stopped | up | down
  deriving DecidableEq, Repr
def Motion.list : List Motion := [.stopped, .up, .down]

/-- Car doors: OPEN, CLOSED, MOVING (R89). -/
inductive CarDoors
  | opened | closed | moving
  deriving DecidableEq, Repr
def CarDoors.list : List CarDoors := [.opened, .closed, .moving]

/-- Service mode of a car (R89). -/
inductive ServiceMode
  | normal | independent | outOfService | firefighter
  deriving DecidableEq, Repr
def ServiceMode.list : List ServiceMode := [.normal, .independent, .outOfService, .firefighter]

/-- Recall state of a car (R89). -/
inductive RecallState
  | free | recalling | parked | exempt | lost
  deriving DecidableEq, Repr
def RecallState.list : List RecallState := [.free, .recalling, .parked, .exempt, .lost]

/-- Directive kind (R89). -/
inductive Directive
  | none | recall | park
  deriving DecidableEq, Repr
def Directive.list : List Directive := [.none, .recall, .park]

/-- Door circuit state (R113). -/
inductive CircuitState
  | off | on | tripped | latchedOff
  deriving DecidableEq, Repr
def CircuitState.list : List CircuitState := [.off, .on, .tripped, .latchedOff]

/-- Class of a door current: OVER, OPEN, NORMAL (R123). -/
inductive CurrentClass
  | over | openCircuit | normal
  deriving DecidableEq, Repr
def CurrentClass.list : List CurrentClass := [.over, .openCircuit, .normal]

/-- Release policy of a door group (R114). -/
inductive Policy
  | onAlarm | onEvacuate
  deriving DecidableEq, Repr, Inhabited
def Policy.list : List Policy := [.onAlarm, .onEvacuate]

/-- Override of a door group (R114). -/
inductive Override
  | auto | forceRelease | forceSecure
  deriving DecidableEq, Repr
def Override.list : List Override := [.auto, .forceRelease, .forceSecure]

/-- Door group state (R114). -/
inductive DGroupState
  | secured | released | resecureWait
  deriving DecidableEq, Repr
def DGroupState.list : List DGroupState := [.secured, .released, .resecureWait]

/-- Class of an announcement, in priority order (R140). -/
inductive AnnClass
  | console | evacuate | alert | tenant
  deriving DecidableEq, Repr
def AnnClass.list : List AnnClass := [.console, .evacuate, .alert, .tenant]

/-- Channel state (R149). -/
inductive ChannelState
  | idle | playing | stopping
  deriving DecidableEq, Repr
def ChannelState.list : List ChannelState := [.idle, .playing, .stopping]

/-- Port role (R165). -/
inductive Role
  | console | lift | voice | observer
  deriving DecidableEq, Repr, Inhabited
def Role.list : List Role := [.console, .lift, .voice, .observer]

/-- Walk order of READ (R174). -/
inductive WalkOrder
  | fieldFirst | recordFirst
  deriving DecidableEq, Repr
def WalkOrder.list : List WalkOrder := [.fieldFirst, .recordFirst]

/-- The twelve tables (R171). -/
inductive Table
  | regime | floor | line | pgroup | car | lgroup | door | dgroup | channel | queue | port | store
  deriving DecidableEq, Repr
def Table.list : List Table :=
  [.regime, .floor, .line, .pgroup, .car, .lgroup, .door, .dgroup, .channel, .queue, .port, .store]

/-- The kinds of store record (R183). -/
inductive StoreKind
  | system | port | line | bandset | lgroup | car | dgroup | door
  deriving DecidableEq, Repr
def StoreKind.list : List StoreKind :=
  [.system, .port, .line, .bandset, .lgroup, .car, .dgroup, .door]

/-- Result codes (section 8.8). -/
inductive Result
  | ok | unknown | short | badAddress | role | control | state | tooEarly | range | held | full
  | suppressed | stale | busy | enable | worn | mismatch | conflict | starting
  deriving DecidableEq, Repr
def Result.list : List Result :=
  [.ok, .unknown, .short, .badAddress, .role, .control, .state, .tooEarly, .range, .held, .full,
   .suppressed, .stale, .busy, .enable, .worn, .mismatch, .conflict, .starting]

/-- Notice kinds (R178), at their bit positions of section 11.1. -/
inductive Notice
  | started | alarm | trouble | regime | floor | lift | door | channel | queue | store | control
  deriving DecidableEq, Repr
def Notice.list : List Notice :=
  [.started, .alarm, .trouble, .regime, .floor, .lift, .door, .channel, .queue, .store, .control]

/-- The beginning of a frame: the port, and the bits that it clocks in, in the order of the wire, before the port's next
step of another kind (R165, R167). -/
structure FrameStart where
  port : Fin 4
  bits : List Bool
  deriving DecidableEq, Repr

/-- The first or the last bit of a word (R174). -/
inductive WordEdge
  | first | last
  deriving DecidableEq, Repr

/-- A bit of a READ reply word on a port: the first, at which the word's value is taken, or the last, with which the word
is shifted (R174). -/
structure WordShift where
  port : Fin 4
  edge : WordEdge
  deriving DecidableEq, Repr

/-- A select line held for 10 ms with no clock edge: the port, and the clock edges of its frame until then (R181). -/
structure PortHold where
  port : Fin 4
  edges : Nat
  deriving DecidableEq, Repr

/-- The steps of the part: one constructor per row of the table of operations and events.
Where a row is an event of the wiring or of a timer, its operands name the item. Where it is a command, its operands
are the sending port and the argument bytes and words of section 11.2, as they arrive. -/
inductive Instr
  -- power and load (R191, R192)
  | powerOnReset
  | startUpLoadEnd
  -- scan slots: the item of the slot and the converter's 10-bit code (R3, R14)
  | zoneLineSlotCompletion (line : Fin 64) (code : BitVec 10)
  | doorSenseSlotCompletion (circuit : Fin 32) (code : BitVec 10)
  -- timer expiries
  | resetExpiry (group : Fin 8)
  | settleExpiry (group : Fin 8)
  | windowExpiry (group : Fin 8)
  | retardExpiry (line : Fin 64)
  | holdTimerExpiry
  | silenceInhibitExpiry
  | spreadExpiry
  | carReportTimeout (car : Fin 12)
  | staggerExpiry
  | openWaitExpiry (group : Fin 16)
  | coolDownExpiry (circuit : Fin 32)
  | stopTimerExpiry (channel : Fin 4)
  | playTimerExpiry (channel : Fin 4)
  | chainRefreshExpiry
  | routingShiftComplete
  -- store write and enable input (R186)
  | storeWriteCompletion
  | enableInputDrop
  | enableInputAssert
  -- the frame of a port; `edges` counts the clock edges of the whole frame (R169)
  | frameBegin (start : FrameStart)
  | frameEnd (port : Fin 4) (edges : Nat)
  | unknownCommand (port : Fin 4) (byte : Byte)
  | portReset (hold : PortHold)
  | readWordShifted (shift : WordShift)
  | noticesReplyComplete (port : Fin 4)
  -- data commands
  | select (port : Fin 4) (table record field : Byte)
  | window (port : Fin 4) (firstRecord lastRecord firstField lastField order : Byte)
  | read (port : Fin 4)
  | notices (port : Fin 4)
  | mask (port : Fin 4) (kinds : Word)
  | status (port : Fin 4)
  -- console control and the regime
  | takeControl (port : Fin 4)
  | releaseControl (port : Fin 4)
  | acknowledge (port : Fin 4)
  | silence (port : Fin 4)
  | resound (port : Fin 4)
  | evacuateAll (port : Fin 4)
  | spreadHold (port : Fin 4)
  | spreadResume (port : Fin 4)
  | resetRegime (port : Fin 4)
  -- lines
  | isolateLine (port : Fin 4) (line : Byte)
  | restoreLine (port : Fin 4) (line : Byte)
  -- lifts
  | recallGroup (port : Fin 4) (group : Byte)
  | releaseGroup (port : Fin 4) (group : Byte)
  | carReport (port : Fin 4) (car position motion doors mode : Byte)
  -- doors
  | doorOverride (port : Fin 4) (group override : Byte)
  | clearDoorFault (port : Fin 4) (circuit : Byte)
  -- announcements
  | postAnnouncement (port : Fin 4) (cls message : Byte) (floors : FloorSet) (rpt : Byte)
  | cancelAnnouncement (port : Fin 4) (slot message : Byte)
  | playEnd (port : Fin 4) (channel message : Byte)
  -- store
  | storeWrite (port : Fin 4) (kind index expected : Byte) (image : Image)
  | checkConfig (port : Fin 4)
  | restart (port : Fin 4)
  deriving DecidableEq, Repr

end Sys2Proof
end

