-- ==== Sys2Proof/Decode.lean ====
section
/-! DEFINITION. decodeTableWord (the table's rows give no bits, so it answers none) and the frames of section 11.2: the command bytes, the bits of bytes on the wire, the bytes of a command and the command a frame's bytes spell. -/

namespace Sys2Proof

/-- The command that a word spells by the table's bits. No row of the table gives bits. -/
def decodeTableWord (_nbits _w : Nat) : Option Instr := none

/-- The command bytes of section 11.2, each with its number of argument bytes. -/
def commandTable : List (Byte × Nat) :=
  [(0x10, 3), (0x11, 5), (0x12, 0), (0x13, 0), (0x14, 2), (0x15, 0),
   (0x20, 0), (0x21, 0), (0x22, 0), (0x23, 0), (0x24, 0), (0x25, 0), (0x26, 0), (0x27, 0), (0x28, 0),
   (0x30, 1), (0x31, 1), (0x38, 1), (0x39, 1), (0x3A, 5), (0x40, 2), (0x41, 1),
   (0x48, 9), (0x49, 2), (0x4A, 2), (0x50, 37), (0x51, 0), (0x52, 0)]

/-- The number of argument bytes of the command that a byte names, none when it names no command (section 11.2: every
other byte names none). -/
def argCount (b : Byte) : Option Nat := (commandTable.find? fun x => x.1 == b).map (·.2)

/-- Whether a byte names a command. -/
def namesCommand (b : Byte) : Bool := (argCount b).isSome

/-- The bits of a byte in the order of the wire: most significant bit first (R167). -/
def Byte.bits (b : Byte) : List Bool :=
  [b.getMsbD 0, b.getMsbD 1, b.getMsbD 2, b.getMsbD 3, b.getMsbD 4, b.getMsbD 5, b.getMsbD 6, b.getMsbD 7]

/-- The bits of bytes on the wire. -/
def wireBits (bytes : List Byte) : List Bool := bytes.flatMap Byte.bits

/-- The whole bytes that bits of the wire make up; a byte whose eight bits are not all clocked is not received (R167,
R169). -/
def receivedBytes : List Bool → List Byte
  | a :: b :: c :: d :: e :: f :: g :: h :: rest =>
    BitVec.ofBoolListBE [a, b, c, d, e, f, g, h] :: receivedBytes rest
  | _ => []

/-- Received bytes that complete no command: none, or a command byte with fewer arguments than its command has. A byte
that names no command completes the frame's judgement (R167, R169). -/
def frameOpen : List Byte → Bool
  | [] => true
  | c :: args =>
    match argCount c with
    | some n => args.length < n
    | none => false

/-- The bytes of words, each high byte first (R194). -/
def wordBytes : List Word → List Byte
  | [] => []
  | w :: ws => Word.bytes w ++ wordBytes ws

/-- The words of a list of bytes, each high byte first; `none` for an odd count (R194). -/
def bytesToWords : List Byte → Option (List Word)
  | [] => some []
  | [_] => none
  | hi :: lo :: rest => (bytesToWords rest).map (Word.ofBytes hi lo :: ·)

/-- The three words of a floor set: floors 0 to 15, 16 to 31, 32 to 47 (section 11.1). -/
def FloorSet.words (fs : FloorSet) : List Word :=
  [fs.extractLsb' 0 16, fs.extractLsb' 16 16, fs.extractLsb' 32 16]

/-- The floor set of three words (section 11.1). -/
def FloorSet.ofWords (w0 w1 w2 : Word) : FloorSet := (w2 ++ (w1 ++ w0) : BitVec (16 + (16 + 16)))

/-- The port of a command and its bytes: command byte, then arguments (section 11.2).
`none` for a step that is no command. -/
def commandBytes : Instr → Option (Fin 4 × List Byte)
  | .powerOnReset => none
  | .startUpLoadEnd => none
  | .zoneLineSlotCompletion _ _ => none
  | .doorSenseSlotCompletion _ _ => none
  | .resetExpiry _ => none
  | .settleExpiry _ => none
  | .windowExpiry _ => none
  | .retardExpiry _ => none
  | .holdTimerExpiry => none
  | .silenceInhibitExpiry => none
  | .spreadExpiry => none
  | .carReportTimeout _ => none
  | .staggerExpiry => none
  | .openWaitExpiry _ => none
  | .coolDownExpiry _ => none
  | .stopTimerExpiry _ => none
  | .playTimerExpiry _ => none
  | .chainRefreshExpiry => none
  | .routingShiftComplete => none
  | .storeWriteCompletion => none
  | .enableInputDrop => none
  | .enableInputAssert => none
  | .frameBegin _ => none
  | .frameEnd _ _ => none
  | .unknownCommand p b => some (p, [b])
  | .portReset _ => none
  | .readWordShifted _ => none
  | .noticesReplyComplete _ => none
  | .select p t r f => some (p, [0x10, t, r, f])
  | .window p fr lr ff lf o => some (p, [0x11, fr, lr, ff, lf, o])
  | .read p => some (p, [0x12])
  | .notices p => some (p, [0x13])
  | .mask p k => some (p, 0x14 :: Word.bytes k)
  | .status p => some (p, [0x15])
  | .takeControl p => some (p, [0x20])
  | .releaseControl p => some (p, [0x21])
  | .acknowledge p => some (p, [0x22])
  | .silence p => some (p, [0x23])
  | .resound p => some (p, [0x24])
  | .evacuateAll p => some (p, [0x25])
  | .spreadHold p => some (p, [0x26])
  | .spreadResume p => some (p, [0x27])
  | .resetRegime p => some (p, [0x28])
  | .isolateLine p l => some (p, [0x30, l])
  | .restoreLine p l => some (p, [0x31, l])
  | .recallGroup p g => some (p, [0x38, g])
  | .releaseGroup p g => some (p, [0x39, g])
  | .carReport p c x m d v => some (p, [0x3A, c, x, m, d, v])
  | .doorOverride p g o => some (p, [0x40, g, o])
  | .clearDoorFault p c => some (p, [0x41, c])
  | .postAnnouncement p c m fs r => some (p, 0x48 :: c :: m :: (wordBytes (FloorSet.words fs) ++ [r]))
  | .cancelAnnouncement p sl m => some (p, [0x49, sl, m])
  | .playEnd p c m => some (p, [0x4A, c, m])
  | .storeWrite p k i e im => some (p, 0x50 :: k :: i :: e :: wordBytes im.toList)
  | .checkConfig p => some (p, [0x51])
  | .restart p => some (p, [0x52])

/-- The bytes of a step that is a command or an unknown command byte; none of another step. -/
def Instr.bytes (i : Instr) : List Byte := ((commandBytes i).map (·.2)).getD []

/-- The command of an argument count of 0. -/
def takeNone (i : Instr) : List Byte → Option Instr
  | [] => some i
  | _ => none

/-- The command of one argument byte. -/
def takeOne (f : Byte → Instr) : List Byte → Option Instr
  | [a] => some (f a)
  | _ => none

/-- The command of two argument bytes. -/
def takeTwo (f : Byte → Byte → Instr) : List Byte → Option Instr
  | [a, b] => some (f a b)
  | _ => none

/-- POST ANNOUNCEMENT from its nine argument bytes. -/
def takePost (p : Fin 4) : List Byte → Option Instr
  | [c, m, a, b, d, e, f, g, r] =>
    some (.postAnnouncement p c m
      (FloorSet.ofWords (Word.ofBytes a b) (Word.ofBytes d e) (Word.ofBytes f g)) r)
  | _ => none

/-- STORE WRITE from its 37 argument bytes. -/
def takeStoreWrite (p : Fin 4) : List Byte → Option Instr
  | k :: i :: e :: rest =>
    match bytesToWords rest with
    | some ws => if h : ws.length = 17 then some (.storeWrite p k i e ⟨⟨ws⟩, h⟩) else none
    | none => none
  | _ => none

/-- The command that the whole bytes of a frame spell: the first byte names it and its argument count is fixed
(R167, section 11.2). A first byte that names no command is UNKNOWN_COMMAND, whatever follows (R169). `none` while
the frame's command is not complete. -/
def readFrame (p : Fin 4) : List Byte → Option Instr
  | [] => none
  | c :: args =>
    if c = 0x10 then
      match args with
      | [t, r, f] => some (.select p t r f)
      | _ => none
    else if c = 0x11 then
      match args with
      | [fr, lr, ff, lf, o] => some (.window p fr lr ff lf o)
      | _ => none
    else if c = 0x12 then takeNone (.read p) args
    else if c = 0x13 then takeNone (.notices p) args
    else if c = 0x14 then takeTwo (fun a b => .mask p (Word.ofBytes a b)) args
    else if c = 0x15 then takeNone (.status p) args
    else if c = 0x20 then takeNone (.takeControl p) args
    else if c = 0x21 then takeNone (.releaseControl p) args
    else if c = 0x22 then takeNone (.acknowledge p) args
    else if c = 0x23 then takeNone (.silence p) args
    else if c = 0x24 then takeNone (.resound p) args
    else if c = 0x25 then takeNone (.evacuateAll p) args
    else if c = 0x26 then takeNone (.spreadHold p) args
    else if c = 0x27 then takeNone (.spreadResume p) args
    else if c = 0x28 then takeNone (.resetRegime p) args
    else if c = 0x30 then takeOne (.isolateLine p) args
    else if c = 0x31 then takeOne (.restoreLine p) args
    else if c = 0x38 then takeOne (.recallGroup p) args
    else if c = 0x39 then takeOne (.releaseGroup p) args
    else if c = 0x3A then
      match args with
      | [a, b, d, e, f] => some (.carReport p a b d e f)
      | _ => none
    else if c = 0x40 then takeTwo (.doorOverride p) args
    else if c = 0x41 then takeOne (.clearDoorFault p) args
    else if c = 0x48 then takePost p args
    else if c = 0x49 then takeTwo (.cancelAnnouncement p) args
    else if c = 0x4A then takeTwo (.playEnd p) args
    else if c = 0x50 then takeStoreWrite p args
    else if c = 0x51 then takeNone (.checkConfig p) args
    else if c = 0x52 then takeNone (.restart p) args
    else some (.unknownCommand p c)

end Sys2Proof
end

