-- ==== Sys2Proof/WellFormed.lean ====
section
/-! DEFINITION. Which steps are well formed. Item numbers, codes and argument widths are bounded by the types of Instr; what is left is that UNKNOWN_COMMAND carries a byte that names no command, and that FRAME_BEGIN's bits complete none (R167, R169). -/

namespace Sys2Proof

/-- A step the part can take: an unknown command byte names no command, and the bits of a frame that has only begun
complete no command (R167, R169). -/
def Instr.wellFormed : Instr → Bool
  | .unknownCommand _ b => !namesCommand b
  | .frameBegin f => frameOpen (receivedBytes f.bits)
  | _ => true

end Sys2Proof
end

