-- ==== Sys2Proof/Machine/Types.lean ====
section
/-! DEFINITION. The records that State is made of: the working configuration's and each block's. Timers hold the remaining time in ms, `none` when stopped. -/

namespace Sys2Proof.Machine

/-! The working configuration (R184 and the chapters that use each value). -/

/-- The SYSTEM record: NFLOOR and the timings, in the units of R184 (seconds, mA). -/
structure SystemCfg where
  nfloor : Nat
  confirmWindow : Nat
  clearLimit : Nat
  flowRetard : Nat
  holdEnabled : Bool
  ackWindow : Nat
  investigateTime : Nat
  silenceInhibit : Nat
  spreadInterval : Nat
  initialRadius : Nat
  alertMargin : Nat
  carTimeout : Nat
  overCurrent : Nat
  openCurrent : Nat
  playTimeout : Nat
  evacuateMessage : Byte
  alertMessage : Byte
  deriving DecidableEq, Repr, Inhabited

/-- A PORT record (R166). -/
structure PortCfg where
  role : Role
  rank : Nat
  deriving DecidableEq, Repr, Inhabited

/-- A LINE record (R17). The link is the number of a door circuit or of a lift group, by the kind. -/
structure LineCfg where
  mode : LineMode
  kind : LineKind
  floor : Fin 48
  bandSet : Fin 4
  powerGroup : Fin 8
  verification : Bool
  link : Option Nat
  deriving DecidableEq, Repr, Inhabited

/-- A BANDSET record (R9). -/
structure BandSetCfg where
  tShort : Nat
  tAlarm : Nat
  tOpen : Nat
  deriving DecidableEq, Repr, Inhabited

/-- An LGROUP record (R87). -/
structure LGroupCfg where
  present : Bool
  designated : Fin 48
  alternate : Fin 48
  recallAny : Bool
  reportPort : Fin 4
  deriving DecidableEq, Repr, Inhabited

/-- A CAR record (R88). -/
structure CarCfg where
  present : Bool
  group : Fin 3
  served : FloorSet
  deriving DecidableEq, Repr, Inhabited

/-- A DGROUP record (R114). -/
structure DGroupCfg where
  present : Bool
  policy : Policy
  deriving DecidableEq, Repr, Inhabited

/-- A DOOR record (R112). -/
structure DoorCfg where
  present : Bool
  floor : Fin 48
  stair : Fin 4
  group : Fin 16
  deriving DecidableEq, Repr, Inhabited

/-- The working configuration (R191, R192). -/
structure WorkConfig where
  system : SystemCfg
  ports : Vector PortCfg 4
  lines : Vector LineCfg 64
  bandSets : Vector BandSetCfg 4
  lgroups : Vector LGroupCfg 3
  cars : Vector CarCfg 12
  dgroups : Vector DGroupCfg 16
  doors : Vector DoorCfg 32
  deriving DecidableEq, Repr, Inhabited

/-- FREE VALUE (log entry 8): the configuration that the tables show at a read while the load is in progress; the
argument is the counter. The spec puts the built configuration in force at the end of the load (R192) and does not say
what the configured fields read before. -/
opaque Config.configInLoad : Nat → WorkConfig

/-! The configuration store. -/

/-- A store record (R183). -/
structure StoreRec where
  contents : Image
  writes : Nat
  programmed : Bool
  damaged : Bool
  substituted : Bool
  deriving DecidableEq, Repr

/-- A store write in progress (R186): the record, the port that sent it, the image and the time left. -/
structure StoreBusy where
  record : Fin 136
  port : Fin 4
  image : Image
  remaining : Nat
  deriving DecidableEq, Repr

/-! The line scanner. -/

/-- The state of a zone line (R13, R20). The history is oldest first. -/
structure Line where
  lastCode : BitVec 10
  history : List Nat
  rawBand : Option Band
  state : LineState
  qualified : Option Band
  candidate : Option Band
  agree : Nat
  retard : Option Nat
  clearCount : Nat
  unstable : Bool
  deriving DecidableEq, Repr

/-- A power group record (R31). -/
structure PGroup where
  state : PGroupState
  timer : Option Nat
  deriving DecidableEq, Repr

/-! The regime controller. -/

/-- The spread timer's condition, with its remaining time while running or frozen (R43). -/
inductive SpreadTimer
  | running (ms : Nat)
  | frozen (ms : Nat)
  | stopped
  deriving DecidableEq, Repr

/-- The five flags of the trouble summary (R66). -/
structure TroubleSummary where
  lines : Bool
  doors : Bool
  lifts : Bool
  voice : Bool
  store : Bool
  deriving DecidableEq, Repr

/-- The regime record (R43). -/
structure Regime where
  state : RegimeState
  firstAlarm : Option (Fin 64)
  hold : Option Nat
  silenced : Bool
  inhibit : Option Nat
  r : Nat
  spread : SpreadTimer
  spreadHeld : Bool
  evacuateAll : Bool
  holder : Option (Fin 4)
  trouble : TroubleSummary
  deriving DecidableEq, Repr

/-- A floor record (R69). -/
structure Floor where
  alarmCount : Nat
  troubleCount : Nat
  ring : Option Nat
  status : FloorStatus
  routed : Option (Fin 4)
  deriving DecidableEq, Repr

/-! The lift recall unit. -/

/-- The state of a lift group (R87). -/
structure LGroup where
  manual : Bool
  triggered : Bool
  target : Option (Fin 48)
  deriving DecidableEq, Repr

/-- A car's last report; the position `none` is UNKNOWN (R89). -/
structure Report where
  position : Option (Fin 48)
  motion : Motion
  doors : CarDoors
  mode : ServiceMode
  deriving DecidableEq, Repr

/-- The state of a car (R89). -/
structure Car where
  report : Option Report
  reported : Bool
  timer : Option Nat
  lapsed : Bool
  phase : RecallState
  directive : Directive
  target : Option (Fin 48)
  noStop : FloorSet
  warning : Bool
  deriving DecidableEq, Repr

/-! The door release unit. -/

/-- The state of a door circuit (R113). -/
structure Door where
  state : CircuitState
  trips : Nat
  cool : Option Nat
  openFault : Bool
  candidate : Option CurrentClass
  count : Nat
  current : Nat
  deriving DecidableEq, Repr

/-- The state of a door group (R114). -/
structure DGroup where
  override : Override
  state : DGroupState
  openWait : Option Nat
  notSecured : Bool
  deriving DecidableEq, Repr

/-! The announcement router. -/

/-- An entry of the announcement queue (R141); `channel` is `none` while it is WAITING. -/
structure Entry where
  cls : AnnClass
  message : Byte
  floors : FloorSet
  rpt : Nat
  plays : Nat
  origin : Option (Fin 4)
  age : Nat
  channel : Option (Fin 4)
  deriving DecidableEq, Repr

/-- A channel record (R149). -/
structure Channel where
  state : ChannelState
  entry : Option (Fin 16)
  message : Option Byte
  play : Option Nat
  stop : Option Nat
  lapse : Bool
  deriving DecidableEq, Repr

/-- A routing pattern: for each floor the channel it hears, or none (R155). -/
abbrev Pattern := Vector (Option (Fin 4)) 48

/-- A shift in progress: the pattern it sends and the time left (R155). -/
structure Shift where
  pattern : Pattern
  remaining : Nat
  deriving DecidableEq, Repr

/-- The speaker routing chain (R155): the shift in progress, whether another is due, the refresh timer, and what the
zone selectors have taken. -/
structure Chain where
  shift : Option Shift
  due : Bool
  refresh : Option Nat
  selectors : Pattern
  deriving DecidableEq, Repr

/-! The station ports. -/

/-- The frame in progress on a port (R165, R167, R181).
`none`: the select line is released, as far as the sender has told.
`begun`: it was asserted and no command has been judged; the bits received so far, in the order of the wire.
`judged`: a command was judged in it; its bytes.
`implied`: a command was judged whose frame's beginning the sender did not tell (log entry 5); its bytes.
`ignoring`: a reset came; clock edges are ignored until the select line is released. -/
inductive Frame
  | none
  | begun (bits : List Bool)
  | judged (bytes : List Byte)
  | implied (bytes : List Byte)
  | ignoring
  deriving DecidableEq, Repr

/-- The reply in progress on a port: none (bytes of value 0), the stream of READ before its dummy word, or after it with
the captured words still to be shifted (R174, R196), the NOTICES reply with the taken set (R175), or the words of STATUS
(R177). -/
inductive Reply
  | none
  | dummy
  | stream (captured : List Word)
  | notices (taken : NoticeSet)
  | status (words : List Word)
  deriving DecidableEq, Repr

/-- A port context (R165), with the bytes that the port has put out in its frame (R167). Role and rank are read from the
working configuration (R166). -/
structure Port where
  frame : Frame
  out : List Byte
  reply : Reply
  table : Table
  record : Nat
  field : Nat
  firstRecord : Nat
  lastRecord : Nat
  firstField : Nat
  lastField : Nat
  order : WalkOrder
  lastResult : Result
  notices : NoticeSet
  mask : NoticeSet
  conflict : Option (Fin 136)
  attention : Bool
  deriving DecidableEq, Repr

end Sys2Proof.Machine
end

