-- ==== Sys2Proof/Machine/Factory.lean ====
section
/-! DEFINITION. The store's layout (R183, section 11.3), the factory defaults (R184) and the values that items take at power-on reset. -/

namespace Sys2Proof.Machine

/-! ## Layout of the store -/

/-- How many records of a kind there are (R183). -/
def StoreKind.count : StoreKind → Nat
  | .system => 1
  | .port => 4
  | .line => 64
  | .bandset => 4
  | .lgroup => 3
  | .car => 12
  | .dgroup => 16
  | .door => 32

/-- The store number of a kind's first record (R183). -/
def StoreKind.first : StoreKind → Nat
  | .system => 0
  | .port => 1
  | .line => 5
  | .bandset => 69
  | .lgroup => 73
  | .car => 76
  | .dgroup => 88
  | .door => 104

/-- The kind of a store record (R183). -/
def storeKindOf (n : Fin 136) : StoreKind :=
  if n.val < 1 then .system
  else if n.val < 5 then .port
  else if n.val < 69 then .line
  else if n.val < 73 then .bandset
  else if n.val < 76 then .lgroup
  else if n.val < 88 then .car
  else if n.val < 104 then .dgroup
  else .door

/-- The index of a store record within its kind (R183). -/
def storeIndexOf (n : Fin 136) : Nat := n.val - StoreKind.first (storeKindOf n)

/-! ## Images (section 11.3) -/

/-- A record image from its leading words; the remaining words are 0 (section 11.3). -/
def imageOf (ws : List Nat) : Image := tabulate fun i => BitVec.ofNat 16 (ws.getD i.val 0)

/-- Word `i` of an image as a number. -/
def imageWord (im : Image) (i : Fin 17) : Nat := (im[i]).toNat

/-- The factory default of a record, as an image (R184). -/
def factoryImage (n : Fin 136) : Image :=
  match storeKindOf n with
  | .system => imageOf [48, 60, 8, 30, 1, 15, 120, 60, 180, 1, 2, 3, 900, 40, 90, 1, 2]
  | .port => imageOf [if storeIndexOf n = 0 then 0 else 3, 0]
  | .line => imageOf [0, 0, 0, 0, 0, 0, 0xFFFF]
  | .bandset => imageOf [150, 2200, 12000]
  | .lgroup => imageOf [0, 0, 1, 0, 0]
  | .car => imageOf [0, 0, 1, 0, 0]
  | .dgroup => imageOf [0, 0]
  | .door => imageOf [0, 0, 0, 0]

/-- A value of an enumeration from its code. A stored code is always in range (R185); the first value stands for any
other number. -/
def decodeIn {α : Type} (l : List α) (d : α) (n : Nat) : α := l.getD n d

/-- The flag of a word (section 11.1). -/
def flagOf (n : Nat) : Bool := n == 1

/-- The SYSTEM record of an image. -/
def parseSystem (im : Image) : SystemCfg where
  nfloor := imageWord im 0
  confirmWindow := imageWord im 1
  clearLimit := imageWord im 2
  flowRetard := imageWord im 3
  holdEnabled := flagOf (imageWord im 4)
  ackWindow := imageWord im 5
  investigateTime := imageWord im 6
  silenceInhibit := imageWord im 7
  spreadInterval := imageWord im 8
  initialRadius := imageWord im 9
  alertMargin := imageWord im 10
  carTimeout := imageWord im 11
  overCurrent := imageWord im 12
  openCurrent := imageWord im 13
  playTimeout := imageWord im 14
  evacuateMessage := BitVec.ofNat 8 (imageWord im 15)
  alertMessage := BitVec.ofNat 8 (imageWord im 16)

/-- The PORT record of an image. -/
def parsePort (im : Image) : PortCfg where
  role := decodeIn Role.list .console (imageWord im 0)
  rank := imageWord im 1

/-- The LINE record of an image. -/
def parseLine (im : Image) : LineCfg where
  mode := decodeIn LineMode.list .unused (imageWord im 0)
  kind := decodeIn LineKind.list .smoke (imageWord im 1)
  floor := Fin.ofNat 48 (imageWord im 2)
  bandSet := Fin.ofNat 4 (imageWord im 3)
  powerGroup := Fin.ofNat 8 (imageWord im 4)
  verification := flagOf (imageWord im 5)
  link := if imageWord im 6 = 0xFFFF then none else some (imageWord im 6)

/-- The BANDSET record of an image. -/
def parseBandSet (im : Image) : BandSetCfg where
  tShort := imageWord im 0
  tAlarm := imageWord im 1
  tOpen := imageWord im 2

/-- The LGROUP record of an image. -/
def parseLGroup (im : Image) : LGroupCfg where
  present := flagOf (imageWord im 0)
  designated := Fin.ofNat 48 (imageWord im 1)
  alternate := Fin.ofNat 48 (imageWord im 2)
  recallAny := flagOf (imageWord im 3)
  reportPort := Fin.ofNat 4 (imageWord im 4)

/-- The CAR record of an image. -/
def parseCar (im : Image) : CarCfg where
  present := flagOf (imageWord im 0)
  group := Fin.ofNat 3 (imageWord im 1)
  served := FloorSet.ofWords im[2] im[3] im[4]

/-- The DGROUP record of an image. -/
def parseDGroup (im : Image) : DGroupCfg where
  present := flagOf (imageWord im 0)
  policy := decodeIn Policy.list .onAlarm (imageWord im 1)

/-- The DOOR record of an image. -/
def parseDoor (im : Image) : DoorCfg where
  present := flagOf (imageWord im 0)
  floor := Fin.ofNat 48 (imageWord im 1)
  stair := Fin.ofNat 4 (imageWord im 2)
  group := Fin.ofNat 16 (imageWord im 3)

/-- The configuration that 136 images give, in store order (R183). -/
def configOf (im : Fin 136 → Image) : WorkConfig where
  system := parseSystem (im 0)
  ports := tabulate fun i => parsePort (im ⟨1 + i.val, by omega⟩)
  lines := tabulate fun i => parseLine (im ⟨5 + i.val, by omega⟩)
  bandSets := tabulate fun i => parseBandSet (im ⟨69 + i.val, by omega⟩)
  lgroups := tabulate fun i => parseLGroup (im ⟨73 + i.val, by omega⟩)
  cars := tabulate fun i => parseCar (im ⟨76 + i.val, by omega⟩)
  dgroups := tabulate fun i => parseDGroup (im ⟨88 + i.val, by omega⟩)
  doors := tabulate fun i => parseDoor (im ⟨104 + i.val, by omega⟩)

/-- The factory configuration: a tower of 48 floors with no line scanned, no lift, no door and one console (R184). -/
def factoryConfig : WorkConfig := configOf factoryImage

/-- A store record as the part leaves the factory (R183; the contents are the factory default, section 11.3). -/
def factoryRecord (n : Fin 136) : StoreRec where
  contents := factoryImage n
  writes := 0
  programmed := false
  damaged := false
  substituted := false

/-! ## Values at power-on reset -/

/-- A zone line at power-on reset (R3, R7, R20). -/
def lineReset : Line where
  lastCode := 0
  history := []
  rawBand := none
  state := .unused
  qualified := none
  candidate := none
  agree := 0
  retard := none
  clearCount := 0
  unstable := false

/-- A power group at power-on reset (R31). -/
def pgroupReset : PGroup where
  state := .idle
  timer := none

/-- The regime record at power-on reset (R43), with the store flag as the load sets it (R191). -/
def regimeReset (storeFlag : Bool) : Regime where
  state := .quiet
  firstAlarm := none
  hold := none
  silenced := false
  inhibit := none
  r := 0
  spread := .stopped
  spreadHeld := false
  evacuateAll := false
  holder := none
  trouble := ⟨false, false, false, false, storeFlag⟩

/-- A floor record at power-on reset (R69). -/
def floorReset : Floor where
  alarmCount := 0
  troubleCount := 0
  ring := none
  status := .none
  routed := none

/-- A lift group at power-on reset (R87). -/
def lgroupReset : LGroup where
  manual := false
  triggered := false
  target := none

/-- A car at power-on reset (R89). -/
def carReset : Car where
  report := none
  reported := false
  timer := none
  lapsed := false
  phase := .free
  directive := .none
  target := none
  noStop := 0
  warning := false

/-- A door circuit at power-on reset (R113). -/
def doorReset : Door where
  state := .off
  trips := 0
  cool := none
  openFault := false
  candidate := none
  count := 0
  current := 0

/-- A door group at power-on reset (R114). -/
def dgroupReset : DGroup where
  override := .auto
  state := .resecureWait
  openWait := none
  notSecured := false

/-- A channel at power-on reset (R149). -/
def channelReset : Channel where
  state := .idle
  entry := none
  message := none
  play := none
  stop := none
  lapse := false

/-- The routing pattern with every value none (R155). -/
def patternNone : Pattern := tabulate fun _ => none

/-- The routing chain at power-on reset (R155). That the zone selectors hold none from this event on, and that a
shift in progress is abandoned, is log entry 16. -/
def chainReset : Chain where
  shift := none
  due := false
  refresh := none
  selectors := patternNone

/-- A port context at power-on reset (R165), with the frame given. The port has put out no byte (log entry 23). -/
def portReset (frame : Frame) : Port where
  frame := frame
  out := []
  reply := .none
  table := .regime
  record := 0
  field := 0
  firstRecord := 0
  lastRecord := 0
  firstField := 0
  lastField := 14
  order := .fieldFirst
  lastResult := .ok
  notices := 0
  mask := 0
  conflict := none
  attention := false

end Sys2Proof.Machine
end

