-- ==== Sys2Proof/Machine/State.lean ====
section
/-! DEFINITION. The state of the part, its reasons to stop, and the state right after power-on reset. -/

namespace Sys2Proof.Machine

/-- The part's whole state. Every field is the spec's (INVENTORY.md names the rule of each) but the last two. -/
structure State where
  /-- The start-up load's remaining time, `none` when it is over (R191). -/
  load : Option Nat
  /-- The working configuration: built when the load begins, in force when it ends (R191, R192). -/
  config : WorkConfig
  /-- The commissioning enable input (R185, R186). -/
  enable : Bool
  /-- The 136 store records (R183). -/
  store : Vector StoreRec 136
  /-- The store write in progress (R186). -/
  busy : Option StoreBusy
  /-- The scan slot in progress, `none` while the round is stopped (R1, R2). -/
  scanSlot : Option (Fin 96)
  /-- The zone lines (R13, R20). -/
  lines : Vector Line 64
  /-- The power groups (R31). -/
  pgroups : Vector PGroup 8
  /-- The regime record (R43). -/
  regime : Regime
  /-- The floor table (R69). -/
  floors : Vector Floor 48
  /-- The lift groups (R87). -/
  lgroups : Vector LGroup 3
  /-- The cars (R89). -/
  cars : Vector Car 12
  /-- The door circuits (R113). -/
  doors : Vector Door 32
  /-- The door groups (R114). -/
  dgroups : Vector DGroup 16
  /-- The re-secure queue, oldest at the head (R118). -/
  resecure : List (Fin 16)
  /-- The stagger timer (R119). -/
  stagger : Option Nat
  /-- The slots of the announcement queue (R141). -/
  entries : Vector (Option Entry) 16
  /-- The announcement channels (R149). -/
  channels : Vector Channel 4
  /-- The speaker routing chain (R155). -/
  chain : Chain
  /-- The port contexts (R165). -/
  ports : Vector Port 4
  /-- MODEL'S OWN: the counter that free values are drawn with (log entries 3 and 8). -/
  free : Nat
  /-- MODEL'S OWN: the steps that are waiting, first in, first out. -/
  pending : List Instr
  deriving DecidableEq, Repr

/-- Reasons to stop with a fault. The spec names no event that stops the part, so there is none: no meaning raises a
fault. -/
inductive Fault
  deriving DecidableEq, Repr

/-- Reasons to stop with a refusal. -/
inductive Refusal
  /-- Raised by an arm of exec whose step has no meaning yet; safe. No arm raises it: every step has its meaning. -/
  | notModelled (mnemonic : String)
  deriving DecidableEq, Repr

/-- The machine right after power-on reset: a part as it leaves the factory is powered up and its start-up load has
begun (R183, R191). The enable input is not asserted and no select line is asserted: the spec gives these pins no
value (log entry 9). -/
def State.reset : State where
  load := some Config.loadTime
  config := factoryConfig
  enable := false
  store := tabulate factoryRecord
  busy := none
  scanSlot := none
  lines := tabulate fun _ => lineReset
  pgroups := tabulate fun _ => pgroupReset
  regime := regimeReset false
  floors := tabulate fun _ => floorReset
  lgroups := tabulate fun _ => lgroupReset
  cars := tabulate fun _ => carReset
  doors := tabulate fun _ => doorReset
  dgroups := tabulate fun _ => dgroupReset
  resecure := []
  stagger := none
  entries := tabulate fun _ => none
  channels := tabulate fun _ => channelReset
  chain := chainReset
  ports := tabulate fun _ => portReset .none
  free := 0
  pending := []

end Sys2Proof.Machine
end

