-- ==== Sys2Proof/Machine/Ops.lean ====
section
/-! DEFINITION. The shared operations: roles, notices and the attention line, results and frames of a port, timers. -/

namespace Sys2Proof.Machine

/-! ## Configuration in force -/

/-- Whether the start-up load is in progress (R191). -/
def State.loading (s : State) : Bool := s.load.isSome

/-- The role of a port: none during the load (R165, R166). -/
def State.role (s : State) (p : Fin 4) : Option Role :=
  if s.loading then none else some s.config.ports[p].role

/-- The rank of a port: none during the load (R165, R166). -/
def State.rank (s : State) (p : Fin 4) : Option Nat :=
  if s.loading then none else some s.config.ports[p].rank

/-- A floor is present when its index is below NFLOOR (00_scope, R69). -/
def State.present (s : State) (f : Nat) : Bool := f < s.config.system.nfloor

/-- A configured time of so many seconds, in ms. -/
def seconds (n : Nat) : Nat := n * 1000

/-! ## Notices (R178 to R180) -/

/-- The bit of a notice kind (section 11.1). -/
def Notice.bit (k : Notice) : NoticeSet := 1#11 <<< codeIn Notice.list k

/-- A set of notice kinds. -/
def kinds (l : List Notice) : NoticeSet := l.foldl (fun a k => a ||| Notice.bit k) 0

/-- The kinds that a role receives (the table of R178). -/
def receives : Role → NoticeSet
  | .console =>
    kinds [.started, .alarm, .trouble, .regime, .floor, .lift, .door, .channel, .queue, .store, .control]
  | .lift => kinds [.started, .regime, .lift]
  | .voice => kinds [.started, .regime, .channel, .queue]
  | .observer =>
    kinds [.started, .alarm, .trouble, .regime, .floor, .lift, .door, .channel, .queue, .store]

/-- The attention line is asserted while a pending kind is not masked (R180). -/
def judgeAttention (c : Port) : Port :=
  { c with attention := (c.notices &&& ~~~c.mask) != 0 }

/-- Record kinds in a port's notice set; nothing happens when there is none (R178, R179). -/
def recordKinds (ks : NoticeSet) (c : Port) : Port :=
  if ks = 0 then c else judgeAttention { c with notices := c.notices ||| ks }

/-- Raise kinds: each is recorded in the set of every port whose role receives it. A port whose role is none receives
no kind (R178). -/
def raise (ks : NoticeSet) (s : State) : State :=
  { s with ports := tabulate fun p =>
      match s.role p with
      | none => s.ports[p]
      | some r => recordKinds (ks &&& receives r) s.ports[p] }

/-- Raise one kind at an event for which the condition holds. -/
def raiseIf (b : Bool) (k : Notice) (s : State) : State :=
  if b then raise (Notice.bit k) s else s

/-! ## Ports -/

/-- Replace a port's context. -/
def State.setPort (s : State) (p : Fin 4) (c : Port) : State := { s with ports := s.ports.set p c }

/-- Set a port's last result (R168). -/
def setResult (p : Fin 4) (r : Result) (s : State) : State :=
  s.setPort p { s.ports[p] with lastResult := r }

/-- The byte of a result code (section 11.1). -/
def resultByte (r : Result) : Byte := BitVec.ofNat 8 (codeIn Result.list r)

/-- The command byte and the argument bytes that a frame in progress has received so far (R165). -/
def Frame.received : Frame → List Byte
  | .none => []
  | .begun bits => receivedBytes bits
  | .judged bytes => bytes
  | .implied bytes => bytes
  | .ignoring => []

/-- Whether a port reads the bytes of a command: not when the bits its frame has received already begin another one,
nor while a frame whose command is judged still stands (its clocks are reply clocks, R167), nor while it ignores clocks
after a reset (R165, R181). -/
def Frame.reads (bytes : List Byte) : Frame → Bool
  | .none => true
  | .begun bits => bits.isPrefixOf (wireBits bytes)
  | .implied _ => true
  | .judged _ => false
  | .ignoring => false

/-- What a port has put out once `n` bytes of its frame are clocked: the bytes put out already, then those of the reply,
then bytes of value 0 (R167). A byte that is clocked in part is none of the `n` (log entry 31). -/
def putOut (reply : List Byte) (n : Nat) (out : List Byte) : List Byte :=
  out ++ (reply ++ List.replicate n 0).take (n - out.length)

/-- The end of the reply in progress: the taken kinds of a NOTICES reply that is cut short rejoin the set (R175); a
READ stream stops without moving the pointer and its capture is discarded (R174, R196). -/
def endReply (c : Port) : Port :=
  match c.reply with
  | .notices taken => recordKinds taken { c with reply := .none }
  | _ => { c with reply := .none }

/-- The port as a command's bytes come in: it puts out the last result as it stood when the frame began, and bytes of
value 0 during the arguments (R167, R168). A frame whose beginning was told has put out the first byte already (log
entry 31). -/
def openFrame (bytes : List Byte) (c : Port) : Port :=
  match c.frame with
  | .begun _ => { c with frame := .judged bytes, out := putOut [] bytes.length c.out }
  | _ =>
    { endReply c with frame := .implied bytes, out := putOut [] bytes.length [resultByte c.lastResult] }

/-- The judgement of a command on a port: the port takes the command's bytes, the command's own rule gives the state
and the result, and the result becomes the port's last result (R167, R168). A port that does not read the bytes
judges nothing. -/
def command (p : Fin 4) (bytes : List Byte) (body : State → State × Result) (s : State) : State :=
  if Frame.reads bytes s.ports[p].frame then
    let t := body (s.setPort p (openFrame bytes s.ports[p]))
    setResult p t.2 t.1
  else s

/-- A refused command changes no state and leaves its code (00_scope "Results"). -/
def refuse (r : Result) (s : State) : State × Result := (s, r)

/-- A command that is refused with STARTING during the load (R170). -/
def afterLoad (body : State → State × Result) (s : State) : State × Result :=
  if s.loading then refuse .starting s else body s

/-- A command that requires console control: STARTING, then CONTROL, then its own conditions (R48). -/
def controlled (p : Fin 4) (body : State → State × Result) : State → State × Result :=
  afterLoad fun s => if s.regime.holder = some p then body s else refuse .control s

/-- An accepted command that leaves OK. -/
def accept (s : State) : State × Result := (s, .ok)

/-! ## Timers -/

/-- One millisecond off a running timer. -/
def tickTimer : Option Nat → Option Nat
  | none => none
  | some n => some (n - 1)

/-- Whether a timer has run out. -/
def timerDue : Option Nat → Bool
  | some 0 => true
  | _ => false

/-- The spread timer has run out; a frozen timer does not expire (R77). -/
def spreadDue : SpreadTimer → Bool
  | .running n => n == 0
  | .frozen _ => false
  | .stopped => false

/-! ## The scan round (R1) -/

/-- The scan slot of a zone line (R1). -/
def lineSlot (i : Fin 64) : Fin 96 := ⟨i.val, by omega⟩

/-- The scan slot of a door circuit (R1). -/
def doorSlot (c : Fin 32) : Fin 96 := ⟨64 + c.val, by omega⟩

/-- The scan slot after a given one: the slots run from 0 to 95, and slot 95 is followed by slot 0 (R1). -/
def nextSlot (n : Fin 96) : Fin 96 := Fin.ofNat 96 (n.val + 1)

/-- A slot is in progress: the load is over and the round stands at it (R1, R2). -/
def inSlot (s : State) (n : Fin 96) : Bool := !s.loading && s.scanSlot == some n

/-! ## Regime record and tables -/

/-- Replace the regime record. -/
def State.setRegime (s : State) (g : Regime) : State := { s with regime := g }

/-- Replace a zone line. -/
def State.setLine (s : State) (i : Fin 64) (l : Line) : State := { s with lines := s.lines.set i l }

/-- Replace a power group. -/
def State.setPGroup (s : State) (g : Fin 8) (x : PGroup) : State := { s with pgroups := s.pgroups.set g x }

/-- Replace a floor record. -/
def State.setFloor (s : State) (f : Fin 48) (x : Floor) : State := { s with floors := s.floors.set f x }

/-- Replace a car. -/
def State.setCar (s : State) (c : Fin 12) (x : Car) : State := { s with cars := s.cars.set c x }

/-- Replace a lift group. -/
def State.setLGroup (s : State) (g : Fin 3) (x : LGroup) : State := { s with lgroups := s.lgroups.set g x }

/-- Replace a door circuit. -/
def State.setDoor (s : State) (c : Fin 32) (x : Door) : State := { s with doors := s.doors.set c x }

/-- Replace a door group. -/
def State.setDGroup (s : State) (g : Fin 16) (x : DGroup) : State := { s with dgroups := s.dgroups.set g x }

/-- Replace a channel. -/
def State.setChannel (s : State) (c : Fin 4) (x : Channel) : State := { s with channels := s.channels.set c x }

/-- Replace a store record. -/
def State.setStore (s : State) (n : Fin 136) (x : StoreRec) : State := { s with store := s.store.set n x }

end Sys2Proof.Machine
end

