-- ==== Sys2Proof/Machine/Operands.lean ====
section
/-! DEFINITION. What the argument bytes of a command and the words of a record image stand for, and their ranges (R184, R185, chapter 11). -/

namespace Sys2Proof.Machine

/-- An index argument below `n`. -/
def argIndex (n : Nat) (b : Byte) : Option (Fin n) :=
  if h : b.toNat < n then some ⟨b.toNat, h⟩ else none

/-- An enumeration argument: the value of its code, none beyond the list (section 11.1). -/
def argIn {α : Type} (l : List α) (b : Byte) : Option α := l[b.toNat]?

/-- The kind set of a MASK word, none when a bit holds no kind (R176, section 11.1). -/
def argKinds (w : Word) : Option NoticeSet :=
  if w.toNat < 2 ^ 11 then some (w.extractLsb' 0 11) else none

/-- The store number of a kind and index, none when out of range (R183, R185). -/
def storeNumber (k : StoreKind) (index : Nat) : Option (Fin 136) :=
  if index < StoreKind.count k then
    if h : StoreKind.first k + index < 136 then some ⟨StoreKind.first k + index, h⟩ else none
  else none

/-- Whether a number lies in a range. -/
def inRange (lo hi n : Nat) : Bool := lo ≤ n && n ≤ hi

/-- Whether every word of an image from `k` on is 0 (R185). -/
def restZero (k : Nat) (im : Image) : Bool :=
  (List.finRange 17).all fun i => i.val < k || imageWord im i == 0

/-- The range of the link word (R17): absent, a lift group 0 to 2 for HOISTWAY, a door circuit 0 to 31 otherwise
(log entry 11). -/
def linkInRange (kind link : Nat) : Bool :=
  link == 0xFFFF || (if kind = codeIn LineKind.list .hoistway then inRange 0 2 link else inRange 0 31 link)

/-- The fields of a SYSTEM image are in the ranges of R184. -/
def systemInRange (im : Image) : Bool :=
  inRange 2 48 (imageWord im 0) && inRange 10 120 (imageWord im 1) && inRange 1 255 (imageWord im 2) &&
  inRange 0 90 (imageWord im 3) && inRange 0 1 (imageWord im 4) && inRange 5 30 (imageWord im 5) &&
  inRange 0 180 (imageWord im 6) && inRange 0 300 (imageWord im 7) &&
  (imageWord im 8 == 0 || inRange 30 900 (imageWord im 8)) && inRange 0 3 (imageWord im 9) &&
  inRange 0 47 (imageWord im 10) && inRange 1 10 (imageWord im 11) && inRange 100 1900 (imageWord im 12) &&
  inRange 10 200 (imageWord im 13) && inRange 10 240 (imageWord im 14) && inRange 1 255 (imageWord im 15) &&
  inRange 1 255 (imageWord im 16)

/-- Every field of an image is in its range, and the words beyond the kind's fields are 0 (R185 case 8). A floor is
judged against 0 to 47. An empty served floor set is in range here and judged by R187 (log entry 12). -/
def imageInRange (k : StoreKind) (im : Image) : Bool :=
  match k with
  | .system => systemInRange im
  | .port => inRange 0 3 (imageWord im 0) && inRange 0 3 (imageWord im 1) && restZero 2 im
  | .line =>
    inRange 0 2 (imageWord im 0) && inRange 0 8 (imageWord im 1) && inRange 0 47 (imageWord im 2) &&
    inRange 0 3 (imageWord im 3) && inRange 0 7 (imageWord im 4) && inRange 0 1 (imageWord im 5) &&
    linkInRange (imageWord im 1) (imageWord im 6) && restZero 7 im
  | .bandset =>
    inRange 1 65534 (imageWord im 0) && inRange 1 65534 (imageWord im 1) && inRange 1 65534 (imageWord im 2) &&
    decide (imageWord im 0 < imageWord im 1) && decide (imageWord im 1 < imageWord im 2) && restZero 3 im
  | .lgroup =>
    inRange 0 1 (imageWord im 0) && inRange 0 47 (imageWord im 1) && inRange 0 47 (imageWord im 2) &&
    inRange 0 1 (imageWord im 3) && inRange 0 3 (imageWord im 4) && restZero 5 im
  | .car => inRange 0 1 (imageWord im 0) && inRange 0 2 (imageWord im 1) && restZero 5 im
  | .dgroup => inRange 0 1 (imageWord im 0) && inRange 0 1 (imageWord im 1) && restZero 2 im
  | .door =>
    inRange 0 1 (imageWord im 0) && inRange 0 47 (imageWord im 1) && inRange 0 3 (imageWord im 2) &&
    inRange 0 15 (imageWord im 3) && restZero 4 im

end Sys2Proof.Machine
end

