-- ==== Sys2Proof/Machine/Flags.lean ====
section
/-! DEFINITION. The kinds' properties, the standing troubles of every unit and the five flags of the trouble summary (R18, R21, R66, R102, R134, R162, R189). -/

namespace Sys2Proof.Machine

/-! ## Kinds (the table of R18) -/

/-- The fire kinds (R18). Every fire kind is latched and no other kind is. -/
def LineKind.fire : LineKind → Bool
  | .smoke => true
  | .heat => true
  | .callpoint => true
  | .flow => true
  | .panel => true
  | .lobby => true
  | .hoistway => true
  | .panelTrouble => false
  | .doorPosition => false

/-- Whether ACTIVE is latched for the kind (R18). -/
def LineKind.latched (k : LineKind) : Bool := LineKind.fire k

/-- Whether a first alarm of the kind may be held (R18). -/
def LineKind.holdEligible : LineKind → Bool
  | .smoke => true
  | .heat => true
  | _ => false

/-- Whether the kind is allowed in the mode (R18). -/
def LineKind.allowedIn : LineKind → LineMode → Bool
  | .smoke, .supervised => true
  | .heat, .supervised => true
  | .callpoint, .supervised => true
  | .callpoint, .contact => true
  | .flow, .supervised => true
  | .flow, .contact => true
  | .panel, .contact => true
  | .lobby, .supervised => true
  | .hoistway, .supervised => true
  | .panelTrouble, .contact => true
  | .doorPosition, .contact => true
  | _, _ => false

/-! ## Lines -/

/-- A line is in trouble (R21). -/
def lineInTrouble (c : LineCfg) (l : Line) : Bool :=
  l.state != .isolated &&
    (l.state == .troubleOpen || l.state == .troubleShort || l.unstable ||
      (c.kind == .panelTrouble && l.state == .active))

/-- A change that raises a TROUBLE notice: the line enters or leaves trouble, or enters or leaves one of the two
trouble states (R21, R27; log entry 18). -/
def lineTroubleChange (c : LineCfg) (l l' : Line) : Bool :=
  lineInTrouble c l != lineInTrouble c l' ||
    (l.state == .troubleOpen) != (l'.state == .troubleOpen) ||
    (l.state == .troubleShort) != (l'.state == .troubleShort)

/-- An accepted fire alarm: a fire-kind line in ACTIVE (R22, R70). -/
def fireActive (c : LineCfg) (l : Line) : Bool := LineKind.fire c.kind && l.state == .active

/-! ## Standing troubles of the units -/

/-- Some floor's trouble count is at least 1 (R66, R71). -/
def anyLineTrouble (fs : Vector Floor 48) : Bool := fs.toList.any fun f => f.troubleCount != 0

/-- A present circuit in LATCHED_OFF (R134). -/
def latchTrouble (s : State) (c : Fin 32) : Bool :=
  s.config.doors[c].present && s.doors[c].state == .latchedOff

/-- A present circuit with open-fault set (R134). -/
def openTrouble (s : State) (c : Fin 32) : Bool :=
  s.config.doors[c].present && s.doors[c].openFault

/-- A present door group with not-secured set (R134). -/
def notSecuredTrouble (s : State) (g : Fin 16) : Bool :=
  s.config.dgroups[g].present && s.dgroups[g].notSecured

/-- At least one standing door trouble (R134). -/
def anyDoorTrouble (s : State) : Bool :=
  (List.finRange 32).any (fun c => latchTrouble s c || openTrouble s c) ||
    (List.finRange 16).any (notSecuredTrouble s)

/-- A present car whose report lapsed (R102). -/
def carInTrouble (s : State) (c : Fin 12) : Bool := s.config.cars[c].present && s.cars[c].lapsed

/-- At least one car in lift trouble (R102). -/
def anyLiftTrouble (s : State) : Bool := (List.finRange 12).any (carInTrouble s)

/-- At least one channel with its voice lapse set (R162). -/
def anyVoiceTrouble (s : State) : Bool := s.channels.toList.any (·.lapse)

/-- A store record in store trouble (R189). -/
def recordInTrouble (x : StoreRec) : Bool := x.damaged || x.substituted

/-- At least one record in store trouble (R189). -/
def anyStoreTrouble (st : Vector StoreRec 136) : Bool := st.toList.any recordInTrouble

/-! ## The trouble summary (R66): a flag is set or cleared at the event at which its unit's standing troubles begin
or end. -/

/-- The flag after an event, from the flag before and whether a trouble stood before and stands after. -/
def summaryFlag (flag before after : Bool) : Bool := if before = after then flag else after

/-- Replace the trouble summary. -/
def setTrouble (t : TroubleSummary) (s : State) : State := { s with regime := { s.regime with trouble := t } }

/-- The doors flag after an event that led from `s0` to `s`. -/
def doorsFlag (s0 s : State) : State :=
  setTrouble { s.regime.trouble with
    doors := summaryFlag s.regime.trouble.doors (anyDoorTrouble s0) (anyDoorTrouble s) } s

/-- The lifts flag after an event that led from `s0` to `s`. -/
def liftsFlag (s0 s : State) : State :=
  setTrouble { s.regime.trouble with
    lifts := summaryFlag s.regime.trouble.lifts (anyLiftTrouble s0) (anyLiftTrouble s) } s

/-- The voice flag after an event that led from `s0` to `s`. -/
def voiceFlag (s0 s : State) : State :=
  setTrouble { s.regime.trouble with
    voice := summaryFlag s.regime.trouble.voice (anyVoiceTrouble s0) (anyVoiceTrouble s) } s

/-- The store flag after an event that led from `s0` to `s`. -/
def storeFlag (s0 s : State) : State :=
  setTrouble { s.regime.trouble with
    store := summaryFlag s.regime.trouble.store (anyStoreTrouble s0.store) (anyStoreTrouble s.store) } s

end Sys2Proof.Machine
end

