-- ==== Sys2Proof/Machine/Router.lean ====
section
/-! DEFINITION. The announcement router's own work at an event: removal and creation of entries, assignment and preemption, the routing and its shift, the regime's entries, stripping, and its notices (chapter 7). -/

namespace Sys2Proof.Machine

/-! ## Rank (R140, R142) -/

/-- The priority number of a class; lower is higher (R140). -/
def AnnClass.priority (c : AnnClass) : Nat := codeIn AnnClass.list c

/-- One entry ranks above another: by priority, then the older (R140). -/
def ranksAbove (a b : Entry) : Bool :=
  AnnClass.priority a.cls < AnnClass.priority b.cls ||
    (AnnClass.priority a.cls == AnnClass.priority b.cls && a.age < b.age)

/-- One entry outranks another: its priority is strictly higher (R140). -/
def outranks (a b : Entry) : Bool := AnnClass.priority a.cls < AnnClass.priority b.cls

/-- Put a slot and its entry into a list ordered by rank, highest first. -/
def insertRanked (x : Fin 16 × Entry) : List (Fin 16 × Entry) → List (Fin 16 × Entry)
  | [] => [x]
  | y :: ys => if ranksAbove x.2 y.2 then x :: y :: ys else y :: insertRanked x ys

/-- A list of slots and entries in rank order, highest first. -/
def rankOrder : List (Fin 16 × Entry) → List (Fin 16 × Entry)
  | [] => []
  | x :: xs => insertRanked x (rankOrder xs)

/-- The entry of a slot, with its slot, when it satisfies `p`. -/
def slotIf (es : Vector (Option Entry) 16) (p : Entry → Bool) (sl : Fin 16) : Option (Fin 16 × Entry) :=
  match es[sl] with
  | some e => if p e then some (sl, e) else none
  | none => none

/-- The entries that satisfy `p`, in rank order. -/
def ranked (es : Vector (Option Entry) 16) (p : Entry → Bool) : List (Fin 16 × Entry) :=
  rankOrder ((List.finRange 16).filterMap (slotIf es p))

/-- The WAITING entries in rank order (R150, R151). -/
def waiting (s : State) : List (Fin 16 × Entry) := ranked s.entries fun e => e.channel.isNone

/-- The number of entries in the queue (R142). -/
def entryCount (s : State) : Nat := s.entries.toList.countP (·.isSome)

/-- The number of CONSOLE and TENANT entries (R145, R164). -/
def postedCount (s : State) : Nat :=
  s.entries.toList.countP fun e =>
    match e with
    | some x => x.cls == .console || x.cls == .tenant
    | none => false

/-! ## Channels -/

/-- A channel that goes to STOPPING keeps its message; its stop timer starts (R149). -/
def toStopping (c : Channel) : Channel :=
  { c with state := .stopping, entry := none, play := none, stop := some Config.stopTime }

/-- A channel that goes to IDLE (R149, R152, R157). -/
def toIdle (c : Channel) : Channel :=
  { c with state := .idle, entry := none, message := none, play := none, stop := none }

/-- The play timeout in ms (R150). -/
def playTime (s : State) : Nat := seconds s.config.system.playTimeout

/-! ## Entries -/

/-- The queue without the entry of a slot; the age order of every younger entry falls by 1 (R142). -/
def withoutSlot (es : Vector (Option Entry) 16) (sl : Fin 16) (age : Nat) : Vector (Option Entry) 16 :=
  tabulate fun i =>
    if i = sl then none
    else es[i].map fun x => if age < x.age then { x with age := x.age - 1 } else x

/-- Remove the entry of a slot; if it was ON_CHANNEL, its channel goes to STOPPING (R149, R159). -/
def removeEntry (sl : Fin 16) (s : State) : State :=
  match s.entries[sl] with
  | none => s
  | some e =>
    let s1 := { s with entries := withoutSlot s.entries sl e.age }
    match e.channel with
    | none => s1
    | some c => s1.setChannel c (toStopping s1.channels[c])

/-- Create an entry in a slot, the youngest of the queue and WAITING (R142, R145, R146). -/
def createEntry (sl : Fin 16) (cls : AnnClass) (message : Byte) (floors : FloorSet) (rpt : Nat)
    (origin : Option (Fin 4)) (s : State) : State :=
  { s with
    entries := s.entries.set sl
      (some ⟨cls, message, floors, rpt, 0, origin, entryCount s, none⟩) }

/-- Give an entry another floor set; its message, plays done, age and state are kept (R146, R147). -/
def setFloors (sl : Fin 16) (fs : FloorSet) (s : State) : State :=
  match s.entries[sl] with
  | none => s
  | some e => { s with entries := s.entries.set sl (some { e with floors := fs }) }

/-! ## The regime's entries and stripping (R146 to R148, R160) -/

/-- The present floors of a status (R146). -/
def floorsOf (st : FloorStatus) (s : State) : FloorSet :=
  FloorSet.ofPred fun f => s.present f && s.floors[f].status == st

/-- The slot of the EVACUATE entry (R141). -/
def evacuateSlot : Fin 16 := 14
/-- The slot of the ALERT entry (R141). -/
def alertSlot : Fin 16 := 15

/-- One regime entry after an event: created, updated in place or removed by its floor set (the table of R146). -/
def regimeEntry (sl : Fin 16) (cls : AnnClass) (message : Byte) (fs : FloorSet) (s : State) : State :=
  if fs = 0 then removeEntry sl s
  else
    match s.entries[sl] with
    | none => createEntry sl cls message fs 0 none s
    | some _ => setFloors sl fs s

/-- The EVACUATE and ALERT entries after an event: by their sets while the regime is ACTIVE and not silenced (R146),
removed otherwise (R148, R160). The EVACUATE entry is handled first (R142). -/
def regimeEntries (s : State) : State :=
  if s.regime.state = .active ∧ s.regime.silenced = false then
    let s1 := regimeEntry evacuateSlot .evacuate s.config.system.evacuateMessage (floorsOf .evacuate s) s
    regimeEntry alertSlot .alert s.config.system.alertMessage (floorsOf .alert s) s1
  else removeEntry alertSlot (removeEntry evacuateSlot s)

/-- Strip the floors under the regime from the TENANT entry of a slot, removing it when it is left empty (R147). -/
def stripSlot (s : State) (sl : Fin 16) : State :=
  match s.entries[sl] with
  | none => s
  | some e =>
    if e.cls = .tenant then
      let fs := e.floors &&& ~~~(floorsOf .alert s ||| floorsOf .evacuate s)
      if fs = 0 then removeEntry sl s else setFloors sl fs s
    else s

/-- Strip every TENANT entry (R147, log entry 15). -/
def stripTenants (s : State) : State := (List.finRange 16).foldl stripSlot s

/-! ## Assignment (R150, R151) -/

/-- The lowest-numbered channel that is IDLE. -/
def lowestIdle (s : State) : Option (Fin 4) := (List.finRange 4).find? fun c => s.channels[c].state == .idle

/-- A channel starts to play the entry of a slot (R150). -/
def playOn (c : Fin 4) (sl : Fin 16) (e : Entry) (s : State) : State :=
  let s1 := { s with entries := s.entries.set sl (some { e with channel := some c }) }
  s1.setChannel c { s.channels[c] with
    state := .playing, entry := some sl, message := some e.message, play := some (playTime s), stop := none }

/-- First step of the assignment: while a channel is IDLE and an entry is WAITING, the highest-ranked WAITING entry
goes to the lowest-numbered IDLE channel. Four channels bound the steps (R150). -/
def fillIdle : Nat → State → State
  | 0, s => s
  | n + 1, s =>
    match lowestIdle s, waiting s with
    | some c, (sl, e) :: _ => fillIdle n (playOn c sl e s)
    | _, _ => s

/-- The entry that a PLAYING channel plays, with the channel. -/
def playingEntry (s : State) (c : Fin 4) : Option (Fin 4 × Fin 16 × Entry) :=
  if s.channels[c].state = .playing then
    match s.channels[c].entry with
    | some sl =>
      match s.entries[sl] with
      | some e => some (c, sl, e)
      | none => none
    | none => none
  else none

/-- The PLAYING channels with their entries. -/
def playing (s : State) : List (Fin 4 × Fin 16 × Entry) := (List.finRange 4).filterMap (playingEntry s)

/-- The lowest-ranked of some PLAYING entries. -/
def lowestOf : List (Fin 4 × Fin 16 × Entry) → Option (Fin 4 × Fin 16 × Entry)
  | [] => none
  | x :: xs =>
    match lowestOf xs with
    | none => some x
    | some y => if ranksAbove x.2.2 y.2.2 then some y else some x

/-- The number of STOPPING channels, S of R151. -/
def stoppingCount (s : State) : Nat := s.channels.toList.countP fun c => c.state == .stopping

/-- Second step of the assignment: while the (S + 1)th WAITING entry outranks the lowest-ranked PLAYING entry, that
entry returns to WAITING and its channel goes to STOPPING. Four channels bound the steps (R151). -/
def preempt : Nat → State → State
  | 0, s => s
  | n + 1, s =>
    match lowestOf (playing s), (waiting s)[stoppingCount s]? with
    | some (c, sl, e), some (_, w) =>
      if outranks w e then
        let s1 := { s with entries := s.entries.set sl (some { e with channel := none }) }
        preempt n (s1.setChannel c (toStopping s.channels[c]))
      else s
    | _, _ => s

/-- The assignment (R150). -/
def assign (s : State) : State := preempt 4 (fillIdle 4 s)

/-! ## Routing (R154, R155) -/

/-- The highest-ranked of some PLAYING entries whose floor set holds a floor. -/
def bestFor (f : Nat) : List (Fin 4 × Fin 16 × Entry) → Option (Fin 4 × Fin 16 × Entry)
  | [] => none
  | x :: xs =>
    if x.2.2.floors.has f then
      match bestFor f xs with
      | none => some x
      | some y => if ranksAbove x.2.2 y.2.2 then some x else some y
    else bestFor f xs

/-- The channel a floor is routed to (R154). -/
def routeOf (s : State) (f : Nat) : Option (Fin 4) :=
  if s.present f then (bestFor f (playing s)).map (·.1) else none

/-- The routing pattern as it stands: the routed channels of the present floors, none beyond (R155). -/
def pattern (s : State) : Pattern := tabulate fun f => if s.present f then s.floors[f].routed else none

/-- Begin a shift of the routing pattern; when one is in progress, another is due at its end (R155). -/
def beginShift (s : State) : State :=
  match s.chain.shift with
  | none => { s with chain := { s.chain with shift := some ⟨pattern s, Config.shiftTime⟩ } }
  | some _ => { s with chain := { s.chain with due := true } }

/-- The routing derived anew and copied into the floor table (R82, R154). -/
def deriveRouting (s : State) : State :=
  { s with floors := tabulate fun f => { s.floors[f] with routed := routeOf s f } }

/-- The routing, and a shift when the pattern changed (R154, R155). -/
def route (s : State) : State :=
  let s1 := deriveRouting s
  if pattern s1 = pattern s then s1 else beginShift s1

/-! ## Notices and the work at an event (R162, R163) -/

/-- What a QUEUE notice reports of an entry: class, message, floor set and state (R163). -/
def entryView (e : Entry) : AnnClass × Byte × FloorSet × Option (Fin 4) :=
  (e.cls, e.message, e.floors, e.channel)

/-- An entry was created or removed, or its floor set or state changed (R163). -/
def queueChanged (s0 s : State) : Bool :=
  (List.finRange 16).any fun sl => s0.entries[sl].map entryView != s.entries[sl].map entryView

/-- A channel's state, entry or message changed (R163). -/
def channelChanged (s0 s : State) : Bool :=
  (List.finRange 4).any fun c =>
    s0.channels[c].state != s.channels[c].state || s0.channels[c].entry != s.channels[c].entry ||
      s0.channels[c].message != s.channels[c].message

/-- A channel's voice lapse was set or cleared (R162, log entry 13). -/
def lapseChanged (s0 s : State) : Bool :=
  (List.finRange 4).any fun c => s0.channels[c].lapse != s.channels[c].lapse

/-- The router's notices and the voice flag for an event that led from `s0` (R162, R163). -/
def routerNotices (s0 s : State) : State :=
  let s1 := voiceFlag s0 s
  let s2 := raiseIf (lapseChanged s0 s) .trouble s1
  let s3 := raiseIf (queueChanged s0 s) .queue s2
  raiseIf (channelChanged s0 s) .channel s3

/-- The router's work at an event after the event's own changes: assignment, routing, notices (R147, R150, R154). -/
def routerFinish (s0 s : State) : State := routerNotices s0 (route (assign s))

/-- The router's work when the regime, silenced or the floor statuses changed: stripping, the regime's entries, then
assignment, routing and notices (R146, R147). -/
def routerSettle (s0 s : State) : State := routerFinish s0 (regimeEntries (stripTenants s))

end Sys2Proof.Machine
end

