-- ==== Sys2Proof/Machine/Lifts.lean ====
section
/-! DEFINITION. The lift recall unit: triggers, targets, no-stop sets, car warnings, and the judgement of reports and timeouts (chapter 5). -/

namespace Sys2Proof.Machine

/-! ## Causes and triggers (R90) -/

/-- The fire floors: present floors whose alarm count is at least 1 (R69). -/
def fireFloors (s : State) : FloorSet :=
  FloorSet.ofPred fun f => s.present f && s.floors[f].alarmCount != 0

/-- A car is a member of a group: it is present and names the group (R88). -/
def inGroup (s : State) (g : Fin 3) (c : Fin 12) : Bool :=
  s.config.cars[c].present && s.config.cars[c].group == g

/-- A floor is served by a group: by at least one present car of it (R88). -/
def groupServes (s : State) (g : Fin 3) (f : Nat) : Bool :=
  (List.finRange 12).any fun c => inGroup s g c && s.config.cars[c].served.has f

/-- A LOBBY line on a floor served by the group is ACTIVE (R90). -/
def lobbyCause (s : State) (g : Fin 3) : Bool :=
  (List.finRange 64).any fun i =>
    s.lines[i].state == .active && s.config.lines[i].kind == .lobby && groupServes s g s.config.lines[i].floor

/-- A HOISTWAY line whose link names the group is ACTIVE (R90, R96). -/
def hoistwayCause (s : State) (g : Fin 3) : Bool :=
  (List.finRange 64).any fun i =>
    s.lines[i].state == .active && s.config.lines[i].kind == .hoistway &&
      s.config.lines[i].link == some g.val

/-- An automatic cause stands for the group; none stands in QUIET (R90, R105; log entry 10). -/
def automaticCause (s : State) (g : Fin 3) : Bool :=
  s.config.lgroups[g].present && s.regime.state != .quiet &&
    (s.config.lgroups[g].recallAny || lobbyCause s g || hoistwayCause s g)

/-- Whether the group is triggered (R90). -/
def trigger (s : State) (g : Fin 3) : Bool :=
  automaticCause s g ||
    (s.config.lgroups[g].present && s.regime.state != .quiet && s.lgroups[g].manual)

/-- The target of a group: A when D is a fire floor and A is not, D otherwise; none for an absent group (R87, R93). -/
def targetOf (s : State) (g : Fin 3) : Option (Fin 48) :=
  let c := s.config.lgroups[g]
  if c.present then
    some (if (fireFloors s).has c.designated && !(fireFloors s).has c.alternate then c.alternate else c.designated)
  else none

/-! ## Cars -/

/-- Directive RECALL to a target. -/
def recallTo (t : Option (Fin 48)) (c : Car) : Car := { c with directive := .recall, target := t }

/-- An exempt mode: FIREFIGHTER or OUT_OF_SERVICE (R91, R98). -/
def exemptMode : ServiceMode → Bool
  | .firefighter => true
  | .outOfService => true
  | .normal => false
  | .independent => false

/-- A car at the rise of its group's trigger (R91). -/
def carRise (t : Option (Fin 48)) (c : Car) : Car :=
  if c.reported then
    match c.report with
    | some r =>
      if exemptMode r.mode then { c with phase := .exempt, directive := .none, target := none }
      else recallTo t { c with phase := .recalling }
    | none => recallTo t { c with phase := .lost }
  else recallTo t { c with phase := .lost }

/-- A car at the fall of its group's trigger (R92). -/
def carFall (c : Car) : Car :=
  { c with phase := .free, directive := .none, target := none, noStop := 0, warning := false }

/-- A car when its triggered group's target changes (R94). -/
def carRetarget (t : Option (Fin 48)) (c : Car) : Car :=
  match c.phase with
  | .free => c
  | .recalling => recallTo t c
  | .parked => recallTo t { c with phase := .recalling }
  | .lost => if c.directive = .none then c else recallTo t c
  | .exempt => c

/-- The no-stop set and the car warning of a car that is not FREE (R95, R96). -/
def carNoStop (s : State) (g : Fin 3) (served : FloorSet) (c : Car) : Car :=
  if c.phase = .free then c
  else
    { c with
      noStop := FloorSet.ofPred fun f =>
        (fireFloors s).has f && served.has f && s.lgroups[g].target != some f
      warning := hoistwayCause s g }

/-- A car after the groups have been judged anew: `old` is its group before, and `s` holds the group after. -/
def carSettle (s : State) (old : LGroup) (g : Fin 3) (served : FloorSet) (c : Car) : Car :=
  let new := s.lgroups[g]
  let c1 :=
    if !old.triggered && new.triggered then carRise new.target c
    else if old.triggered && !new.triggered then carFall c
    else if new.triggered && old.target != new.target then carRetarget new.target c
    else c
  carNoStop s g served c1

/-- Every group's trigger and target, judged anew (R90, R93). -/
def judgeGroups (s : State) : State :=
  { s with lgroups := tabulate fun g =>
      { s.lgroups[g] with triggered := trigger s g, target := targetOf s g } }

/-- Every present car, from the groups before (R91, R92, R94 to R96). -/
def settleCars (old : Vector LGroup 3) (s : State) : State :=
  { s with cars := tabulate fun c =>
      let k := s.config.cars[c]
      if k.present then carSettle s old[k.group] k.group k.served s.cars[c] else s.cars[c] }

/-! ## Notices (R102, R111) -/

/-- What a LIFT notice reports of a car (R111). -/
def carView (c : Car) : RecallState × Directive × Option (Fin 48) × FloorSet × Bool :=
  (c.phase, c.directive, c.target, c.noStop, c.warning)

/-- A group's flags or target, or a car's recall state or directive changed (R111). -/
def liftChanged (s0 s : State) : Bool :=
  (List.finRange 3).any (fun g => s0.lgroups[g] != s.lgroups[g]) ||
    (List.finRange 12).any (fun c => carView s0.cars[c] != carView s.cars[c])

/-- A car entered or left lift trouble (R102). -/
def liftTroubleChanged (s0 s : State) : Bool :=
  (List.finRange 12).any fun c => carInTrouble s0 c != carInTrouble s c

/-- The lift unit's notices and the lifts flag for an event that led from `s0` (R102, R111). -/
def liftNotices (s0 s : State) : State :=
  let s1 := liftsFlag s0 s
  let s2 := raiseIf (liftTroubleChanged s0 s) .trouble s1
  raiseIf (liftChanged s0 s) .lift s2

/-- The lift unit's work at an event that can change a cause, the regime or the fire floors (R90, R93, R95). -/
def liftSettle (s0 s : State) : State := liftNotices s0 (settleCars s.lgroups (judgeGroups s))

/-! ## Reports (R97 to R99) and timeouts (R100, R101) -/

/-- The car report timeout in ms (R100). -/
def carTime (s : State) : Nat := seconds s.config.system.carTimeout

/-- A position argument: a floor of the car's served set, or UNKNOWN (R97). -/
def carPosition (served : FloorSet) (b : Byte) : Option (Fin 48) :=
  match argIndex 48 b with
  | some f => if served.has f then some f else none
  | none => none

/-- A car stopped at the target with its doors open (R98). -/
def atTarget (t : Option (Fin 48)) (r : Report) : Bool :=
  r.position.isSome && r.position == t && r.motion == .stopped && r.doors == .opened

/-- A car judged on its new report by its recall state, against its group's target (the table of R98). -/
def judgeReport (t : Option (Fin 48)) (r : Report) (c : Car) : Car :=
  match c.phase with
  | .free => c
  | .parked =>
    if exemptMode r.mode then { c with phase := .exempt, directive := .none, target := none }
    else if r.position.isSome && r.position == t then { c with phase := .parked, directive := .park, target := t }
    else recallTo t { c with phase := .recalling }
  | .recalling | .lost | .exempt =>
    if exemptMode r.mode then { c with phase := .exempt, directive := .none, target := none }
    else if atTarget t r then { c with phase := .parked, directive := .park, target := t }
    else recallTo t { c with phase := .recalling }

/-- An accepted report of a car (R98). -/
def takeReport (c : Fin 12) (r : Report) (s : State) : State :=
  let k := s.cars[c]
  let t := s.lgroups[s.config.cars[c].group].target
  liftNotices s
    (s.setCar c (judgeReport t r
      { k with report := some r, reported := true, timer := some (carTime s), lapsed := false }))

/-- A car at the expiry of its report timer (the table of R101). -/
def carTimeoutPhase : RecallState → RecallState
  | .free => .free
  | .recalling => .lost
  | .parked => .lost
  | .exempt => .lost
  | .lost => .lost

/-- CAR REPORT, judged in the order of R97. -/
def carReportBody (p : Fin 4) (car position motion doors mode : Byte) (s : State) : State × Result :=
  if s.role p = some .lift then
    match argIndex 12 car with
    | none => refuse .range s
    | some c =>
      let k := s.config.cars[c]
      if k.present then
        if s.config.lgroups[k.group].reportPort = p then
          match argIn Motion.list motion, argIn CarDoors.list doors, argIn ServiceMode.list mode with
          | some m, some d, some v => accept (takeReport c ⟨carPosition k.served position, m, d, v⟩ s)
          | _, _, _ => refuse .range s
        else refuse .role s
      else refuse .range s
  else refuse .role s

/-- RECALL GROUP (R104). -/
def recallGroupBody (group : Byte) (s : State) : State × Result :=
  match argIndex 3 group with
  | none => refuse .range s
  | some g =>
    if s.config.lgroups[g].present then
      if s.lgroups[g].manual then accept s
      else accept (liftSettle s (s.setLGroup g { s.lgroups[g] with manual := true }))
    else refuse .range s

/-- RELEASE GROUP (R105). -/
def releaseGroupBody (group : Byte) (s : State) : State × Result :=
  match argIndex 3 group with
  | none => refuse .range s
  | some g =>
    if s.config.lgroups[g].present then
      if automaticCause s g then refuse .state s
      else if s.lgroups[g].manual then
        accept (liftSettle s (s.setLGroup g { s.lgroups[g] with manual := false }))
      else accept s
    else refuse .range s

/-! ## The steps -/

/-- CAR_REPORT_TIMEOUT (R101): reported is cleared, report lapsed set, and the car goes LOST unless it is FREE. A
timer that has not run out does not expire (log entry 2). -/
def execCarReportTimeout (c : Fin 12) (s : State) : Host.Outcome State Fault Refusal :=
  .next <|
    if timerDue s.cars[c].timer then
      liftNotices s (s.setCar c { s.cars[c] with
        timer := none, reported := false, lapsed := true, phase := carTimeoutPhase s.cars[c].phase })
    else s

/-- CAR_REPORT (R97, R98). -/
def execCarReport (p : Fin 4) (car position motion doors mode : Byte) (s : State) :
    Host.Outcome State Fault Refusal :=
  .next (command p (Instr.bytes (.carReport p car position motion doors mode))
    (afterLoad (carReportBody p car position motion doors mode)) s)

/-- RECALL_GROUP (R104). -/
def execRecallGroup (p : Fin 4) (group : Byte) (s : State) : Host.Outcome State Fault Refusal :=
  .next (command p (Instr.bytes (.recallGroup p group)) (controlled p (recallGroupBody group)) s)

/-- RELEASE_GROUP (R105). -/
def execReleaseGroup (p : Fin 4) (group : Byte) (s : State) : Host.Outcome State Fault Refusal :=
  .next (command p (Instr.bytes (.releaseGroup p group)) (controlled p (releaseGroupBody group)) s)

end Sys2Proof.Machine
end

