-- ==== Sys2Proof/Machine/Doors.lean ====
section
/-! DEFINITION. The door release unit: demand, release, the re-secure queue, current supervision, and its commands (chapter 6). -/

namespace Sys2Proof.Machine

/-! ## Members and demand (R112, R115) -/

/-- A circuit is a member of a group: it is present and names the group (R112). -/
def memberOf (s : State) (g : Fin 16) (c : Fin 32) : Bool :=
  s.config.doors[c].present && s.config.doors[c].group == g

/-- At least one member of the group stands on a floor whose status is EVACUATE (R115). -/
def memberEvacuates (s : State) (g : Fin 16) : Bool :=
  (List.finRange 32).any fun c =>
    memberOf s g c && s.present s.config.doors[c].floor &&
      s.floors[s.config.doors[c].floor].status == .evacuate

/-- Whether a door group has release demand (the table of R115). -/
def demand (s : State) (g : Fin 16) : Bool :=
  s.config.dgroups[g].present &&
    match s.dgroups[g].override with
    | .forceRelease => true
    | .forceSecure => false
    | .auto =>
      match s.config.dgroups[g].policy with
      | .onAlarm => s.regime.state == .active
      | .onEvacuate => memberEvacuates s g

/-! ## Release and queue (R116 to R119) -/

/-- A circuit when its group is released (the table of R116); its supervision is cleared when it leaves ON (R125). -/
def releaseDoor (d : Door) : Door :=
  match d.state with
  | .on => { d with state := .off, cool := none, candidate := none, count := 0 }
  | .tripped => { d with state := .off, cool := none, candidate := none, count := 0 }
  | .off => d
  | .latchedOff => d

/-- A group whose demand rises (R116). -/
def releaseGroup (g : Fin 16) (s : State) : State :=
  { s with
    dgroups := s.dgroups.set g { s.dgroups[g] with state := .released, openWait := none, notSecured := false }
    doors := tabulate fun c => if memberOf s g c then releaseDoor s.doors[c] else s.doors[c]
    resecure := s.resecure.filter (· ≠ g) }

/-- A group joins the tail of the re-secure queue; a stopped stagger timer starts (R117, R119). -/
def joinQueue (g : Fin 16) (s : State) : State :=
  { s with
    dgroups := s.dgroups.set g { s.dgroups[g] with state := .resecureWait }
    resecure := s.resecure ++ [g]
    stagger := some (s.stagger.getD Config.staggerTime) }

/-- One group's demand judged anew: a rise releases it, a fall queues it, and otherwise it is not touched (R115). A
group with demand is RELEASED and no other is, so the state tells the demand before (log entry 14). -/
def judgeDemand (s : State) (g : Fin 16) : State :=
  if s.config.dgroups[g].present then
    if demand s g then
      if s.dgroups[g].state = .released then s else releaseGroup g s
    else if s.dgroups[g].state = .released then joinQueue g s else s
  else s

/-- Every group's demand judged anew, in ascending group order (R115, R117). -/
def judgeDemands (s : State) : State := (List.finRange 16).foldl judgeDemand s

/-! ## Notices (R134, R135) -/

/-- A group's override, state, not-secured flag or membership of the queue changed, or a circuit's state or trip count
(R135). -/
def doorChanged (s0 s : State) : Bool :=
  (List.finRange 16).any (fun g =>
    s0.dgroups[g].override != s.dgroups[g].override || s0.dgroups[g].state != s.dgroups[g].state ||
      s0.dgroups[g].notSecured != s.dgroups[g].notSecured ||
      s0.resecure.contains g != s.resecure.contains g) ||
    (List.finRange 32).any (fun c =>
      s0.doors[c].state != s.doors[c].state || s0.doors[c].trips != s.doors[c].trips)

/-- A standing door trouble began or ended (R134). -/
def doorTroubleChanged (s0 s : State) : Bool :=
  (List.finRange 32).any (fun c =>
    latchTrouble s0 c != latchTrouble s c || openTrouble s0 c != openTrouble s c) ||
    (List.finRange 16).any (fun g => notSecuredTrouble s0 g != notSecuredTrouble s g)

/-- The door unit's notices and the doors flag for an event that led from `s0` (R134, R135). -/
def doorNotices (s0 s : State) : State :=
  let s1 := doorsFlag s0 s
  let s2 := raiseIf (doorTroubleChanged s0 s) .trouble s1
  raiseIf (doorChanged s0 s) .door s2

/-- The door unit's work at an event that can change a demand (R115). -/
def doorSettle (s0 s : State) : State := doorNotices s0 (judgeDemands s)

/-- Every FORCE_SECURE group reverts to AUTO when the regime leaves QUIET (R51, R131). -/
def revertForceSecure (s : State) : State :=
  { s with dgroups := tabulate fun g =>
      if s.dgroups[g].override = .forceSecure then { s.dgroups[g] with override := .auto } else s.dgroups[g] }

/-! ## Taking the head (R120) -/

/-- A member's door reads closed: every CONTACT line of kind DOOR_POSITION linked to it is NORMAL (R120). -/
def readsClosed (s : State) (c : Fin 32) : Bool :=
  (List.finRange 64).all fun i =>
    !(s.config.lines[i].mode == .contact && s.config.lines[i].kind == .doorPosition &&
        s.config.lines[i].link == some c.val) ||
      s.lines[i].state == .normal

/-- Every member's door of a group reads closed (R120). -/
def groupClosed (s : State) (g : Fin 16) : Bool :=
  (List.finRange 32).all fun c => !memberOf s g c || readsClosed s c

/-- A circuit when its group is secured: OFF goes to ON (R120). -/
def secureDoor (d : Door) : Door :=
  match d.state with
  | .off => { d with state := .on }
  | .on => d
  | .tripped => d
  | .latchedOff => d

/-- A group that is taken and secured (R120). -/
def secureGroup (g : Fin 16) (s : State) : State :=
  { s with
    dgroups := s.dgroups.set g { s.dgroups[g] with state := .secured, openWait := none, notSecured := false }
    doors := tabulate fun c => if memberOf s g c then secureDoor s.doors[c] else s.doors[c] }

/-- The open-wait timer of a group that is taken and found open: it starts when it is stopped and not-secured is
clear, and otherwise stays as it stands (R120). -/
def openWaitTaken (x : DGroup) : Option Nat :=
  match x.openWait with
  | some n => some n
  | none => if x.notSecured then none else some Config.openWaitTime

/-- A group that is taken and found open rejoins the tail (R120). -/
def rejoin (g : Fin 16) (s : State) : State :=
  { s with
    dgroups := s.dgroups.set g { s.dgroups[g] with openWait := openWaitTaken s.dgroups[g] }
    resecure := s.resecure ++ [g] }

/-- The head group is taken: it is secured when its doors read closed or it is FORCE_SECURE, and rejoins the tail
otherwise (R120). -/
def takeHead (g : Fin 16) (rest : List (Fin 16)) (s : State) : State :=
  let s1 := { s with resecure := rest }
  if groupClosed s g || s.dgroups[g].override == .forceSecure then secureGroup g s1 else rejoin g s1

/-! ## Current supervision (R123 to R128) -/

/-- The code that the converter gives for a lock current in mA (R14). The wiring gives the codes of slot completions; no
meaning reads a true current. -/
def lockCode (current : Nat) : BitVec 10 := BitVec.ofNat 10 (min 1023 ((1024 * current + 1000) / 2000))

/-- The current of a code in mA (R14). -/
def currentOf (code : BitVec 10) : Nat := code.toNat * 1000 / 512

/-- The class of a current (R123): the over-current test is made first. -/
def classOf (sys : SystemCfg) (current : Nat) : CurrentClass :=
  if sys.overCurrent ≤ current then .over
  else if current < sys.openCurrent then .openCircuit
  else .normal

/-- The supervision threshold Q of a class (R124). -/
def classQ : CurrentClass → Nat
  | .over => 2
  | .openCircuit => 42
  | .normal => 3

/-- The supervision count after a class (R124). -/
def superviseCount (k : CurrentClass) (d : Door) : Nat :=
  if d.candidate = some k then min (d.count + 1) (classQ k) else 1

/-- Whether the class qualifies at this reading: it brings the count to Q (R124). -/
def superviseQualifies (k : CurrentClass) (d : Door) : Bool :=
  superviseCount k d == classQ k && !(d.candidate == some k && classQ k ≤ d.count)

/-- An over-current trip (R126). -/
def trip (d : Door) : Door :=
  let n := min (d.trips + 1) 7
  if n < 7 then
    { d with state := .tripped, trips := n, cool := some Config.coolDownTime, candidate := none, count := 0 }
  else { d with state := .latchedOff, trips := n, cool := none, candidate := none, count := 0 }

/-- A circuit after a reading that is taken (R123, R124, R126, R128). -/
def supervise (sys : SystemCfg) (current : Nat) (d : Door) : Door :=
  let k := classOf sys current
  let d1 := { d with current := current, candidate := some k, count := superviseCount k d }
  if superviseQualifies k d then
    match k with
    | .over => trip d1
    | .openCircuit => { d1 with openFault := true }
    | .normal => { d1 with openFault := false }
  else d1

/-! ## Commands (R130, R133) -/

/-- DOOR OVERRIDE on a group (R130). -/
def overrideGroup (g : Fin 16) (o : Override) (s : State) : State :=
  if s.dgroups[g].override = o then s
  else doorNotices s (judgeDemand (s.setDGroup g { s.dgroups[g] with override := o }) g)

/-- DOOR OVERRIDE, judged in the order of R130. -/
def doorOverrideBody (group override : Byte) (s : State) : State × Result :=
  match argIndex 16 group, argIn Override.list override with
  | some g, some o =>
    if s.config.dgroups[g].present then
      if o = .forceSecure ∧ s.regime.state ≠ .quiet then refuse .state s
      else accept (overrideGroup g o s)
    else refuse .range s
  | _, _ => refuse .range s

/-- A circuit whose fault history is cleared (R133). -/
def clearFault (secured : Bool) (d : Door) : Door :=
  { d with
    trips := 0, openFault := false, candidate := none, count := 0
    state := if d.state = .latchedOff then (if secured then .on else .off) else d.state }

/-- CLEAR DOOR FAULT (R133). -/
def clearDoorFaultBody (circuit : Byte) (s : State) : State × Result :=
  match argIndex 32 circuit with
  | none => refuse .range s
  | some c =>
    if s.config.doors[c].present then
      let secured := s.dgroups[s.config.doors[c].group].state == .secured
      accept (doorNotices s (s.setDoor c (clearFault secured s.doors[c])))
    else refuse .range s

/-! ## The steps -/

/-- DOOR_SENSE_SLOT_COMPLETION (R14, R15): the reading of a present circuit in ON is taken and supervised; any other
is discarded. The slots complete in their order, and none completes during the load (R1, R2; log entry 4). -/
def execDoorSenseSlotCompletion (c : Fin 32) (code : BitVec 10) (s : State) :
    Host.Outcome State Fault Refusal :=
  .next <|
    if inSlot s (doorSlot c) then
      let s1 := { s with scanSlot := some (nextSlot (doorSlot c)) }
      if s.config.doors[c].present && s.doors[c].state == .on then
        doorNotices s (s1.setDoor c (supervise s.config.system (currentOf code) s.doors[c]))
      else s1
    else s

/-- STAGGER_EXPIRY (R119): the head is taken and the timer restarts, or the timer stops on an empty queue. -/
def execStaggerExpiry (s : State) : Host.Outcome State Fault Refusal :=
  .next <|
    if timerDue s.stagger then
      match s.resecure with
      | [] => { s with stagger := none }
      | g :: rest => doorNotices s (takeHead g rest { s with stagger := some Config.staggerTime })
    else s

/-- OPEN_WAIT_EXPIRY (R121): not-secured is set and the group enters door trouble. -/
def execOpenWaitExpiry (g : Fin 16) (s : State) : Host.Outcome State Fault Refusal :=
  .next <|
    if timerDue s.dgroups[g].openWait then
      doorNotices s (s.setDGroup g { s.dgroups[g] with openWait := none, notSecured := true })
    else s

/-- COOL_DOWN_EXPIRY (R127): a TRIPPED circuit goes to ON, supervised afresh. -/
def execCoolDownExpiry (c : Fin 32) (s : State) : Host.Outcome State Fault Refusal :=
  .next <|
    if timerDue s.doors[c].cool then
      doorNotices s (s.setDoor c { s.doors[c] with state := .on, cool := none })
    else s

/-- DOOR_OVERRIDE (R130). -/
def execDoorOverride (p : Fin 4) (group override : Byte) (s : State) : Host.Outcome State Fault Refusal :=
  .next (command p (Instr.bytes (.doorOverride p group override)) (controlled p (doorOverrideBody group override)) s)

/-- CLEAR_DOOR_FAULT (R133). -/
def execClearDoorFault (p : Fin 4) (circuit : Byte) (s : State) : Host.Outcome State Fault Refusal :=
  .next (command p (Instr.bytes (.clearDoorFault p circuit)) (controlled p (clearDoorFaultBody circuit)) s)

end Sys2Proof.Machine
end

