-- ==== Sys2Proof/Machine/Floors.lean ====
section
/-! DEFINITION. The floor table: rings, statuses, and the stop of the spread timer (chapter 4). -/

namespace Sys2Proof.Machine

/-! ## Rings (R72) -/

/-- The distance between two floors. -/
def floorDistance (f g : Nat) : Nat := (f - g) + (g - f)

/-- The least of some numbers, none of none. -/
def leastOf : List Nat → Option Nat
  | [] => none
  | x :: xs =>
    match leastOf xs with
    | none => some x
    | some y => some (min x y)

/-- The distance of a floor to a fire floor; none for a floor that is no fire floor. -/
def distanceTo (fires : FloorSet) (f : Nat) (g : Fin 48) : Option Nat :=
  if fires.has g then some (floorDistance f g) else none

/-- The ring of a floor: the least distance to a fire floor, none when there is no fire floor (R72). -/
def ringOf (fires : FloorSet) (f : Nat) : Option Nat :=
  leastOf ((List.finRange 48).filterMap (distanceTo fires f))

/-! ## Statuses (R73) -/

/-- The status that a ring gives in ACTIVE with evacuate-all clear (rows 3 to 6 of R73). -/
def statusByRing (r margin : Nat) : Option Nat → FloorStatus
  | none => .none
  | some k => if k ≤ r then .evacuate else if k ≤ r + margin then .alert else .none

/-- The status of a present floor (the table of R73). -/
def statusOf (g : Regime) (margin : Nat) (ring : Option Nat) : FloorStatus :=
  match g.state with
  | .quiet => .none
  | .holdAck => .none
  | .holdInvestigate => .none
  | .active => if g.evacuateAll then .evacuate else statusByRing g.r margin ring

/-- A floor record with its ring and status derived anew (R72, R74). -/
def deriveFloor (g : Regime) (margin : Nat) (ring : Option Nat) (x : Floor) : Floor :=
  { x with ring := ring, status := statusOf g margin ring }

/-- Every present floor's ring and status derived anew; an index from NFLOOR on has no record and keeps its values
(R69, R72, R74). -/
def deriveFloors (s : State) : State :=
  { s with floors := tabulate fun f =>
      if s.present f then
        deriveFloor s.regime s.config.system.alertMargin (ringOf (fireFloors s) f) s.floors[f]
      else s.floors[f] }

/-- Every present floor is EVACUATE (R78). -/
def allEvacuate (s : State) : Bool :=
  (List.finRange 48).all fun f => !s.present f || s.floors[f].status == .evacuate

/-- The spread timer stops, and spread-held clears, when every present floor is EVACUATE in ACTIVE (R78). A timer that has
run out at this very moment still has its expiry, which stops it (R80; log entry 27). -/
def spreadStop (s : State) : State :=
  if s.regime.state == .active && allEvacuate s && !spreadDue s.regime.spread then
    s.setRegime { s.regime with spread := .stopped, spreadHeld := false }
  else s

/-- The status of one or more floors changed (R83). -/
def statusChanged (s0 s : State) : Bool :=
  (List.finRange 48).any fun f => s0.floors[f].status != s.floors[f].status

/-- The FLOOR notice of an event that led from `s0` (R83). -/
def floorNotice (s0 s : State) : State := raiseIf (statusChanged s0 s) .floor s

end Sys2Proof.Machine
end

