-- ==== Sys2Proof/Machine/Regime.lean ====
section
/-! DEFINITION. The regime controller: leaving QUIET, entering ACTIVE, the hold, silence, evacuate-all, the spread, console control, and the work of all units when the regime or the floor table changes (chapter 3). -/

namespace Sys2Proof.Machine

/-! ## Notices and the hand-off -/

/-- The fields whose change raises a REGIME notice (R68). -/
def regimeView (g : Regime) : RegimeState × Option (Fin 64) × Bool × Nat × Bool × Bool :=
  (g.state, g.firstAlarm, g.silenced, g.r, g.spreadHeld, g.evacuateAll)

/-- The REGIME notice of an event that led from `s0` (R68). -/
def regimeNotice (s0 s : State) : State := raiseIf (regimeView s0.regime != regimeView s.regime) .regime s

/-- The floor table after a change of the regime or of the fire floors: rings and statuses, the stop of the spread
timer, and the two notices (R72, R74, R78, R83, R68). -/
def floorSettle (s0 s : State) : State :=
  regimeNotice s0 (floorNotice s0 (spreadStop (deriveFloors s)))

/-- The work of every unit at an event that changed the regime, a line's ACTIVE state or the fire floors: the floor
table, then its three readers, each on the state as the event leaves it (R50, R51, R63, R76). `s0` is the state before
the event. -/
def settle (s0 s : State) : State :=
  routerSettle s0 (doorSettle s0 (liftSettle s0 (floorSettle s0 s)))

/-! ## Entries and exits -/

/-- The spread timer as it starts at its configured interval; 0 means no spread (R50, R77). -/
def spreadStart (interval : Nat) : SpreadTimer :=
  if interval = 0 then .stopped else .running (seconds interval)

/-- A timer of so many seconds as it starts; one of 0 s does not run (R50, R56). -/
def startSeconds (n : Nat) : Option Nat := if n = 0 then none else some (seconds n)

/-- The regime record at its entry to ACTIVE (R50). -/
def activeRegime (sys : SystemCfg) (g : Regime) : Regime :=
  { g with
    state := .active, hold := none, silenced := false, inhibit := startSeconds sys.silenceInhibit
    r := sys.initialRadius, spreadHeld := false
    spread := if g.evacuateAll then .stopped else spreadStart sys.spreadInterval }

/-- The regime enters ACTIVE (R50). -/
def enterActive (s : State) : State := s.setRegime (activeRegime s.config.system s.regime)

/-- The line is the only fire-kind line in ACTIVE (R49). -/
def onlyFire (s : State) (i : Fin 64) : Bool :=
  (List.finRange 64).all fun j => j == i || !fireActive s.config.lines[j] s.lines[j]

/-- The three conditions under which a first alarm is held (R49). -/
def holds (s : State) (i : Fin 64) : Bool :=
  s.config.system.holdEnabled && LineKind.holdEligible s.config.lines[i].kind && onlyFire s i

/-- Entry to HOLD_ACK: the hold timer starts at the acknowledge window (R49). -/
def enterHold (s : State) : State :=
  s.setRegime { s.regime with state := .holdAck, hold := some (seconds s.config.system.ackWindow) }

/-- The regime at a fire-kind line that has entered ACTIVE: QUIET is left for HOLD_ACK or ACTIVE, a hold ends in
ACTIVE, and in ACTIVE silenced is cleared (R49, R51, R53, R54, R58). -/
def fireLine (i : Fin 64) (s : State) : State :=
  match s.regime.state with
  | .quiet =>
    let s1 := revertForceSecure (s.setRegime { s.regime with firstAlarm := some i })
    if holds s i then enterHold s1 else enterActive s1
  | .holdAck => enterActive s
  | .holdInvestigate => enterActive s
  | .active => s.setRegime { s.regime with silenced := false }

/-! ## Console control (R44 to R48) -/

/-- A change of the holder, with its CONTROL notice (R44). -/
def setHolder (h : Option (Fin 4)) (s : State) : State :=
  raise (Notice.bit .control) (s.setRegime { s.regime with holder := h })

/-- The rank of a port as a number: 0 for none, which TAKE CONTROL never meets (R165). -/
def rankValue (s : State) (p : Fin 4) : Nat := (s.rank p).getD 0

/-- TAKE CONTROL after STARTING, judged in the order of R45. -/
def takeControlBody (p : Fin 4) (s : State) : State × Result :=
  if s.role p = some .console then
    match s.regime.holder with
    | none => accept (setHolder (some p) s)
    | some h =>
      if h = p then accept s
      else if rankValue s h < rankValue s p then accept (setHolder (some p) s)
      else refuse .held s
  else refuse .role s

/-- RELEASE CONTROL from the holder (R46). -/
def releaseControlBody (s : State) : State × Result := accept (setHolder none s)

/-! ## The commands of the regime -/

/-- ACKNOWLEDGE (R52). With an investigate time of 0 s the regime goes through HOLD_INVESTIGATE to ACTIVE. -/
def acknowledgeBody (s : State) : State × Result :=
  match s.regime.state with
  | .holdAck =>
    if s.config.system.investigateTime = 0 then accept (settle s (enterActive s))
    else
      accept (regimeNotice s (s.setRegime { s.regime with
        state := .holdInvestigate, hold := some (seconds s.config.system.investigateTime) }))
  | .quiet => refuse .state s
  | .holdInvestigate => refuse .state s
  | .active => refuse .state s

/-- A change of silenced, with the router's entries and the REGIME notice (R57, R58). -/
def setSilenced (b : Bool) (s : State) : State :=
  regimeNotice s (routerSettle s (s.setRegime { s.regime with silenced := b }))

/-- SILENCE (R57). -/
def silenceBody (s : State) : State × Result :=
  match s.regime.state with
  | .active =>
    if s.regime.inhibit.isSome then refuse .tooEarly s
    else if s.regime.silenced then accept s
    else accept (setSilenced true s)
  | .quiet => refuse .state s
  | .holdAck => refuse .state s
  | .holdInvestigate => refuse .state s

/-- RESOUND (R58). -/
def resoundBody (s : State) : State × Result :=
  if s.regime.state = .active ∧ s.regime.silenced = true then accept (setSilenced false s)
  else refuse .state s

/-- EVACUATE ALL (R59). -/
def evacuateAllBody (s : State) : State × Result :=
  let s1 := s.setRegime { s.regime with evacuateAll := true }
  match s.regime.state with
  | .quiet => accept (settle s (enterActive (revertForceSecure s1)))
  | .holdAck => accept (settle s (enterActive s1))
  | .holdInvestigate => accept (settle s (enterActive s1))
  | .active =>
    if s.regime.evacuateAll then accept s
    else
      accept (settle s (s1.setRegime { s1.regime with spread := .stopped, spreadHeld := false }))

/-- SPREAD HOLD (R60). With every present floor EVACUATE a timer that only waits for its expiry is not frozen (log entry
27). -/
def spreadHoldBody (s : State) : State × Result :=
  match s.regime.state, s.regime.spread with
  | .active, .running n =>
    if allEvacuate s then refuse .state s
    else accept (regimeNotice s (s.setRegime { s.regime with spread := .frozen n, spreadHeld := true }))
  | _, _ => refuse .state s

/-- The spread timer resumed from its frozen remaining time (R61). -/
def thaw : SpreadTimer → SpreadTimer
  | .frozen n => .running n
  | .running n => .running n
  | .stopped => .stopped

/-- SPREAD RESUME (R61). -/
def spreadResumeBody (s : State) : State × Result :=
  if s.regime.state = .active ∧ s.regime.spreadHeld = true then
    accept (regimeNotice s
      (s.setRegime { s.regime with spread := thaw s.regime.spread, spreadHeld := false }))
  else refuse .state s

/-! ## The steps -/

/-- HOLD_TIMER_EXPIRY (R53, R54): the hold ends in ACTIVE. An expiry whose timer was restarted or stopped before it was
taken no longer exists (R55). -/
def execHoldTimerExpiry (s : State) : Host.Outcome State Fault Refusal :=
  .next (if timerDue s.regime.hold then settle s (enterActive s) else s)

/-- SILENCE_INHIBIT_EXPIRY (R56): the timer reads none; no notice. -/
def execSilenceInhibitExpiry (s : State) : Host.Outcome State Fault Refusal :=
  .next (if timerDue s.regime.inhibit then s.setRegime { s.regime with inhibit := none } else s)

/-- SPREAD_EXPIRY (R77): r grows by 1, statuses are derived anew, and the timer restarts unless every present floor is
EVACUATE. A new fire floor of the same moment that is taken first leaves the expiry to come, so r is the same for both
orders (R80). -/
def execSpreadExpiry (s : State) : Host.Outcome State Fault Refusal :=
  .next <|
    if spreadDue s.regime.spread then
      settle s (s.setRegime { s.regime with
        r := min 47 (s.regime.r + 1), spread := spreadStart s.config.system.spreadInterval })
    else s

/-- TAKE_CONTROL (R45). -/
def execTakeControl (p : Fin 4) (s : State) : Host.Outcome State Fault Refusal :=
  .next (command p (Instr.bytes (.takeControl p)) (afterLoad (takeControlBody p)) s)

/-- RELEASE_CONTROL (R46). -/
def execReleaseControl (p : Fin 4) (s : State) : Host.Outcome State Fault Refusal :=
  .next (command p (Instr.bytes (.releaseControl p)) (controlled p releaseControlBody) s)

/-- ACKNOWLEDGE (R52). -/
def execAcknowledge (p : Fin 4) (s : State) : Host.Outcome State Fault Refusal :=
  .next (command p (Instr.bytes (.acknowledge p)) (controlled p acknowledgeBody) s)

/-- SILENCE (R57). -/
def execSilence (p : Fin 4) (s : State) : Host.Outcome State Fault Refusal :=
  .next (command p (Instr.bytes (.silence p)) (controlled p silenceBody) s)

/-- RESOUND (R58). -/
def execResound (p : Fin 4) (s : State) : Host.Outcome State Fault Refusal :=
  .next (command p (Instr.bytes (.resound p)) (controlled p resoundBody) s)

/-- EVACUATE_ALL (R59). -/
def execEvacuateAll (p : Fin 4) (s : State) : Host.Outcome State Fault Refusal :=
  .next (command p (Instr.bytes (.evacuateAll p)) (controlled p evacuateAllBody) s)

/-- SPREAD_HOLD (R60). -/
def execSpreadHold (p : Fin 4) (s : State) : Host.Outcome State Fault Refusal :=
  .next (command p (Instr.bytes (.spreadHold p)) (controlled p spreadHoldBody) s)

/-- SPREAD_RESUME (R61). -/
def execSpreadResume (p : Fin 4) (s : State) : Host.Outcome State Fault Refusal :=
  .next (command p (Instr.bytes (.spreadResume p)) (controlled p spreadResumeBody) s)

end Sys2Proof.Machine
end

