-- ==== Sys2Proof/Machine/Lines.lean ====
section
/-! DEFINITION. The line scanner: measurement, qualification, the line state machine, retards, verification, isolation, and RESET REGIME, whose first work is the lines' (chapters 1 and 2, R62, R63). -/

namespace Sys2Proof.Machine

/-! ## Measurement (chapter 1) -/

/-- The code that the converter gives for a loop of a resistance in ohms, `none` for an open loop (R3). The wiring gives
the codes of slot completions; no meaning reads a resistance. -/
def loopCode : Option Nat → BitVec 10
  | none => 1023
  | some r => BitVec.ofNat 10 (min 1023 ((2048 * r + (r + 3300)) / (2 * (r + 3300))))

/-- The resistance estimate of a code, capped (R5). -/
def estimate (code : BitVec 10) : Nat := min 65535 (3300 * code.toNat / (1024 - code.toNat))

/-- A history after an estimate joins it: at most 4 entries, oldest first (R6). -/
def joinHistory (h : List Nat) (x : Nat) : List Nat :=
  if h.length < 4 then h ++ [x] else h.tail ++ [x]

/-- The average of a history, none while it is empty (R8). -/
def average (h : List Nat) : Option Nat := if h.isEmpty then none else some (h.sum / h.length)

/-- The band of an average (R10). -/
def bandOf (b : BandSetCfg) (a : Nat) : Band :=
  if a < b.tShort then .short
  else if a < b.tAlarm then .alarm
  else if a ≤ b.tOpen then .normal
  else .openLoop

/-- The contact rule (R11). -/
def contactBand (code : BitVec 10) : Band := if code.toNat < 512 then .alarm else .normal

/-- The history after a sample that is taken (R6, R11). -/
def sampleHistory (c : LineCfg) (code : BitVec 10) (l : Line) : List Nat :=
  match c.mode with
  | .supervised => joinHistory l.history (estimate code)
  | .contact => l.history
  | .unused => l.history

/-- The raw band of a sample that is taken (R10, R11). -/
def sampleBand (c : LineCfg) (b : BandSetCfg) (code : BitVec 10) (l : Line) : Band :=
  match c.mode with
  | .supervised => bandOf b ((average (joinHistory l.history (estimate code))).getD 0)
  | .contact => contactBand code
  | .unused => contactBand code

/-- A power group whose members' codes are discarded (R4). -/
def freezes : PGroupState → Bool
  | .reset => true
  | .settle => true
  | .idle => false
  | .window => false

/-- A code is taken as a sample, and not discarded (R4). -/
def sampled (c : LineCfg) (g : PGroupState) (l : Line) : Bool :=
  c.mode != .unused && l.state != .isolated && !(c.mode == .supervised && freezes g)

/-! ## Qualification (R23, R24) -/

/-- The threshold Q of a band (R23). -/
def bandQ : Band → Nat
  | .alarm => 3
  | .normal => 3
  | .openLoop => 42
  | .short => 42

/-- The agree count after a raw band (R23). -/
def agreeCount (b : Band) (l : Line) : Nat :=
  if l.candidate = some b then min (l.agree + 1) (bandQ b) else 1

/-- The raw band qualifies at this sample: it brings the count to Q (R24). -/
def qualifies (b : Band) (l : Line) : Bool :=
  agreeCount b l == bandQ b && !(l.candidate == some b && bandQ b ≤ l.agree)

/-- A line whose qualification is cleared (R25). -/
def clearQualification (l : Line) : Line := { l with candidate := none, agree := 0, qualified := none }

/-- A line whose history is emptied (R7). -/
def emptyHistory (l : Line) : Line := { l with history := [], rawBand := none }

/-! ## The line state machine (R26 to R28, R34) -/

/-- A line in ACTIVE, with no retard running. -/
def toActive (l : Line) : Line := { l with state := .active, retard := none }

/-- The state of a line of an accepted trouble band or of NORMAL; a running retard stops (R27, R30). -/
def toState (st : LineState) (l : Line) : Line := { l with state := st, retard := none }

/-- A member qualifies ALARM such that its power group starts verification (R26 first case, R32). -/
def startsVerification (c : LineCfg) (g : PGroupState) (r : RegimeState) (l : Line) : Bool :=
  c.kind == .smoke && c.verification && c.mode == .supervised && g == .idle && r != .active &&
    (l.state == .normal || l.state == .troubleOpen || l.state == .troubleShort)

/-- A NORMAL or trouble line whose qualified band becomes ALARM (R26, R34). -/
def onAlarm (c : LineCfg) (retardSeconds : Nat) (g : PGroupState) (r : RegimeState) (l : Line) : Line :=
  if startsVerification c g r l then toState .verifying l
  else if c.kind = .flow ∧ ¬(c.mode = .supervised ∧ g = .window) then
    if retardSeconds = 0 then toActive l else { l with state := .normal, retard := some (seconds retardSeconds) }
  else toActive l

/-- A NORMAL or trouble line whose qualified band changes (R26, R27). -/
def onBand (c : LineCfg) (retardSeconds : Nat) (g : PGroupState) (r : RegimeState) (b : Band) (l : Line) : Line :=
  match b with
  | .alarm => onAlarm c retardSeconds g r l
  | .normal => toState .normal l
  | .openLoop => toState .troubleOpen l
  | .short => toState .troubleShort l

/-- A VERIFYING member whose qualified band changes, which happens in WINDOW (R34). -/
def onVerifying (b : Band) (l : Line) : Line :=
  match b with
  | .alarm => toActive l
  | .normal => l
  | .openLoop => toState .troubleOpen l
  | .short => toState .troubleShort l

/-- A line in ACTIVE whose qualified band changes (R28). -/
def onActive (c : LineCfg) (b : Band) (l : Line) : Line :=
  if !LineKind.latched c.kind && b == .normal then toState .normal l else l

/-- The line state machine on a newly qualified band (R26 to R28, R34). -/
def lineMachine (c : LineCfg) (retardSeconds : Nat) (g : PGroupState) (r : RegimeState) (b : Band) (l : Line) :
    Line :=
  match l.state with
  | .normal => onBand c retardSeconds g r b l
  | .troubleOpen => onBand c retardSeconds g r b l
  | .troubleShort => onBand c retardSeconds g r b l
  | .verifying => onVerifying b l
  | .active => onActive c b l
  | .isolated => l
  | .unused => l

/-! ## Changing a line -/

/-- A count after an item that it counted, or did not, is counted, or is not. -/
def recount (before after : Bool) (n : Nat) : Nat :=
  if !before && after then n + 1 else if before && !after then n - 1 else n

/-- The floor record of a line that changes from `l` to `l'` (R70, R71). -/
def countFloor (c : LineCfg) (l l' : Line) (x : Floor) : Floor :=
  { x with
    alarmCount := recount (fireActive c l) (fireActive c l') x.alarmCount
    troubleCount := recount (lineInTrouble c l) (lineInTrouble c l') x.troubleCount }

/-- The lines flag after the trouble counts changed from those of `s0` (R66, R71). -/
def linesFlag (s0 s : State) : State :=
  setTrouble { s.regime.trouble with
    lines := summaryFlag s.regime.trouble.lines (anyLineTrouble s0.floors) (anyLineTrouble s.floors) } s

/-- A change that raises an ALARM notice: a fire-kind line enters ACTIVE, or a line enters VERIFYING (R22). -/
def alarmChange (c : LineCfg) (l l' : Line) : Bool :=
  (fireActive c l' && !fireActive c l) || (l'.state == .verifying && l.state != .verifying)

/-- Replace a line: its floor's counts, the lines flag, and the ALARM and TROUBLE notices follow (R21, R22, R66). -/
def changeLine (i : Fin 64) (l' : Line) (s : State) : State :=
  let c := s.config.lines[i]
  let l := s.lines[i]
  let s1 := (s.setLine i l').setFloor c.floor (countFloor c l l' s.floors[c.floor])
  let s2 := linesFlag s s1
  raiseIf (lineTroubleChange c l l') .trouble (raiseIf (alarmChange c l l') .alarm s2)

/-- A change of one line as an event: the regime and the other units act when the line enters ACTIVE as a fire kind
(R22, R49). -/
def lineEvent (i : Fin 64) (l' : Line) (s : State) : State :=
  let s1 := changeLine i l' s
  if fireActive s.config.lines[i] l' && !fireActive s.config.lines[i] s.lines[i] then
    settle s (fireLine i s1)
  else s1

/-- The power group of a line's record. -/
def groupOf (s : State) (i : Fin 64) : PGroup := s.pgroups[s.config.lines[i].powerGroup]

/-- A line is a member of a power group: it is SUPERVISED and names the group (R19). -/
def groupMember (s : State) (g : Fin 8) (i : Fin 64) : Bool :=
  s.config.lines[i].mode == .supervised && s.config.lines[i].powerGroup == g

/-- A group's return to IDLE, with no timer and loop power on (R36, R38, R40). -/
def groupIdle : PGroup := pgroupReset

/-- The start of verification: RESET, 4 s, loop power off (R32). -/
def groupReset : PGroup where
  state := .reset
  timer := some Config.resetTime

/-! ## The completion of a line's slot -/

/-- A line after a sample: history, raw band, candidate and count (R6, R10, R11, R23). -/
def measured (c : LineCfg) (b : BandSetCfg) (code : BitVec 10) (l : Line) : Line :=
  let k := sampleBand c b code l
  { l with
    history := sampleHistory c code l, rawBand := some k, candidate := some k, agree := agreeCount k l }

/-- The newly qualified band of a sample, if one qualifies that differs from the qualified band (R24). -/
def newBand (k : Band) (l : Line) : Option Band :=
  if qualifies k l && l.qualified != some k then some k else none

/-- A sample taken (R4 to R12, R23 to R28, R32, R34). -/
def takeSample (i : Fin 64) (code : BitVec 10) (s : State) : State :=
  let c := s.config.lines[i]
  let l := s.lines[i]
  let k := sampleBand c s.config.bandSets[c.bandSet] code l
  let l1 := measured c s.config.bandSets[c.bandSet] code l
  match newBand k l with
  | none => s.setLine i l1
  | some b =>
    let g := (groupOf s i).state
    let l2 := lineMachine c s.config.system.flowRetard g s.regime.state b { l1 with qualified := some b }
    if b = .alarm ∧ startsVerification c g s.regime.state l = true then
      lineEvent i l2 (s.setPGroup c.powerGroup groupReset)
    else lineEvent i l2 s

/-! ## Isolation and restoration (R37 to R39) -/

/-- A line isolated: its retard stops and the rest of it is kept (R37). -/
def isolated (l : Line) : Line := { l with state := .isolated, retard := none }

/-- A line whose state lets it be isolated (the table of R37). -/
def isolable (c : LineCfg) (l : Line) : Bool :=
  match l.state with
  | .normal => true
  | .troubleOpen => true
  | .troubleShort => true
  | .verifying => true
  | .active => !LineKind.latched c.kind
  | .isolated => false
  | .unused => false

/-- ISOLATE LINE (R37, R38). -/
def isolateLineBody (line : Byte) (s : State) : State × Result :=
  match argIndex 64 line with
  | none => refuse .range s
  | some i =>
    if isolable s.config.lines[i] s.lines[i] then
      if s.lines[i].state = .verifying then
        accept (changeLine i (isolated s.lines[i]) (s.setPGroup s.config.lines[i].powerGroup groupIdle))
      else accept (changeLine i (isolated s.lines[i]) s)
    else refuse .state s

/-- A line restored: NORMAL, measured and qualified afresh, its clear count and unstable flag cleared (R39). -/
def restored (l : Line) : Line :=
  { emptyHistory (clearQualification l) with state := .normal, clearCount := 0, unstable := false }

/-- RESTORE LINE (R39). -/
def restoreLineBody (line : Byte) (s : State) : State × Result :=
  match argIndex 64 line with
  | none => refuse .range s
  | some i =>
    if s.lines[i].state = .isolated then
      if s.config.lines[i].mode = .supervised ∧ freezes (groupOf s i).state = true then refuse .state s
      else accept (changeLine i (restored s.lines[i]) s)
    else refuse .state s

/-! ## RESET REGIME (R40, R62, R63, R84) -/

/-- A line returned to NORMAL by RESET REGIME (R40). -/
def resetToNormal (l : Line) : Line := { emptyHistory (clearQualification l) with state := .normal }

/-- A line at an accepted RESET REGIME (R40). -/
def resetLine (c : LineCfg) (l : Line) : Line :=
  match l.state with
  | .active => if LineKind.latched c.kind then resetToNormal l else l
  | .verifying => resetToNormal l
  | .normal => if l.retard.isSome then { clearQualification l with retard := none } else l
  | .troubleOpen => l
  | .troubleShort => l
  | .isolated => l
  | .unused => l

/-- Reset one line of the part. -/
def resetLineOf (s : State) (i : Fin 64) : State := changeLine i (resetLine s.config.lines[i] s.lines[i]) s

/-- The lines of the part reset one at a time (R84). -/
def resetEachLine (s : State) : State := (List.finRange 64).foldl resetLineOf s

/-- The line scanner's part of RESET REGIME: the lines, and every power group to IDLE (R40). -/
def resetLines (s : State) : State := { resetEachLine s with pgroups := tabulate fun _ => groupIdle }

/-- The regime record after RESET REGIME: the holder and the trouble summary stay (R62). -/
def quietRegime (g : Regime) : Regime :=
  { g with
    state := .quiet, firstAlarm := none, hold := none, silenced := false, inhibit := none, r := 0
    spread := .stopped, spreadHeld := false, evacuateAll := false }

/-- Every manual recall flag is cleared (R63). -/
def clearManual (s : State) : State :=
  { s with lgroups := tabulate fun g => { s.lgroups[g] with manual := false } }

/-- RESET REGIME accepted in HOLD_INVESTIGATE or ACTIVE (R63). -/
def resetRegime (s : State) : State :=
  let s1 := resetLines s
  settle s (clearManual (s1.setRegime (quietRegime s1.regime)))

/-- RESET REGIME by the regime state (R62). -/
def resetRegimeBody (s : State) : State × Result :=
  match s.regime.state with
  | .quiet => accept s
  | .holdAck => refuse .state s
  | .holdInvestigate => accept (resetRegime s)
  | .active => accept (resetRegime s)

/-! ## The steps -/

/-- ZONE_LINE_SLOT_COMPLETION (R3, R4): the code is stored, and then taken as a sample or discarded. The slots complete
in their order, and none completes during the load (R1, R2; log entry 4). -/
def execZoneLineSlotCompletion (i : Fin 64) (code : BitVec 10) (s : State) :
    Host.Outcome State Fault Refusal :=
  .next <|
    if inSlot s (lineSlot i) then
      let s1 := { s.setLine i { s.lines[i] with lastCode := code } with scanSlot := some (nextSlot (lineSlot i)) }
      if sampled s.config.lines[i] (groupOf s i).state s.lines[i] then takeSample i code s1 else s1
    else s

/-- A member of a group at its entry into SETTLE (R33). -/
def settleMember (s : State) (g : Fin 8) (i : Fin 64) : Line :=
  if groupMember s g i then emptyHistory (clearQualification s.lines[i]) else s.lines[i]

/-- RESET_EXPIRY (R33): the group goes to SETTLE with loop power back on, and every member starts afresh. -/
def execResetExpiry (g : Fin 8) (s : State) : Host.Outcome State Fault Refusal :=
  .next <|
    if s.pgroups[g].state = .reset ∧ timerDue s.pgroups[g].timer = true then
      { s.setPGroup g ⟨.settle, some Config.settleTime⟩ with lines := tabulate fun i => settleMember s g i }
    else s

/-- SETTLE_EXPIRY (R34): the group goes to WINDOW for the confirm window. -/
def execSettleExpiry (g : Fin 8) (s : State) : Host.Outcome State Fault Refusal :=
  .next <|
    if s.pgroups[g].state = .settle ∧ timerDue s.pgroups[g].timer = true then
      s.setPGroup g ⟨.window, some (seconds s.config.system.confirmWindow)⟩
    else s

/-- A VERIFYING member returned to NORMAL with its clear counted (R36). -/
def clearedLine (limit : Nat) (l : Line) : Line :=
  let n := min 255 (l.clearCount + 1)
  { l with state := .normal, clearCount := n, unstable := l.unstable || limit ≤ n }

/-- One line at the window expiry of a group (R36). -/
def windowLine (g : Fin 8) (s : State) (i : Fin 64) : State :=
  if groupMember s g i && s.lines[i].state == .verifying then
    changeLine i (clearedLine s.config.system.clearLimit s.lines[i]) s
  else s

/-- WINDOW_EXPIRY (R36). -/
def execWindowExpiry (g : Fin 8) (s : State) : Host.Outcome State Fault Refusal :=
  .next <|
    if s.pgroups[g].state = .window ∧ timerDue s.pgroups[g].timer = true then
      (List.finRange 64).foldl (windowLine g) (s.setPGroup g groupIdle)
    else s

/-- RETARD_EXPIRY (R29): the line goes to ACTIVE. -/
def execRetardExpiry (i : Fin 64) (s : State) : Host.Outcome State Fault Refusal :=
  .next (if timerDue s.lines[i].retard then lineEvent i (toActive s.lines[i]) s else s)

/-- ISOLATE_LINE (R37). -/
def execIsolateLine (p : Fin 4) (line : Byte) (s : State) : Host.Outcome State Fault Refusal :=
  .next (command p (Instr.bytes (.isolateLine p line)) (controlled p (isolateLineBody line)) s)

/-- RESTORE_LINE (R39). -/
def execRestoreLine (p : Fin 4) (line : Byte) (s : State) : Host.Outcome State Fault Refusal :=
  .next (command p (Instr.bytes (.restoreLine p line)) (controlled p (restoreLineBody line)) s)

/-- RESET_REGIME (R62). -/
def execResetRegime (p : Fin 4) (s : State) : Host.Outcome State Fault Refusal :=
  .next (command p (Instr.bytes (.resetRegime p)) (controlled p resetRegimeBody) s)

end Sys2Proof.Machine
end

