-- ==== Sys2Proof/Machine/Announce.lean ====
section
/-! DEFINITION. The announcement router's commands and timers: posting, cancelling, plays, stops and the routing chain (chapter 7). -/

namespace Sys2Proof.Machine

/-! ## Posting (R143 to R145) -/

/-- The present floors of a set (R144). -/
def presentFloors (s : State) (fs : FloorSet) : FloorSet := FloorSet.ofPred fun f => s.present f && fs.has f

/-- The floor set that a post keeps: the present floors, and for TENANT those whose status is NONE (R144). -/
def trimmed (cls : AnnClass) (s : State) (fs : FloorSet) : FloorSet :=
  match cls with
  | .tenant => presentFloors s fs &&& ~~~(floorsOf .alert s ||| floorsOf .evacuate s)
  | .console => presentFloors s fs
  | .evacuate => presentFloors s fs
  | .alert => presentFloors s fs

/-- A slot that a CONSOLE or TENANT entry may take: one of 0 to 13 (R141). -/
def postSlot (sl : Fin 16) : Bool := sl.val < 14

/-- The lowest free slot of 0 to 13 (R141). -/
def freeSlot (s : State) : Option (Fin 16) :=
  (List.finRange 16).find? fun sl => postSlot sl && s.entries[sl].isNone

/-- The TENANT entry of a slot, if it is one. -/
def tenantIn (s : State) (sl : Fin 16) : Option (Fin 16 × Entry) :=
  slotIf s.entries (fun e => e.cls == .tenant) sl

/-- The youngest of some entries. -/
def youngestOf : List (Fin 16 × Entry) → Option (Fin 16 × Entry)
  | [] => none
  | x :: xs =>
    match youngestOf xs with
    | none => some x
    | some y => if x.2.age < y.2.age then some y else some x

/-- The slot of the youngest TENANT entry (R145). -/
def youngestTenant (s : State) : Option (Fin 16) :=
  (youngestOf ((List.finRange 16).filterMap (tenantIn s))).map (·.1)

/-- The queue with room for a post of a class, none when the post is refused with FULL (R145). -/
def roomFor (cls : AnnClass) (s : State) : Option State :=
  if postedCount s < 14 then some s
  else
    match cls with
    | .console => (youngestTenant s).map fun sl => removeEntry sl s
    | .tenant => none
    | .evacuate => none
    | .alert => none

/-- The creation of a posted entry and the router's work at that event (R145). -/
def postEntry (p : Fin 4) (cls : AnnClass) (message : Byte) (fs : FloorSet) (rpt : Nat) (s0 s : State) : State :=
  match freeSlot s with
  | none => s
  | some sl => routerFinish s0 (createEntry sl cls message fs rpt (some p) s)

/-- A post whose class, message and repeat are in range and whose port may post it: trimming, then capacity (R144,
R145). -/
def postJudged (p : Fin 4) (cls : AnnClass) (message : Byte) (fs : FloorSet) (rpt : Nat) (s : State) :
    State × Result :=
  if presentFloors s fs = 0 then refuse .range s
  else if trimmed cls s fs = 0 then refuse .suppressed s
  else
    match roomFor cls s with
    | none => refuse .full s
    | some s1 => accept (postEntry p cls message (trimmed cls s fs) rpt s s1)

/-- A port whose role may post and cancel announcements: CONSOLE or VOICE (R143, R159). -/
def mayPost (s : State) (p : Fin 4) : Bool :=
  s.role p == some .console || s.role p == some .voice

/-- POST ANNOUNCEMENT after STARTING, judged in the order of R143. -/
def postBody (p : Fin 4) (cls message : Byte) (fs : FloorSet) (rpt : Byte) (s : State) : State × Result :=
  if mayPost s p then
    match argIn AnnClass.list cls with
    | some .console =>
      if 15 < rpt.toNat then refuse .range s
      else if s.regime.holder = some p then postJudged p .console message fs rpt.toNat s
      else refuse .control s
    | some .tenant =>
      if 15 < rpt.toNat ∨ message = 0 then refuse .range s
      else postJudged p .tenant message fs rpt.toNat s
    | some .evacuate => refuse .range s
    | some .alert => refuse .range s
    | none => refuse .range s
  else refuse .role s

/-! ## Cancelling (R159) -/

/-- The right to cancel an entry (cases 6 to 8 of R159). -/
def cancelRight (p : Fin 4) (s : State) (e : Entry) : Option Result :=
  match e.cls with
  | .evacuate => some .role
  | .alert => some .role
  | .console => if s.regime.holder = some p then none else some .control
  | .tenant => if e.origin = some p ∨ s.regime.holder = some p then none else some .control

/-- CANCEL ANNOUNCEMENT after STARTING, judged in the order of R159. -/
def cancelBody (p : Fin 4) (slot message : Byte) (s : State) : State × Result :=
  if mayPost s p then
    match argIndex 16 slot with
    | none => refuse .range s
    | some sl =>
      match s.entries[sl] with
      | none => refuse .state s
      | some e =>
        if e.message = message then
          match cancelRight p s e with
          | some r => refuse r s
          | none => accept (routerFinish s (removeEntry sl s))
        else refuse .stale s
  else refuse .role s

/-! ## Plays and stops (R152, R153, R157) -/

/-- An entry with one more play done (R157). -/
def playedOnce (e : Entry) : Entry := { e with plays := min 255 (e.plays + 1) }

/-- An entry has reached its repeat; one with repeat 0 never does (R157). -/
def reachedRepeat (e : Entry) : Bool := e.rpt != 0 && e.rpt ≤ e.plays

/-- Set or clear a channel's voice lapse. -/
def setLapse (c : Fin 4) (b : Bool) (s : State) : State := s.setChannel c { s.channels[c] with lapse := b }

/-- A play counted for the entry of a PLAYING channel: the entry is removed and the channel goes to IDLE when the
entry reaches its repeat, and otherwise the play timer restarts (R153, R157). -/
def countPlay (c : Fin 4) (s : State) : State :=
  match s.channels[c].entry with
  | none => s
  | some sl =>
    match s.entries[sl] with
    | none => s
    | some e =>
      if reachedRepeat (playedOnce e) then
        { s with entries := withoutSlot s.entries sl e.age }.setChannel c (toIdle s.channels[c])
      else
        { s with entries := s.entries.set sl (some (playedOnce e)) }.setChannel c
          { s.channels[c] with play := some (playTime s) }

/-- PLAY END accepted on a channel (R157). -/
def playEnded (c : Fin 4) (s : State) : State :=
  let s1 := setLapse c false s
  match s.channels[c].state with
  | .playing => routerFinish s (countPlay c s1)
  | .stopping => routerFinish s (s1.setChannel c (toIdle s1.channels[c]))
  | .idle => s

/-- PLAY END after STARTING, judged in the order of R156. -/
def playEndBody (p : Fin 4) (channel message : Byte) (s : State) : State × Result :=
  if s.role p = some .voice then
    match argIndex 4 channel with
    | none => refuse .range s
    | some c =>
      match s.channels[c].state with
      | .playing => if s.channels[c].message = some message then accept (playEnded c s) else refuse .stale s
      | .stopping => accept (playEnded c s)
      | .idle => refuse .stale s
  else refuse .role s

/-- The end of a shift: the zone selectors take its pattern, and a shift that is due begins (R155). -/
def shiftEnds (x : Shift) (s : State) : State :=
  let s1 := { s with chain := { s.chain with shift := none, due := false, selectors := x.pattern } }
  if s.chain.due then beginShift s1 else s1

/-! ## The steps -/

/-- STOP_TIMER_EXPIRY (R152): the channel goes to IDLE and its voice lapse is set. -/
def execStopTimerExpiry (c : Fin 4) (s : State) : Host.Outcome State Fault Refusal :=
  .next <|
    if timerDue s.channels[c].stop then
      routerFinish s (setLapse c true (s.setChannel c (toIdle s.channels[c])))
    else s

/-- PLAY_TIMER_EXPIRY (R153): a play is counted and the channel's voice lapse is set. -/
def execPlayTimerExpiry (c : Fin 4) (s : State) : Host.Outcome State Fault Refusal :=
  .next (if timerDue s.channels[c].play then routerFinish s (setLapse c true (countPlay c s)) else s)

/-- CHAIN_REFRESH_EXPIRY (R155): the timer restarts and a shift begins. -/
def execChainRefreshExpiry (s : State) : Host.Outcome State Fault Refusal :=
  .next <|
    if timerDue s.chain.refresh then
      beginShift { s with chain := { s.chain with refresh := some Config.refreshTime } }
    else s

/-- ROUTING_SHIFT_COMPLETE (R155): the zone selectors take the pattern; a shift that is due begins. -/
def execRoutingShiftComplete (s : State) : Host.Outcome State Fault Refusal :=
  .next <|
    match s.chain.shift with
    | none => s
    | some x => if x.remaining = 0 then shiftEnds x s else s

/-- POST_ANNOUNCEMENT (R143). -/
def execPostAnnouncement (p : Fin 4) (cls message : Byte) (floors : FloorSet) (rpt : Byte) (s : State) :
    Host.Outcome State Fault Refusal :=
  .next (command p (Instr.bytes (.postAnnouncement p cls message floors rpt))
    (afterLoad (postBody p cls message floors rpt)) s)

/-- CANCEL_ANNOUNCEMENT (R159). -/
def execCancelAnnouncement (p : Fin 4) (slot message : Byte) (s : State) : Host.Outcome State Fault Refusal :=
  .next (command p (Instr.bytes (.cancelAnnouncement p slot message)) (afterLoad (cancelBody p slot message)) s)

/-- PLAY_END (R156). -/
def execPlayEnd (p : Fin 4) (channel message : Byte) (s : State) : Host.Outcome State Fault Refusal :=
  .next (command p (Instr.bytes (.playEnd p channel message)) (afterLoad (playEndBody p channel message)) s)

end Sys2Proof.Machine
end

