-- ==== Sys2Proof/Machine/Store.lean ====
section
/-! DEFINITION. The configuration store: checks, the building of the working configuration, writes, and the enable input (chapter 9). -/

namespace Sys2Proof.Machine

/-! ## Checks (R187) -/

/-- Another SUPERVISED line of the same power group has verification on (R187). -/
def otherVerifies (c : WorkConfig) (i : Fin 64) : Bool :=
  (List.finRange 64).any fun j =>
    j != i && c.lines[j].mode == .supervised && c.lines[j].powerGroup == c.lines[i].powerGroup &&
      c.lines[j].verification

/-- A link names a present door circuit (R187). -/
def linksDoor (c : WorkConfig) : Option Nat → Bool
  | none => false
  | some n => if h : n < 32 then c.doors[n].present else false

/-- A link names a present lift group (R187). -/
def linksGroup (c : WorkConfig) : Option Nat → Bool
  | none => false
  | some n => if h : n < 3 then c.lgroups[n].present else false

/-- The link of a line is as its kind wants it (R187). -/
def linkGood (c : WorkConfig) (l : LineCfg) : Bool :=
  match l.kind with
  | .doorPosition => linksDoor c l.link
  | .hoistway => linksGroup c l.link
  | .smoke | .heat | .callpoint | .flow | .panel | .lobby | .panelTrouble => l.link.isNone

/-- A LINE record offends (R187). -/
def lineOffends (c : WorkConfig) (i : Fin 64) : Bool :=
  let l := c.lines[i]
  l.mode != .unused &&
    (!LineKind.allowedIn l.kind l.mode || (l.verification && l.kind != .smoke) ||
      !decide (l.floor.val < c.system.nfloor) || !linkGood c l ||
      (l.mode == .supervised && l.kind != .smoke && otherVerifies c i))

/-- D or A of a group is missing from the served set of a present car that names it (R187). -/
def floorsUnserved (c : WorkConfig) (g : Fin 3) : Bool :=
  (List.finRange 12).any fun k =>
    c.cars[k].present && c.cars[k].group == g &&
      !(c.cars[k].served.has c.lgroups[g].designated && c.cars[k].served.has c.lgroups[g].alternate)

/-- An LGROUP record offends (R187). -/
def lgroupOffends (c : WorkConfig) (g : Fin 3) : Bool :=
  let x := c.lgroups[g]
  x.present &&
    (x.designated == x.alternate || !decide (x.designated.val < c.system.nfloor) ||
      !decide (x.alternate.val < c.system.nfloor) || floorsUnserved c g ||
      c.ports[x.reportPort].role != .lift)

/-- The floors from NFLOOR on. -/
def absentFloors (c : WorkConfig) : FloorSet := FloorSet.ofPred fun f => c.system.nfloor ≤ f.val

/-- A CAR record offends (R187). -/
def carOffends (c : WorkConfig) (k : Fin 12) : Bool :=
  let x := c.cars[k]
  x.present && (!c.lgroups[x.group].present || x.served == 0 || (x.served &&& absentFloors c) != 0)

/-- A DOOR record offends (R187). -/
def doorOffends (c : WorkConfig) (k : Fin 32) : Bool :=
  let x := c.doors[k]
  x.present && (!c.dgroups[x.group].present || !decide (x.floor.val < c.system.nfloor))

/-- A store record offends in a configuration (R187). -/
def offends (c : WorkConfig) (n : Fin 136) : Bool :=
  match storeKindOf n with
  | .line => lineOffends c (Fin.ofNat 64 (storeIndexOf n))
  | .lgroup => lgroupOffends c (Fin.ofNat 3 (storeIndexOf n))
  | .car => carOffends c (Fin.ofNat 12 (storeIndexOf n))
  | .door => doorOffends c (Fin.ofNat 32 (storeIndexOf n))
  | .system => false
  | .port => false
  | .bandset => false
  | .dgroup => false

/-- The first record that offends, in store order (R188). -/
def firstOffender (c : WorkConfig) : Option (Fin 136) := (List.finRange 136).find? (offends c)

/-! ## The stored configuration and the load (R184, R191) -/

/-- The image that the checks and the load take for a record: its contents, or its factory default when it is
unprogrammed or damaged (R184). -/
def effectiveImage (n : Fin 136) (x : StoreRec) : Image :=
  if x.programmed && !x.damaged then x.contents else factoryImage n

/-- The stored configuration (R188, first step of R191). -/
def storedConfig (st : Vector StoreRec 136) : WorkConfig := configOf fun n => effectiveImage n st[n]

/-- A configuration with one record at its factory default. Only the kinds that a check judges are ever replaced. -/
def withDefault (c : WorkConfig) (n : Fin 136) : WorkConfig :=
  match storeKindOf n with
  | .line => { c with lines := c.lines.set (Fin.ofNat 64 (storeIndexOf n)) (parseLine (factoryImage n)) }
  | .lgroup => { c with lgroups := c.lgroups.set (Fin.ofNat 3 (storeIndexOf n)) (parseLGroup (factoryImage n)) }
  | .car => { c with cars := c.cars.set (Fin.ofNat 12 (storeIndexOf n)) (parseCar (factoryImage n)) }
  | .door => { c with doors := c.doors.set (Fin.ofNat 32 (storeIndexOf n)) (parseDoor (factoryImage n)) }
  | .system => c
  | .port => c
  | .bandset => c
  | .dgroup => c

/-- One record of a pass: an offender is replaced at once, and noted (R191). -/
def passRecord (x : WorkConfig × List (Fin 136)) (n : Fin 136) : WorkConfig × List (Fin 136) :=
  if offends x.1 n then (withDefault x.1 n, n :: x.2) else x

/-- One pass over all records; the list names the records it replaced (R191). -/
def pass (c : WorkConfig) : WorkConfig × List (Fin 136) := (List.finRange 136).foldl passRecord (c, [])

/-- Passes until one replaces none (R191). A replaced record does not offend again, so 137 passes are enough. -/
def passes : Nat → WorkConfig → WorkConfig × List (Fin 136)
  | 0, c => (c, [])
  | n + 1, c =>
    match pass c with
    | (c1, []) => (c1, [])
    | (c1, r :: rs) =>
      let x := passes n c1
      (x.1, (r :: rs) ++ x.2)

/-- The working configuration that a load builds from the store, and the records its second step replaced (R191). -/
def buildConfig (st : Vector StoreRec 136) : WorkConfig × List (Fin 136) := passes 137 (storedConfig st)

/-! ## Writes (R185, R186) -/

/-- A record whose write is complete (R186). -/
def writtenRecord (im : Image) (x : StoreRec) : StoreRec :=
  { x with contents := im, writes := x.writes + 1, programmed := true, damaged := false }

/-- A record whose write was cut short (R186). -/
def cutRecord (x : StoreRec) : StoreRec := { x with writes := x.writes + 1, damaged := true }

/-- The end of a store write outside a reset: the store is idle, and STORE, TROUBLE and the store flag follow (R186,
R189). -/
def writeEnds (n : Fin 136) (x : StoreRec) (s : State) : State :=
  let s1 := storeFlag s { s.setStore n x with busy := none }
  raise (Notice.bit .store) (raiseIf (recordInTrouble s.store[n] != recordInTrouble x) .trouble s1)

/-- STORE WRITE on a record, from MISMATCH on (cases 6 to 9 of R185). -/
def storeWriteRecord (p : Fin 4) (k : StoreKind) (n : Fin 136) (expected : Byte) (im : Image) (s : State) :
    State × Result :=
  if expected.toNat ≠ s.store[n].writes then refuse .mismatch s
  else if 32 ≤ s.store[n].writes then refuse .worn s
  else if imageInRange k im then accept { s with busy := some ⟨n, p, im, Config.writeTime⟩ }
  else refuse .range s

/-- STORE WRITE after STARTING, judged in the order of R185. -/
def storeWriteBody (p : Fin 4) (kind index expected : Byte) (im : Image) (s : State) : State × Result :=
  if s.role p = some .console then
    match argIn StoreKind.list kind with
    | none => refuse .range s
    | some k =>
      match storeNumber k index.toNat with
      | none => refuse .range s
      | some n =>
        if s.enable then
          if s.busy.isSome then refuse .busy s else storeWriteRecord p k n expected im s
        else refuse .enable s
  else refuse .role s

/-- The conflict locator of a port set (R188). -/
def setConflict (p : Fin 4) (n : Option (Fin 136)) (s : State) : State :=
  s.setPort p { s.ports[p] with conflict := n }

/-- CHECK CONFIG after STARTING (R188). -/
def checkConfigBody (p : Fin 4) (s : State) : State × Result :=
  if s.role p = some .console then
    if s.busy.isSome then refuse .busy s
    else
      match firstOffender (storedConfig s.store) with
      | none => (setConflict p none s, .ok)
      | some n => (setConflict p (some n) s, .conflict)
  else refuse .role s

/-! ## The steps -/

/-- STORE_WRITE (R185). -/
def execStoreWrite (p : Fin 4) (kind index expected : Byte) (im : Image) (s : State) :
    Host.Outcome State Fault Refusal :=
  .next (command p (Instr.bytes (.storeWrite p kind index expected im))
    (afterLoad (storeWriteBody p kind index expected im)) s)

/-- CHECK_CONFIG (R188). -/
def execCheckConfig (p : Fin 4) (s : State) : Host.Outcome State Fault Refusal :=
  .next (command p (Instr.bytes (.checkConfig p)) (afterLoad (checkConfigBody p)) s)

/-- STORE_WRITE_COMPLETION (R186): the record takes the image, 12 ms after acceptance. -/
def execStoreWriteCompletion (s : State) : Host.Outcome State Fault Refusal :=
  .next <|
    match s.busy with
    | none => s
    | some b =>
      if b.remaining = 0 then writeEnds b.record (writtenRecord b.image s.store[b.record]) s else s

/-- ENABLE_INPUT_DROP (R186): a write in progress ends damaged; an idle store is not changed. -/
def execEnableInputDrop (s : State) : Host.Outcome State Fault Refusal :=
  .next <|
    match s.busy with
    | none => { s with enable := false }
    | some b => writeEnds b.record (cutRecord s.store[b.record]) { s with enable := false }

/-- ENABLE_INPUT_ASSERT (R186): the store does not change. -/
def execEnableInputAssert (s : State) : Host.Outcome State Fault Refusal := .next { s with enable := true }

end Sys2Proof.Machine
end

