-- ==== Sys2Proof/Machine/Startup.lean ====
section
/-! DEFINITION. Power-on reset, the start-up load and its end, and RESTART (chapter 9). -/

namespace Sys2Proof.Machine

/-! ## The event that begins a power-on reset -/

/-- The store after a write that a power-on reset cuts short (R186). -/
def cutShort (busy : Option StoreBusy) (st : Vector StoreRec 136) : Vector StoreRec 136 :=
  match busy with
  | none => st
  | some b => st.set b.record (cutRecord st[b.record])

/-- The substituted flags as the load sets them: cleared, then set for each damaged record and each record that the
second step replaced (R183, R191). -/
def markSubstituted (replaced : List (Fin 136)) (st : Vector StoreRec 136) : Vector StoreRec 136 :=
  tabulate fun n => { st[n] with substituted := st[n].damaged || replaced.contains n }

/-- A port's frame at the event that begins a power-on reset, and at a port reset: it is abandoned, and clock edges are
ignored until the select line is released (R165, R181). A frame whose beginning was not told leaves nothing to release
(log entry 5). -/
def abandonFrame : Frame → Frame
  | .none => .none
  | .begun _ => .ignoring
  | .judged _ => .ignoring
  | .implied _ => .none
  | .ignoring => .ignoring

/-- The event that begins a power-on reset: a write in progress ends damaged, the load builds the working configuration
and every block takes its reset values (R2, R20, R31, R43, R69, R87, R89, R113, R114, R118, R119, R141, R149, R155,
R165, R186, R191). -/
def powerOn (s : State) : State :=
  let cut := cutShort s.busy s.store
  let built := buildConfig cut
  let store := markSubstituted built.2 cut
  { s with
    load := some Config.loadTime
    config := built.1
    store := store
    busy := none
    scanSlot := none
    lines := tabulate fun _ => lineReset
    pgroups := tabulate fun _ => pgroupReset
    regime := regimeReset (anyStoreTrouble store)
    floors := tabulate fun _ => floorReset
    lgroups := tabulate fun _ => lgroupReset
    cars := tabulate fun _ => carReset
    doors := tabulate fun _ => doorReset
    dgroups := tabulate fun _ => dgroupReset
    resecure := []
    stagger := none
    entries := tabulate fun _ => none
    channels := tabulate fun _ => channelReset
    chain := chainReset
    ports := tabulate fun p => portReset (abandonFrame s.ports[p].frame) }

/-! ## The end of the load (R192) -/

/-- A line at the end of the load (R20, R41). -/
def startLine (c : LineCfg) : Line :=
  { lineReset with state := if c.mode = .unused then .unused else .normal }

/-- A car at the end of the load: the report timer of a present car starts (R100). -/
def startCar (s : State) (c : Fin 12) : Car :=
  if s.config.cars[c].present then { s.cars[c] with timer := some (carTime s) } else s.cars[c]

/-- A door group at the end of the load: an absent one becomes SECURED (R137). -/
def startDGroup (s : State) (g : Fin 16) : DGroup :=
  if s.config.dgroups[g].present then s.dgroups[g] else { s.dgroups[g] with state := .secured }

/-- The present door groups in ascending order (R137). -/
def presentDGroups (s : State) : List (Fin 16) := (List.finRange 16).filter fun g => s.config.dgroups[g].present

/-- Every block's start-up state, before the notices (R2, R20, R87, R100, R137, R155, R192). -/
def startBlocks (s : State) : State :=
  { s with
    load := none
    scanSlot := some 0
    lines := tabulate fun i => startLine s.config.lines[i]
    lgroups := tabulate fun g => { s.lgroups[g] with target := targetOf s g }
    cars := tabulate (startCar s)
    dgroups := tabulate (startDGroup s)
    resecure := presentDGroups s
    stagger := some Config.staggerTime
    chain := { s.chain with shift := some ⟨patternNone, Config.shiftTime⟩, refresh := some Config.refreshTime } }

/-- The end of the load with its notices: STARTED for every port, TROUBLE where the store flag is set, LIFT for new
targets and DOOR for the door groups (R179, R192). -/
def startUp (s : State) : State :=
  let s1 := startBlocks s
  let s2 := raiseIf s.regime.trouble.store .trouble (raise (Notice.bit .started) s1)
  raiseIf (doorChanged s s1) .door (raiseIf (liftChanged s s1) .lift s2)

/-! ## RESTART (R190) -/

/-- RESTART from the holder, judged in the order of R190. -/
def restartBody (p : Fin 4) (s : State) : State × Result :=
  if s.regime.state = .quiet then
    if s.enable then
      if s.busy.isSome then refuse .busy s
      else
        match firstOffender (storedConfig s.store) with
        | some n => (setConflict p (some n) s, .conflict)
        | none => accept (powerOn (setConflict p none s))
    else refuse .enable s
  else refuse .state s

/-! ## The steps -/

/-- POWER_ON_RESET (R191), at power-up or a supply-low event, in any state; one during the load begins a new load. -/
def execPowerOnReset (s : State) : Host.Outcome State Fault Refusal := .next (powerOn s)

/-- START_UP_LOAD_END (R192). -/
def execStartUpLoadEnd (s : State) : Host.Outcome State Fault Refusal :=
  .next (if timerDue s.load then startUp s else s)

/-- RESTART (R190). -/
def execRestart (p : Fin 4) (s : State) : Host.Outcome State Fault Refusal :=
  .next (command p (Instr.bytes (.restart p)) (controlled p (restartBody p)) s)

end Sys2Proof.Machine
end

