-- ==== Sys2Proof/Machine/Tables.lean ====
section
/-! DEFINITION. The twelve tables: their sizes, the words of every record, and which values span several words (R171, chapter 11). -/

namespace Sys2Proof.Machine

/-! ## Sizes (R171, section 11.3) -/

/-- The number of records of a table (R171). -/
def Table.records : Table → Nat
  | .regime => 1
  | .floor => 48
  | .line => 64
  | .pgroup => 8
  | .car => 12
  | .lgroup => 3
  | .door => 32
  | .dgroup => 16
  | .channel => 4
  | .queue => 16
  | .port => 4
  | .store => 136

/-- The number of fields of a record of a table (section 11.3). -/
def Table.fields : Table → Nat
  | .regime => 15
  | .floor => 5
  | .line => 24
  | .pgroup => 6
  | .car => 20
  | .lgroup => 14
  | .door => 14
  | .dgroup => 16
  | .channel => 9
  | .queue => 12
  | .port => 16
  | .store => 29

/-! ## Words of values (section 11.1) -/

/-- A number as a word. -/
def num (n : Nat) : Word := BitVec.ofNat 16 n

/-- The word of an absent value. -/
def absent : Word := 0xFFFF

/-- A flag as a word. -/
def flag (b : Bool) : Word := if b then 1 else 0

/-- A value that may be absent, as a word. -/
def optNum : Option Nat → Word
  | none => absent
  | some n => num n

/-- An index that may be absent, as a word. -/
def optIndex {n : Nat} (x : Option (Fin n)) : Word := optNum (x.map (·.val))

/-- The word of an enumeration value. -/
def code {α : Type} [DecidableEq α] (l : List α) (x : α) : Word := num (codeIn l x)

/-- The word of an enumeration value that may be absent. -/
def optCode {α : Type} [DecidableEq α] (l : List α) (x : Option α) : Word := optNum (x.map (codeIn l))

/-- A remaining time in ms as two words, high word first; a stopped timer reads none in both. -/
def timeWords : Option Nat → List Word
  | none => [absent, absent]
  | some n => [num (n / 65536), num (n % 65536)]

/-- A byte as a word. -/
def byteWord (b : Byte) : Word := b.zeroExtend 16

/-- A set of notice kinds as a word. -/
def kindWord (k : NoticeSet) : Word := k.zeroExtend 16

/-- The trouble summary as a word. -/
def troubleWord (t : TroubleSummary) : Word :=
  num ((if t.lines then 1 else 0) + (if t.doors then 2 else 0) + (if t.lifts then 4 else 0) +
    (if t.voice then 8 else 0) + (if t.store then 16 else 0))

/-! ## The records -/

/-- The spread timer's condition: running, frozen or stopped. -/
def spreadCode : SpreadTimer → Nat
  | .running _ => 0
  | .frozen _ => 1
  | .stopped => 2

/-- The spread timer's remaining time. -/
def spreadTime : SpreadTimer → Option Nat
  | .running n => some n
  | .frozen n => some n
  | .stopped => none

/-- The REGIME record (R67). -/
def regimeRecord (s : State) : List Word :=
  let g := s.regime
  [code RegimeState.list g.state, optIndex g.firstAlarm] ++ timeWords g.hold ++ [flag g.silenced] ++
    timeWords g.inhibit ++ [num g.r, num (spreadCode g.spread)] ++ timeWords (spreadTime g.spread) ++
    [flag g.spreadHeld, flag g.evacuateAll, optIndex g.holder, troubleWord g.trouble]

/-- A FLOOR record; one at or above NFLOOR reads none in every field (R86, R195). -/
def floorRecord (s : State) (f : Fin 48) : List Word :=
  if s.present f then
    let x := s.floors[f]
    [num x.alarmCount, num x.troubleCount, optNum x.ring, code FloorStatus.list x.status, optIndex x.routed]
  else [absent, absent, absent, absent, absent]

/-- A history entry, 0 beyond the length (R195). -/
def historyWord (h : List Nat) (k : Nat) : Word := num (h.getD k 0)

/-- A LINE record (R13, R42). -/
def lineRecord (s : State) (i : Fin 64) : List Word :=
  let c := s.config.lines[i]
  let l := s.lines[i]
  [code LineMode.list c.mode, code LineKind.list c.kind, num c.floor, num c.bandSet, num c.powerGroup,
    flag c.verification, optNum c.link, num l.lastCode.toNat, num l.history.length, historyWord l.history 0,
    historyWord l.history 1, historyWord l.history 2, historyWord l.history 3,
    num ((average l.history).getD 0), optCode Band.list l.rawBand, code LineState.list l.state,
    optCode Band.list l.qualified, optCode Band.list l.candidate, num l.agree] ++ timeWords l.retard ++
    [num l.clearCount, flag l.unstable, flag (lineInTrouble c l)]

/-- The loop power of a power group: off exactly in RESET (R31). -/
def loopPower (g : PGroup) : Bool := g.state != .reset

/-- A PGROUP record (R42). -/
def pgroupRecord (s : State) (g : Fin 8) : List Word :=
  [code PGroupState.list s.pgroups[g].state] ++ timeWords s.pgroups[g].timer ++
    [flag (loopPower s.pgroups[g]),
      num ((List.finRange 64).countP fun i => groupMember s g i && s.lines[i].state == .verifying),
      num ((List.finRange 64).countP (groupMember s g))]

/-- The last report of a car as four words; each is none before the first report, and a position UNKNOWN is 0x00FF
(R195). -/
def reportWords : Option Report → List Word
  | none => [absent, absent, absent, absent]
  | some r =>
    [(match r.position with | none => 0x00FF | some f => num f), code Motion.list r.motion,
      code CarDoors.list r.doors, code ServiceMode.list r.mode]

/-- A CAR record (R109). Its served set has no bit at or above NFLOOR, whatever was loaded (R195). -/
def carRecord (s : State) (c : Fin 12) : List Word :=
  let k := s.config.cars[c]
  let x := s.cars[c]
  [flag k.present, num k.group] ++ FloorSet.words (presentFloors s k.served) ++ reportWords x.report ++ [flag x.reported] ++
    timeWords x.timer ++
    [flag x.lapsed, code RecallState.list x.phase, code Directive.list x.directive, optIndex x.target] ++
    FloorSet.words x.noStop ++ [flag x.warning]

/-- The number of present cars of a group in a recall state (R110). -/
def carsIn (s : State) (g : Fin 3) (st : RecallState) : Word :=
  num ((List.finRange 12).countP fun c => inGroup s g c && s.cars[c].phase == st)

/-- An LGROUP record (R110). -/
def lgroupRecord (s : State) (g : Fin 3) : List Word :=
  let c := s.config.lgroups[g]
  let x := s.lgroups[g]
  [flag c.present, num c.designated, num c.alternate, flag c.recallAny, num c.reportPort, flag x.manual,
    flag x.triggered, flag (automaticCause s g), optIndex x.target, carsIn s g .free, carsIn s g .recalling,
    carsIn s g .parked, carsIn s g .exempt, carsIn s g .lost]

/-- The lock driver of a circuit: energised exactly in ON (R113). -/
def energised (d : Door) : Bool := d.state == .on

/-- A DOOR record (R138). Field 13 of an absent circuit, which no rule gives a value, shows the test of R120 on the lines
linked to it, as for a present one: the model's choice (log entry 28). -/
def doorRecord (s : State) (c : Fin 32) : List Word :=
  let k := s.config.doors[c]
  let x := s.doors[c]
  [flag k.present, num k.floor, num k.stair, num k.group, code CircuitState.list x.state, flag (energised x),
    num x.trips] ++ timeWords x.cool ++
    [flag x.openFault, optCode CurrentClass.list x.candidate, num x.count, num x.current, flag (readsClosed s c)]

/-- The number of members of a door group in a circuit state (R139). -/
def membersIn (s : State) (g : Fin 16) (st : CircuitState) : Word :=
  num ((List.finRange 32).countP fun c => memberOf s g c && s.doors[c].state == st)

/-- A DGROUP record (R139). -/
def dgroupRecord (s : State) (g : Fin 16) : List Word :=
  let x := s.dgroups[g]
  [flag s.config.dgroups[g].present, code Policy.list s.config.dgroups[g].policy, code Override.list x.override,
    flag (demand s g), code DGroupState.list x.state,
    (if s.resecure.contains g then num (s.resecure.idxOf g) else absent)] ++ timeWords x.openWait ++
    [flag x.notSecured, membersIn s g .off, membersIn s g .on, membersIn s g .tripped, membersIn s g .latchedOff,
      num s.resecure.length] ++ timeWords s.stagger

/-- A CHANNEL record (R164). -/
def channelRecord (s : State) (c : Fin 4) : List Word :=
  let x := s.channels[c]
  [code ChannelState.list x.state, optIndex x.entry, optNum (x.message.map (·.toNat))] ++ timeWords x.play ++
    timeWords x.stop ++
    [flag x.lapse, num ((List.finRange 48).countP fun f : Fin 48 => s.present f && s.floors[f].routed == some c)]

/-- Fields 0 to 10 of a QUEUE record (R164, R195). -/
def entryWords : Option Entry → List Word
  | none => List.replicate 11 absent
  | some e =>
    [code AnnClass.list e.cls, byteWord e.message] ++ FloorSet.words e.floors ++
      [num e.rpt, num e.plays, optIndex e.origin, num e.age, (if e.channel.isSome then 1 else 0),
        optIndex e.channel]

/-- A QUEUE record (R164). -/
def queueRecord (s : State) (sl : Fin 16) : List Word := entryWords s.entries[sl] ++ [num (postedCount s)]

/-- A PORT record (R182). -/
def portRecord (s : State) (p : Fin 4) : List Word :=
  let c := s.ports[p]
  [optCode Role.list (s.role p), optNum (s.rank p), flag (s.regime.holder == some p),
    code Result.list c.lastResult, kindWord c.notices, kindWord c.mask, flag c.attention,
    code Table.list c.table, num c.record, num c.field, num c.firstRecord, num c.lastRecord, num c.firstField,
    num c.lastField, code WalkOrder.list c.order, optIndex c.conflict]

/-- A STORE record (R193). -/
def storeRecord (s : State) (n : Fin 136) : List Word :=
  let x := s.store[n]
  [code StoreKind.list (storeKindOf n), num (storeIndexOf n)] ++ x.contents.toList ++
    [num x.writes, flag x.programmed, flag x.damaged, flag x.substituted, flag (recordInTrouble x),
      optIndex (s.busy.map (·.record)), optIndex (s.busy.map (·.port))] ++
    timeWords (s.busy.map (·.remaining)) ++
    [num ((if s.enable then 1 else 0) + (if s.loading then 2 else 0))]

/-- The words of a record of a table. -/
def tableRecord (s : State) (t : Table) (r : Nat) : List Word :=
  match t with
  | .regime => regimeRecord s
  | .floor => floorRecord s (Fin.ofNat 48 r)
  | .line => lineRecord s (Fin.ofNat 64 r)
  | .pgroup => pgroupRecord s (Fin.ofNat 8 r)
  | .car => carRecord s (Fin.ofNat 12 r)
  | .lgroup => lgroupRecord s (Fin.ofNat 3 r)
  | .door => doorRecord s (Fin.ofNat 32 r)
  | .dgroup => dgroupRecord s (Fin.ofNat 16 r)
  | .channel => channelRecord s (Fin.ofNat 4 r)
  | .queue => queueRecord s (Fin.ofNat 16 r)
  | .port => portRecord s (Fin.ofNat 4 r)
  | .store => storeRecord s (Fin.ofNat 136 r)

/-! ## What the tables show during the load -/

/-- The free configuration brought into the ranges that every working configuration has (log entry 8). -/
def inRanges (c : WorkConfig) : WorkConfig :=
  { c with
    system := { c.system with nfloor := 2 + c.system.nfloor % 47 }
    ports := tabulate fun p => { c.ports[p] with rank := c.ports[p].rank % 4 }
    lines := tabulate fun i => { c.lines[i] with link := c.lines[i].link.map (· % 32) } }

/-- The state that the tables show: after the load as it stands, and during the load with the configured values free
(R192, log entry 8). -/
def shown (s : State) : State :=
  if s.loading then { s with config := inRanges (Config.configInLoad s.free) } else s

/-! ## Values of several words (R196) -/

/-- The values of a table that span several fields: first field and number of fields (section 11.3). The stored served
floor set of a CAR record is one of them (log entry 17). -/
def spans (t : Table) (r : Nat) : List (Nat × Nat) :=
  match t with
  | .regime => [(2, 2), (5, 2), (9, 2)]
  | .floor => []
  | .line => [(19, 2)]
  | .pgroup => [(1, 2)]
  | .car => [(2, 3), (10, 2), (16, 3)]
  | .lgroup => []
  | .door => [(7, 2)]
  | .dgroup => [(6, 2), (14, 2)]
  | .channel => [(3, 2), (5, 2)]
  | .queue => [(2, 3)]
  | .port => []
  | .store => if storeKindOf (Fin.ofNat 136 r) = .car then [(4, 3), (26, 2)] else [(26, 2)]

/-- The number of fields of the value that begins at a field; 1 where no longer value begins. -/
def spanAt (t : Table) (r f : Nat) : Nat :=
  match (spans t r).find? fun x => x.1 == f with
  | some x => x.2
  | none => 1

end Sys2Proof.Machine
end

