-- ==== Sys2Proof/Machine/Ports.lean ====
section
/-! DEFINITION. The station ports: frames, the port reset, and the data commands (chapter 8). -/

namespace Sys2Proof.Machine

/-! ## Frames (R167 to R169) -/

/-- The port as its select line is asserted and bits of its frame come in: the part puts out the last result, and bytes
of value 0 during the arguments (R165, R167, R168). A told frame that still stood, its end not told, is taken as ended
without SHORT (log entry 29). The last result counts as put out from here on, before its eight bits are clocked, and a
later byte once it is whole (log entry 31). -/
def beginFrame (bits : List Bool) (c : Port) : Port :=
  { endReply c with
    frame := .begun bits, out := putOut [] (receivedBytes bits).length [resultByte c.lastResult] }

/-! ## Pointer and window (R171 to R174) -/

/-- The window of a whole table with the pointer named (R172). -/
def wholeTable (t : Table) (r f : Nat) (c : Port) : Port :=
  { c with
    table := t, record := r, field := f, firstRecord := 0, lastRecord := Table.records t - 1
    firstField := 0, lastField := Table.fields t - 1 }

/-- SELECT (R172). -/
def selectBody (p : Fin 4) (table record field : Byte) (s : State) : State × Result :=
  match argIn Table.list table with
  | none => refuse .badAddress s
  | some t =>
    if record.toNat < Table.records t ∧ field.toNat < Table.fields t then
      accept (s.setPort p (wholeTable t record.toNat field.toNat s.ports[p]))
    else refuse .badAddress s

/-- The window bounds fit each other and the selected table (cases 1 and 2 of R173). -/
def windowFits (t : Table) (fr lr ff lf : Nat) : Bool :=
  fr ≤ lr && ff ≤ lf && lr < Table.records t && lf < Table.fields t

/-- The window set, and the pointer at its start (R173). -/
def setWindow (fr lr ff lf : Nat) (o : WalkOrder) (c : Port) : Port :=
  { c with
    firstRecord := fr, lastRecord := lr, firstField := ff, lastField := lf, order := o, record := fr, field := ff }

/-- WINDOW (R173). -/
def windowBody (p : Fin 4) (fr lr ff lf order : Byte) (s : State) : State × Result :=
  if windowFits s.ports[p].table fr.toNat lr.toNat ff.toNat lf.toNat then
    match argIn WalkOrder.list order with
    | none => refuse .range s
    | some o => accept (s.setPort p (setWindow fr.toNat lr.toNat ff.toNat lf.toNat o s.ports[p]))
  else refuse .badAddress s

/-- The pointer after a word by the walk order (the tables of R174). -/
def advance (c : Port) : Port :=
  match c.order with
  | .fieldFirst =>
    if c.field < c.lastField then { c with field := c.field + 1 }
    else if c.record < c.lastRecord then { c with field := c.firstField, record := c.record + 1 }
    else { c with field := c.firstField, record := c.firstRecord }
  | .recordFirst =>
    if c.record < c.lastRecord then { c with record := c.record + 1 }
    else if c.field < c.lastField then { c with record := c.firstRecord, field := c.field + 1 }
    else { c with record := c.firstRecord, field := c.firstField }

/-- Whether the walk shifts the fields of a record one right after another: under FIELD_FIRST, and in a window of one
record (R196; log entry 24). -/
def walksFields (c : Port) : Bool := c.order == .fieldFirst || c.firstRecord == c.lastRecord

/-- The words taken at the pointer when a word begins that no capture holds: the whole value when the walk shifts all
its words one after another, and the one field otherwise (R174, R196). -/
def takenWords (s : State) (c : Port) : List Word :=
  let n := spanAt c.table c.record c.field
  let k := if walksFields c && c.field + n ≤ c.lastField + 1 then n else 1
  (List.range k).map fun j => (tableRecord (shown s) c.table c.record).getD (c.field + j) absent

/-- The words still captured, or those taken now (R196). -/
def nextWords (s : State) (c : Port) (captured : List Word) : List Word :=
  match captured with
  | [] => takenWords s c
  | w :: ws => w :: ws

/-- The next word of a READ stream (R174, R196). -/
def streamWord (s : State) (c : Port) (captured : List Word) : Word := (nextWords s c captured).headD 0

/-- The port after one word of a READ stream is shifted (R174, R196). -/
def shiftWord (s : State) (captured : List Word) (c : Port) : Port :=
  { advance c with
    out := c.out ++ Word.bytes (streamWord s c captured), reply := .stream (nextWords s c captured).tail }

/-- The port as the part begins to shift a word of a READ stream: the word's value is taken (R174), with the words
captured with it (R196). -/
def beginWord (s : State) (captured : List Word) (c : Port) : Port :=
  { c with reply := .stream (nextWords s c captured) }

/-- The port at the first or the last bit of a word of a READ stream (R174). A word whose first bit was not told of is
taken with its last (log entry 6). -/
def shiftEdge (s : State) (captured : List Word) (c : Port) : WordEdge → Port
  | .first => beginWord s captured c
  | .last => shiftWord s captured c

/-- The port after the dummy word of a READ reply is shifted: a word of value 0, for which the pointer does not move
(R174). -/
def shiftDummy (c : Port) : Port := { c with out := c.out ++ Word.bytes 0, reply := .stream [] }

/-- The port at the first or the last bit of the dummy word (R174). -/
def dummyEdge (c : Port) : WordEdge → Port
  | .first => c
  | .last => shiftDummy c

/-- The counter of free values after a word: one that is taken during the load draws one, and a captured one does not. -/
def drawn (s : State) : List Word → Nat
  | [] => if s.loading then s.free + 1 else s.free
  | _ :: _ => s.free

/-! ## Notices, mask and status (R175 to R177) -/

/-- NOTICES: the set is taken and emptied (R175). -/
def takeNotices (c : Port) : Port :=
  judgeAttention { c with notices := 0, reply := .notices c.notices }

/-- NOTICES after STARTING (R175). -/
def noticesBody (p : Fin 4) (s : State) : State × Result := accept (s.setPort p (takeNotices s.ports[p]))

/-- MASK after STARTING (R176). -/
def maskBody (p : Fin 4) (w : Word) (s : State) : State × Result :=
  match argKinds w with
  | none => refuse .range s
  | some k => accept (s.setPort p (judgeAttention { s.ports[p] with mask := k }))

/-- The eight words of STATUS (R177, section 11.2). -/
def statusWords (s : State) (p : Fin 4) : List Word :=
  [byteWord (s.ports[p].out.headD 0), flag s.loading, optCode Role.list (s.role p), optNum (s.rank p),
    flag (s.regime.holder == some p), code RegimeState.list s.regime.state, troubleWord s.regime.trouble,
    optIndex s.ports[p].conflict]

/-- STATUS (R177). -/
def statusBody (p : Fin 4) (s : State) : State × Result :=
  accept (s.setPort p { s.ports[p] with reply := .status (statusWords s p) })

/-- READ (R174): the stream begins; its words, the dummy word first, come with READ_WORD_SHIFTED. -/
def readBody (p : Fin 4) (s : State) : State × Result :=
  accept (s.setPort p { s.ports[p] with reply := .dummy })

/-! ## The end of a frame (R169, R174, R175, R181) -/

/-- The bytes of the reply in progress that its next clocks put out: of the streams and of NOTICES, whose whole words are
steps of their own, the word that a release or a port reset may cut; of STATUS, its words (R167, R174, R175, R177). The
NOTICES word may come out whole without its completion told (log entry 30). -/
def replyBytes (s : State) (c : Port) : List Byte :=
  match c.reply with
  | .none => []
  | .dummy => Word.bytes 0
  | .stream captured => Word.bytes (streamWord s c captured)
  | .notices taken => Word.bytes (kindWord taken)
  | .status words => wordBytes words

/-- What the port has put out in its frame after so many clock edges: bytes of value 0 before the judgement, the reply and
bytes of value 0 after it (R167). A whole frame of which only the end was told put out the last result first (log
entry 5). The first byte counts from the frame's beginning on, every later byte once its eight bits are clocked (log
entry 31); fewer edges than the steps told already took take back nothing those steps put out (log entry 7). -/
def clockedOut (s : State) (edges : Nat) (c : Port) : List Byte :=
  match c.frame with
  | .none => if edges = 0 then c.out else putOut [] (edges / 8) [resultByte c.lastResult]
  | .begun bits => putOut [] (max edges bits.length / 8) c.out
  | .judged _ => putOut (replyBytes s c) (edges / 8) c.out
  | .implied _ => putOut (replyBytes s c) (edges / 8) c.out
  | .ignoring => c.out

/-- A frame that is released after so many clock edges is short: bits were clocked and no command was judged (R169). -/
def Frame.short (edges : Nat) : Frame → Bool
  | .none => edges != 0
  | .begun bits => max edges bits.length != 0
  | .judged _ => false
  | .implied _ => false
  | .ignoring => false

/-- The port as its select line is released after so many clock edges (R169, R174, R175). A NOTICES reply whose
completion was not told counts as cut short, however many edges came: its kinds rejoin the set (log entry 30). -/
def endFrame (s : State) (edges : Nat) (c : Port) : Port :=
  { endReply c with
    frame := .none, out := clockedOut s edges c
    lastResult := if Frame.short edges c.frame then .short else c.lastResult }

/-- The counter of free values after a frame is cut: a word that has not been taken yet is taken then (log entry 6). -/
def drawnAtEnd (s : State) (p : Fin 4) : Nat :=
  match s.ports[p].reply with
  | .stream captured => drawn s captured
  | .none => s.free
  | .dummy => s.free
  | .notices _ => s.free
  | .status _ => s.free

/-! ## Port reset (R181) -/

/-- The port's context at a port reset after so many clock edges of its frame (R181). A NOTICES reply whose completion
was not told counts as cut short, however many edges came (log entry 30). -/
def resetPort (s : State) (edges : Nat) (c : Port) : Port :=
  judgeAttention
    { endReply c with
      frame := abandonFrame c.frame, out := clockedOut s edges c, lastResult := .ok, mask := 0
      table := .regime, record := 0, field := 0, firstRecord := 0, lastRecord := 0, firstField := 0
      lastField := 14, order := .fieldFirst }

/-! ## The steps -/

/-- FRAME_BEGIN (R165, R167): the select line is asserted, the last result is put out as the first byte, and the frame
in progress holds the bits received. Bits that complete a command are not this step (log entry 22). -/
def execFrameBegin (f : FrameStart) (s : State) : Host.Outcome State Fault Refusal :=
  .next (if frameOpen (receivedBytes f.bits) then s.setPort f.port (beginFrame f.bits s.ports[f.port]) else s)

/-- FRAME_END (R169): the select line is released after so many clock edges. -/
def execFrameEnd (p : Fin 4) (edges : Nat) (s : State) : Host.Outcome State Fault Refusal :=
  .next { s.setPort p (endFrame s edges s.ports[p]) with free := drawnAtEnd s p }

/-- UNKNOWN_COMMAND (R169): a byte that names no command leaves UNKNOWN, during the load as well (R170). A byte that
names a command is not this step (log entry 22). -/
def execUnknownCommand (p : Fin 4) (byte : Byte) (s : State) : Host.Outcome State Fault Refusal :=
  .next <|
    if namesCommand byte then s
    else command p (Instr.bytes (.unknownCommand p byte)) (refuse .unknown) s

/-- PORT_RESET (R181, R47): the select line has stood asserted for 10 ms with no clock edge, after so many edges of its
frame. -/
def execPortReset (h : PortHold) (s : State) : Host.Outcome State Fault Refusal :=
  .next <|
    let s1 :=
      { s.setPort h.port (resetPort s h.edges s.ports[h.port]) with free := drawnAtEnd s h.port }
    if s.regime.holder = some h.port then setHolder none s1 else s1

/-- READ_WORD_SHIFTED (R174, R196): at the first bit of a word of the stream its value is taken; with the last bit the
word, or the dummy word before the stream, is shifted, and after a word of the stream the pointer advances. A port
without a stream shifts no word (log entry 20). -/
def execReadWordShifted (w : WordShift) (s : State) : Host.Outcome State Fault Refusal :=
  .next <|
    match s.ports[w.port].reply with
    | .dummy => s.setPort w.port (dummyEdge s.ports[w.port] w.edge)
    | .stream captured =>
      { s.setPort w.port (shiftEdge s captured s.ports[w.port] w.edge) with free := drawn s captured }
    | .none => s
    | .notices _ => s
    | .status _ => s

/-- NOTICES_REPLY_COMPLETE (R175): the master owns the taken kinds. -/
def execNoticesReplyComplete (p : Fin 4) (s : State) : Host.Outcome State Fault Refusal :=
  .next <|
    match s.ports[p].reply with
    | .notices taken =>
      s.setPort p { s.ports[p] with reply := .none, out := s.ports[p].out ++ Word.bytes (kindWord taken) }
    | .none => s
    | .dummy => s
    | .stream _ => s
    | .status _ => s

/-- SELECT (R172). -/
def execSelect (p : Fin 4) (table record field : Byte) (s : State) : Host.Outcome State Fault Refusal :=
  .next (command p (Instr.bytes (.select p table record field)) (selectBody p table record field) s)

/-- WINDOW (R173). -/
def execWindow (p : Fin 4) (fr lr ff lf order : Byte) (s : State) : Host.Outcome State Fault Refusal :=
  .next (command p (Instr.bytes (.window p fr lr ff lf order)) (windowBody p fr lr ff lf order) s)

/-- READ (R174). -/
def execRead (p : Fin 4) (s : State) : Host.Outcome State Fault Refusal :=
  .next (command p (Instr.bytes (.read p)) (readBody p) s)

/-- NOTICES (R175). -/
def execNotices (p : Fin 4) (s : State) : Host.Outcome State Fault Refusal :=
  .next (command p (Instr.bytes (.notices p)) (afterLoad (noticesBody p)) s)

/-- MASK (R176). -/
def execMask (p : Fin 4) (w : Word) (s : State) : Host.Outcome State Fault Refusal :=
  .next (command p (Instr.bytes (.mask p w)) (afterLoad (maskBody p w)) s)

/-- STATUS (R177). -/
def execStatus (p : Fin 4) (s : State) : Host.Outcome State Fault Refusal :=
  .next (command p (Instr.bytes (.status p)) (statusBody p) s)

end Sys2Proof.Machine
end

