-- ==== Sys2Proof/Machine/Clock.lean ====
section
/-! DEFINITION. The passing of one millisecond: what the step does on an empty queue (00_scope "Time"; log entries 2 and 3). -/

namespace Sys2Proof.Machine

/-! ## Timers one millisecond later -/

/-- The spread timer one millisecond later; a frozen timer keeps its time (00_scope "Time"). -/
def tickSpread : SpreadTimer → SpreadTimer
  | .running n => .running (n - 1)
  | .frozen n => .frozen n
  | .stopped => .stopped

/-- The store write one millisecond later. -/
def tickBusy (b : StoreBusy) : StoreBusy := { b with remaining := b.remaining - 1 }

/-- The regime record one millisecond later. -/
def tickRegime (g : Regime) : Regime :=
  { g with hold := tickTimer g.hold, inhibit := tickTimer g.inhibit, spread := tickSpread g.spread }

/-- A channel one millisecond later. -/
def tickChannel (c : Channel) : Channel := { c with play := tickTimer c.play, stop := tickTimer c.stop }

/-- The routing chain one millisecond later. -/
def tickChain (c : Chain) : Chain :=
  { c with
    shift := c.shift.map fun x => { x with remaining := x.remaining - 1 }
    refresh := tickTimer c.refresh }

/-- Every timer one millisecond later. -/
def tickTimers (s : State) : State :=
  { s with
    load := tickTimer s.load
    busy := s.busy.map tickBusy
    lines := tabulate fun i => { s.lines[i] with retard := tickTimer s.lines[i].retard }
    pgroups := tabulate fun g => { s.pgroups[g] with timer := tickTimer s.pgroups[g].timer }
    regime := tickRegime s.regime
    cars := tabulate fun c => { s.cars[c] with timer := tickTimer s.cars[c].timer }
    doors := tabulate fun c => { s.doors[c] with cool := tickTimer s.doors[c].cool }
    dgroups := tabulate fun g => { s.dgroups[g] with openWait := tickTimer s.dgroups[g].openWait }
    stagger := tickTimer s.stagger
    channels := tabulate fun c => tickChannel s.channels[c]
    chain := tickChain s.chain }

/-! ## Expiries -/

/-- The step in a list when it is due. -/
def dueIf (b : Bool) (i : Instr) : List Instr := if b then [i] else []

/-- The expiry of a power group's timer, by its state. -/
def groupExpiry (s : State) (g : Fin 8) : List Instr :=
  if timerDue s.pgroups[g].timer then
    match s.pgroups[g].state with
    | .idle => []
    | .reset => [.resetExpiry g]
    | .settle => [.settleExpiry g]
    | .window => [.windowExpiry g]
  else []

/-- The steps of the timers that have run out. -/
def dueSteps (s : State) : List Instr :=
  dueIf (timerDue s.load) .startUpLoadEnd ++
    dueIf (timerDue (s.busy.map (·.remaining))) .storeWriteCompletion ++
    (List.finRange 8).flatMap (groupExpiry s) ++
    (List.finRange 64).flatMap (fun i => dueIf (timerDue s.lines[i].retard) (.retardExpiry i)) ++
    dueIf (timerDue s.regime.hold) .holdTimerExpiry ++
    dueIf (timerDue s.regime.inhibit) .silenceInhibitExpiry ++
    dueIf (spreadDue s.regime.spread) .spreadExpiry ++
    (List.finRange 12).flatMap (fun c => dueIf (timerDue s.cars[c].timer) (.carReportTimeout c)) ++
    dueIf (timerDue s.stagger) .staggerExpiry ++
    (List.finRange 16).flatMap (fun g => dueIf (timerDue s.dgroups[g].openWait) (.openWaitExpiry g)) ++
    (List.finRange 32).flatMap (fun c => dueIf (timerDue s.doors[c].cool) (.coolDownExpiry c)) ++
    (List.finRange 4).flatMap (fun c => dueIf (timerDue s.channels[c].stop) (.stopTimerExpiry c)) ++
    (List.finRange 4).flatMap (fun c => dueIf (timerDue s.channels[c].play) (.playTimerExpiry c)) ++
    dueIf (timerDue (s.chain.shift.map (·.remaining))) .routingShiftComplete ++
    dueIf (timerDue s.chain.refresh) .chainRefreshExpiry

/-- Put an item at a place of a list. -/
def insertAt (k : Nat) (x : Instr) (l : List Instr) : List Instr := l.take k ++ x :: l.drop k

/-- The steps in a free order: each is placed among the later ones by the free value of the counter (log entry 3). -/
def freeOrder (k : Nat) : List Instr → List Instr
  | [] => []
  | [x] => [x]
  | x :: y :: rest =>
    let l := freeOrder (k + 1) (y :: rest)
    insertAt (Config.tieOrder k % (l.length + 1)) x l

/-- One millisecond passes on an empty queue: every timer runs down, and the expiries that come due are queued in a
free order (log entries 2 and 3). -/
def tick (s : State) : State :=
  let s1 := tickTimers s
  let due := dueSteps s1
  { s1 with pending := freeOrder s.free due, free := s.free + (due.length - 1) }

end Sys2Proof.Machine
end

