-- ==== Sys2Proof/Machine/Dispatch.lean ====
section
/-! DEFINITION. exec: one arm per step of the table. -/

namespace Sys2Proof.Machine

def exec (i : Instr) (s : State) : Host.Outcome State Fault Refusal :=
  match i with
  | .powerOnReset => Sys2Proof.Machine.execPowerOnReset s
  | .startUpLoadEnd => Sys2Proof.Machine.execStartUpLoadEnd s
  | .zoneLineSlotCompletion line code => Sys2Proof.Machine.execZoneLineSlotCompletion line code s
  | .doorSenseSlotCompletion circuit code => Sys2Proof.Machine.execDoorSenseSlotCompletion circuit code s
  | .resetExpiry group => Sys2Proof.Machine.execResetExpiry group s
  | .settleExpiry group => Sys2Proof.Machine.execSettleExpiry group s
  | .windowExpiry group => Sys2Proof.Machine.execWindowExpiry group s
  | .retardExpiry line => Sys2Proof.Machine.execRetardExpiry line s
  | .holdTimerExpiry => Sys2Proof.Machine.execHoldTimerExpiry s
  | .silenceInhibitExpiry => Sys2Proof.Machine.execSilenceInhibitExpiry s
  | .spreadExpiry => Sys2Proof.Machine.execSpreadExpiry s
  | .carReportTimeout car => Sys2Proof.Machine.execCarReportTimeout car s
  | .staggerExpiry => Sys2Proof.Machine.execStaggerExpiry s
  | .openWaitExpiry group => Sys2Proof.Machine.execOpenWaitExpiry group s
  | .coolDownExpiry circuit => Sys2Proof.Machine.execCoolDownExpiry circuit s
  | .stopTimerExpiry channel => Sys2Proof.Machine.execStopTimerExpiry channel s
  | .playTimerExpiry channel => Sys2Proof.Machine.execPlayTimerExpiry channel s
  | .chainRefreshExpiry => Sys2Proof.Machine.execChainRefreshExpiry s
  | .routingShiftComplete => Sys2Proof.Machine.execRoutingShiftComplete s
  | .storeWriteCompletion => Sys2Proof.Machine.execStoreWriteCompletion s
  | .enableInputDrop => Sys2Proof.Machine.execEnableInputDrop s
  | .enableInputAssert => Sys2Proof.Machine.execEnableInputAssert s
  | .frameBegin start => Sys2Proof.Machine.execFrameBegin start s
  | .frameEnd port edges => Sys2Proof.Machine.execFrameEnd port edges s
  | .unknownCommand port byte => Sys2Proof.Machine.execUnknownCommand port byte s
  | .portReset hold => Sys2Proof.Machine.execPortReset hold s
  | .readWordShifted shift => Sys2Proof.Machine.execReadWordShifted shift s
  | .noticesReplyComplete port => Sys2Proof.Machine.execNoticesReplyComplete port s
  | .select port table record field => Sys2Proof.Machine.execSelect port table record field s
  | .window port fr lr ff lf order => Sys2Proof.Machine.execWindow port fr lr ff lf order s
  | .read port => Sys2Proof.Machine.execRead port s
  | .notices port => Sys2Proof.Machine.execNotices port s
  | .mask port kinds => Sys2Proof.Machine.execMask port kinds s
  | .status port => Sys2Proof.Machine.execStatus port s
  | .takeControl port => Sys2Proof.Machine.execTakeControl port s
  | .releaseControl port => Sys2Proof.Machine.execReleaseControl port s
  | .acknowledge port => Sys2Proof.Machine.execAcknowledge port s
  | .silence port => Sys2Proof.Machine.execSilence port s
  | .resound port => Sys2Proof.Machine.execResound port s
  | .evacuateAll port => Sys2Proof.Machine.execEvacuateAll port s
  | .spreadHold port => Sys2Proof.Machine.execSpreadHold port s
  | .spreadResume port => Sys2Proof.Machine.execSpreadResume port s
  | .resetRegime port => Sys2Proof.Machine.execResetRegime port s
  | .isolateLine port line => Sys2Proof.Machine.execIsolateLine port line s
  | .restoreLine port line => Sys2Proof.Machine.execRestoreLine port line s
  | .recallGroup port group => Sys2Proof.Machine.execRecallGroup port group s
  | .releaseGroup port group => Sys2Proof.Machine.execReleaseGroup port group s
  | .carReport port car position motion doors mode => Sys2Proof.Machine.execCarReport port car position motion doors mode s
  | .doorOverride port group override => Sys2Proof.Machine.execDoorOverride port group override s
  | .clearDoorFault port circuit => Sys2Proof.Machine.execClearDoorFault port circuit s
  | .postAnnouncement port cls message floors rpt => Sys2Proof.Machine.execPostAnnouncement port cls message floors rpt s
  | .cancelAnnouncement port slot message => Sys2Proof.Machine.execCancelAnnouncement port slot message s
  | .playEnd port channel message => Sys2Proof.Machine.execPlayEnd port channel message s
  | .storeWrite port kind index expected image => Sys2Proof.Machine.execStoreWrite port kind index expected image s
  | .checkConfig port => Sys2Proof.Machine.execCheckConfig port s
  | .restart port => Sys2Proof.Machine.execRestart port s

end Sys2Proof.Machine
end

