-- ==== Sys2Proof/Machine/Step.lean ====
section
/-! DEFINITION. step: the step at the front of the queue, or one millisecond on an empty queue; and withFetchWord. -/

namespace Sys2Proof.Machine

/-- One step of the part: the command at the front of the queue runs on the state with the queue's rest; on an empty
queue one millisecond passes (log entry 2). -/
def step (s : State) : Host.Outcome State Fault Refusal :=
  match s.pending with
  | [] => .next (tick s)
  | c :: rest => exec c { s with pending := rest }

/-- The state with the command that a word spells at the front of its queue; unchanged where the word spells none. -/
def State.withFetchWord (s : State) (nbits w : Nat) : State :=
  match decodeTableWord nbits w with
  | none => s
  | some i => { s with pending := i :: s.pending }

end Sys2Proof.Machine
end

