-- ==== Sys2Proof/Laws/State.lean ====
section
/-! SUPPORT. One simp lemma for each field of State under each update, true by unfolding, so that no proof unfolds a record update. -/

namespace Sys2Proof.Machine

variable (s : State)

/-! setPort changes `ports` alone. -/
@[simp] theorem setPort_load (p : Fin 4) (x : Port) : (s.setPort p x).load = s.load := rfl
@[simp] theorem setPort_config (p : Fin 4) (x : Port) : (s.setPort p x).config = s.config := rfl
@[simp] theorem setPort_enable (p : Fin 4) (x : Port) : (s.setPort p x).enable = s.enable := rfl
@[simp] theorem setPort_store (p : Fin 4) (x : Port) : (s.setPort p x).store = s.store := rfl
@[simp] theorem setPort_busy (p : Fin 4) (x : Port) : (s.setPort p x).busy = s.busy := rfl
@[simp] theorem setPort_scanSlot (p : Fin 4) (x : Port) : (s.setPort p x).scanSlot = s.scanSlot := rfl
@[simp] theorem setPort_lines (p : Fin 4) (x : Port) : (s.setPort p x).lines = s.lines := rfl
@[simp] theorem setPort_pgroups (p : Fin 4) (x : Port) : (s.setPort p x).pgroups = s.pgroups := rfl
@[simp] theorem setPort_regime (p : Fin 4) (x : Port) : (s.setPort p x).regime = s.regime := rfl
@[simp] theorem setPort_floors (p : Fin 4) (x : Port) : (s.setPort p x).floors = s.floors := rfl
@[simp] theorem setPort_lgroups (p : Fin 4) (x : Port) : (s.setPort p x).lgroups = s.lgroups := rfl
@[simp] theorem setPort_cars (p : Fin 4) (x : Port) : (s.setPort p x).cars = s.cars := rfl
@[simp] theorem setPort_doors (p : Fin 4) (x : Port) : (s.setPort p x).doors = s.doors := rfl
@[simp] theorem setPort_dgroups (p : Fin 4) (x : Port) : (s.setPort p x).dgroups = s.dgroups := rfl
@[simp] theorem setPort_resecure (p : Fin 4) (x : Port) : (s.setPort p x).resecure = s.resecure := rfl
@[simp] theorem setPort_stagger (p : Fin 4) (x : Port) : (s.setPort p x).stagger = s.stagger := rfl
@[simp] theorem setPort_entries (p : Fin 4) (x : Port) : (s.setPort p x).entries = s.entries := rfl
@[simp] theorem setPort_channels (p : Fin 4) (x : Port) : (s.setPort p x).channels = s.channels := rfl
@[simp] theorem setPort_chain (p : Fin 4) (x : Port) : (s.setPort p x).chain = s.chain := rfl
@[simp] theorem setPort_ports (p : Fin 4) (x : Port) : (s.setPort p x).ports = s.ports.set p x := rfl
@[simp] theorem setPort_free (p : Fin 4) (x : Port) : (s.setPort p x).free = s.free := rfl
@[simp] theorem setPort_pending (p : Fin 4) (x : Port) : (s.setPort p x).pending = s.pending := rfl

/-! setRegime changes `regime` alone. -/
@[simp] theorem setRegime_load (x : Regime) : (s.setRegime x).load = s.load := rfl
@[simp] theorem setRegime_config (x : Regime) : (s.setRegime x).config = s.config := rfl
@[simp] theorem setRegime_enable (x : Regime) : (s.setRegime x).enable = s.enable := rfl
@[simp] theorem setRegime_store (x : Regime) : (s.setRegime x).store = s.store := rfl
@[simp] theorem setRegime_busy (x : Regime) : (s.setRegime x).busy = s.busy := rfl
@[simp] theorem setRegime_scanSlot (x : Regime) : (s.setRegime x).scanSlot = s.scanSlot := rfl
@[simp] theorem setRegime_lines (x : Regime) : (s.setRegime x).lines = s.lines := rfl
@[simp] theorem setRegime_pgroups (x : Regime) : (s.setRegime x).pgroups = s.pgroups := rfl
@[simp] theorem setRegime_regime (x : Regime) : (s.setRegime x).regime = x := rfl
@[simp] theorem setRegime_floors (x : Regime) : (s.setRegime x).floors = s.floors := rfl
@[simp] theorem setRegime_lgroups (x : Regime) : (s.setRegime x).lgroups = s.lgroups := rfl
@[simp] theorem setRegime_cars (x : Regime) : (s.setRegime x).cars = s.cars := rfl
@[simp] theorem setRegime_doors (x : Regime) : (s.setRegime x).doors = s.doors := rfl
@[simp] theorem setRegime_dgroups (x : Regime) : (s.setRegime x).dgroups = s.dgroups := rfl
@[simp] theorem setRegime_resecure (x : Regime) : (s.setRegime x).resecure = s.resecure := rfl
@[simp] theorem setRegime_stagger (x : Regime) : (s.setRegime x).stagger = s.stagger := rfl
@[simp] theorem setRegime_entries (x : Regime) : (s.setRegime x).entries = s.entries := rfl
@[simp] theorem setRegime_channels (x : Regime) : (s.setRegime x).channels = s.channels := rfl
@[simp] theorem setRegime_chain (x : Regime) : (s.setRegime x).chain = s.chain := rfl
@[simp] theorem setRegime_ports (x : Regime) : (s.setRegime x).ports = s.ports := rfl
@[simp] theorem setRegime_free (x : Regime) : (s.setRegime x).free = s.free := rfl
@[simp] theorem setRegime_pending (x : Regime) : (s.setRegime x).pending = s.pending := rfl

/-! setLine changes `lines` alone. -/
@[simp] theorem setLine_load (i : Fin 64) (x : Line) : (s.setLine i x).load = s.load := rfl
@[simp] theorem setLine_config (i : Fin 64) (x : Line) : (s.setLine i x).config = s.config := rfl
@[simp] theorem setLine_enable (i : Fin 64) (x : Line) : (s.setLine i x).enable = s.enable := rfl
@[simp] theorem setLine_store (i : Fin 64) (x : Line) : (s.setLine i x).store = s.store := rfl
@[simp] theorem setLine_busy (i : Fin 64) (x : Line) : (s.setLine i x).busy = s.busy := rfl
@[simp] theorem setLine_scanSlot (i : Fin 64) (x : Line) : (s.setLine i x).scanSlot = s.scanSlot := rfl
@[simp] theorem setLine_lines (i : Fin 64) (x : Line) : (s.setLine i x).lines = s.lines.set i x := rfl
@[simp] theorem setLine_pgroups (i : Fin 64) (x : Line) : (s.setLine i x).pgroups = s.pgroups := rfl
@[simp] theorem setLine_regime (i : Fin 64) (x : Line) : (s.setLine i x).regime = s.regime := rfl
@[simp] theorem setLine_floors (i : Fin 64) (x : Line) : (s.setLine i x).floors = s.floors := rfl
@[simp] theorem setLine_lgroups (i : Fin 64) (x : Line) : (s.setLine i x).lgroups = s.lgroups := rfl
@[simp] theorem setLine_cars (i : Fin 64) (x : Line) : (s.setLine i x).cars = s.cars := rfl
@[simp] theorem setLine_doors (i : Fin 64) (x : Line) : (s.setLine i x).doors = s.doors := rfl
@[simp] theorem setLine_dgroups (i : Fin 64) (x : Line) : (s.setLine i x).dgroups = s.dgroups := rfl
@[simp] theorem setLine_resecure (i : Fin 64) (x : Line) : (s.setLine i x).resecure = s.resecure := rfl
@[simp] theorem setLine_stagger (i : Fin 64) (x : Line) : (s.setLine i x).stagger = s.stagger := rfl
@[simp] theorem setLine_entries (i : Fin 64) (x : Line) : (s.setLine i x).entries = s.entries := rfl
@[simp] theorem setLine_channels (i : Fin 64) (x : Line) : (s.setLine i x).channels = s.channels := rfl
@[simp] theorem setLine_chain (i : Fin 64) (x : Line) : (s.setLine i x).chain = s.chain := rfl
@[simp] theorem setLine_ports (i : Fin 64) (x : Line) : (s.setLine i x).ports = s.ports := rfl
@[simp] theorem setLine_free (i : Fin 64) (x : Line) : (s.setLine i x).free = s.free := rfl
@[simp] theorem setLine_pending (i : Fin 64) (x : Line) : (s.setLine i x).pending = s.pending := rfl

/-! setPGroup changes `pgroups` alone. -/
@[simp] theorem setPGroup_load (g : Fin 8) (x : PGroup) : (s.setPGroup g x).load = s.load := rfl
@[simp] theorem setPGroup_config (g : Fin 8) (x : PGroup) : (s.setPGroup g x).config = s.config := rfl
@[simp] theorem setPGroup_enable (g : Fin 8) (x : PGroup) : (s.setPGroup g x).enable = s.enable := rfl
@[simp] theorem setPGroup_store (g : Fin 8) (x : PGroup) : (s.setPGroup g x).store = s.store := rfl
@[simp] theorem setPGroup_busy (g : Fin 8) (x : PGroup) : (s.setPGroup g x).busy = s.busy := rfl
@[simp] theorem setPGroup_scanSlot (g : Fin 8) (x : PGroup) : (s.setPGroup g x).scanSlot = s.scanSlot := rfl
@[simp] theorem setPGroup_lines (g : Fin 8) (x : PGroup) : (s.setPGroup g x).lines = s.lines := rfl
@[simp] theorem setPGroup_pgroups (g : Fin 8) (x : PGroup) : (s.setPGroup g x).pgroups = s.pgroups.set g x := rfl
@[simp] theorem setPGroup_regime (g : Fin 8) (x : PGroup) : (s.setPGroup g x).regime = s.regime := rfl
@[simp] theorem setPGroup_floors (g : Fin 8) (x : PGroup) : (s.setPGroup g x).floors = s.floors := rfl
@[simp] theorem setPGroup_lgroups (g : Fin 8) (x : PGroup) : (s.setPGroup g x).lgroups = s.lgroups := rfl
@[simp] theorem setPGroup_cars (g : Fin 8) (x : PGroup) : (s.setPGroup g x).cars = s.cars := rfl
@[simp] theorem setPGroup_doors (g : Fin 8) (x : PGroup) : (s.setPGroup g x).doors = s.doors := rfl
@[simp] theorem setPGroup_dgroups (g : Fin 8) (x : PGroup) : (s.setPGroup g x).dgroups = s.dgroups := rfl
@[simp] theorem setPGroup_resecure (g : Fin 8) (x : PGroup) : (s.setPGroup g x).resecure = s.resecure := rfl
@[simp] theorem setPGroup_stagger (g : Fin 8) (x : PGroup) : (s.setPGroup g x).stagger = s.stagger := rfl
@[simp] theorem setPGroup_entries (g : Fin 8) (x : PGroup) : (s.setPGroup g x).entries = s.entries := rfl
@[simp] theorem setPGroup_channels (g : Fin 8) (x : PGroup) : (s.setPGroup g x).channels = s.channels := rfl
@[simp] theorem setPGroup_chain (g : Fin 8) (x : PGroup) : (s.setPGroup g x).chain = s.chain := rfl
@[simp] theorem setPGroup_ports (g : Fin 8) (x : PGroup) : (s.setPGroup g x).ports = s.ports := rfl
@[simp] theorem setPGroup_free (g : Fin 8) (x : PGroup) : (s.setPGroup g x).free = s.free := rfl
@[simp] theorem setPGroup_pending (g : Fin 8) (x : PGroup) : (s.setPGroup g x).pending = s.pending := rfl

/-! setFloor changes `floors` alone. -/
@[simp] theorem setFloor_load (f : Fin 48) (x : Floor) : (s.setFloor f x).load = s.load := rfl
@[simp] theorem setFloor_config (f : Fin 48) (x : Floor) : (s.setFloor f x).config = s.config := rfl
@[simp] theorem setFloor_enable (f : Fin 48) (x : Floor) : (s.setFloor f x).enable = s.enable := rfl
@[simp] theorem setFloor_store (f : Fin 48) (x : Floor) : (s.setFloor f x).store = s.store := rfl
@[simp] theorem setFloor_busy (f : Fin 48) (x : Floor) : (s.setFloor f x).busy = s.busy := rfl
@[simp] theorem setFloor_scanSlot (f : Fin 48) (x : Floor) : (s.setFloor f x).scanSlot = s.scanSlot := rfl
@[simp] theorem setFloor_lines (f : Fin 48) (x : Floor) : (s.setFloor f x).lines = s.lines := rfl
@[simp] theorem setFloor_pgroups (f : Fin 48) (x : Floor) : (s.setFloor f x).pgroups = s.pgroups := rfl
@[simp] theorem setFloor_regime (f : Fin 48) (x : Floor) : (s.setFloor f x).regime = s.regime := rfl
@[simp] theorem setFloor_floors (f : Fin 48) (x : Floor) : (s.setFloor f x).floors = s.floors.set f x := rfl
@[simp] theorem setFloor_lgroups (f : Fin 48) (x : Floor) : (s.setFloor f x).lgroups = s.lgroups := rfl
@[simp] theorem setFloor_cars (f : Fin 48) (x : Floor) : (s.setFloor f x).cars = s.cars := rfl
@[simp] theorem setFloor_doors (f : Fin 48) (x : Floor) : (s.setFloor f x).doors = s.doors := rfl
@[simp] theorem setFloor_dgroups (f : Fin 48) (x : Floor) : (s.setFloor f x).dgroups = s.dgroups := rfl
@[simp] theorem setFloor_resecure (f : Fin 48) (x : Floor) : (s.setFloor f x).resecure = s.resecure := rfl
@[simp] theorem setFloor_stagger (f : Fin 48) (x : Floor) : (s.setFloor f x).stagger = s.stagger := rfl
@[simp] theorem setFloor_entries (f : Fin 48) (x : Floor) : (s.setFloor f x).entries = s.entries := rfl
@[simp] theorem setFloor_channels (f : Fin 48) (x : Floor) : (s.setFloor f x).channels = s.channels := rfl
@[simp] theorem setFloor_chain (f : Fin 48) (x : Floor) : (s.setFloor f x).chain = s.chain := rfl
@[simp] theorem setFloor_ports (f : Fin 48) (x : Floor) : (s.setFloor f x).ports = s.ports := rfl
@[simp] theorem setFloor_free (f : Fin 48) (x : Floor) : (s.setFloor f x).free = s.free := rfl
@[simp] theorem setFloor_pending (f : Fin 48) (x : Floor) : (s.setFloor f x).pending = s.pending := rfl

/-! setCar changes `cars` alone. -/
@[simp] theorem setCar_load (c : Fin 12) (x : Car) : (s.setCar c x).load = s.load := rfl
@[simp] theorem setCar_config (c : Fin 12) (x : Car) : (s.setCar c x).config = s.config := rfl
@[simp] theorem setCar_enable (c : Fin 12) (x : Car) : (s.setCar c x).enable = s.enable := rfl
@[simp] theorem setCar_store (c : Fin 12) (x : Car) : (s.setCar c x).store = s.store := rfl
@[simp] theorem setCar_busy (c : Fin 12) (x : Car) : (s.setCar c x).busy = s.busy := rfl
@[simp] theorem setCar_scanSlot (c : Fin 12) (x : Car) : (s.setCar c x).scanSlot = s.scanSlot := rfl
@[simp] theorem setCar_lines (c : Fin 12) (x : Car) : (s.setCar c x).lines = s.lines := rfl
@[simp] theorem setCar_pgroups (c : Fin 12) (x : Car) : (s.setCar c x).pgroups = s.pgroups := rfl
@[simp] theorem setCar_regime (c : Fin 12) (x : Car) : (s.setCar c x).regime = s.regime := rfl
@[simp] theorem setCar_floors (c : Fin 12) (x : Car) : (s.setCar c x).floors = s.floors := rfl
@[simp] theorem setCar_lgroups (c : Fin 12) (x : Car) : (s.setCar c x).lgroups = s.lgroups := rfl
@[simp] theorem setCar_cars (c : Fin 12) (x : Car) : (s.setCar c x).cars = s.cars.set c x := rfl
@[simp] theorem setCar_doors (c : Fin 12) (x : Car) : (s.setCar c x).doors = s.doors := rfl
@[simp] theorem setCar_dgroups (c : Fin 12) (x : Car) : (s.setCar c x).dgroups = s.dgroups := rfl
@[simp] theorem setCar_resecure (c : Fin 12) (x : Car) : (s.setCar c x).resecure = s.resecure := rfl
@[simp] theorem setCar_stagger (c : Fin 12) (x : Car) : (s.setCar c x).stagger = s.stagger := rfl
@[simp] theorem setCar_entries (c : Fin 12) (x : Car) : (s.setCar c x).entries = s.entries := rfl
@[simp] theorem setCar_channels (c : Fin 12) (x : Car) : (s.setCar c x).channels = s.channels := rfl
@[simp] theorem setCar_chain (c : Fin 12) (x : Car) : (s.setCar c x).chain = s.chain := rfl
@[simp] theorem setCar_ports (c : Fin 12) (x : Car) : (s.setCar c x).ports = s.ports := rfl
@[simp] theorem setCar_free (c : Fin 12) (x : Car) : (s.setCar c x).free = s.free := rfl
@[simp] theorem setCar_pending (c : Fin 12) (x : Car) : (s.setCar c x).pending = s.pending := rfl

/-! setLGroup changes `lgroups` alone. -/
@[simp] theorem setLGroup_load (g : Fin 3) (x : LGroup) : (s.setLGroup g x).load = s.load := rfl
@[simp] theorem setLGroup_config (g : Fin 3) (x : LGroup) : (s.setLGroup g x).config = s.config := rfl
@[simp] theorem setLGroup_enable (g : Fin 3) (x : LGroup) : (s.setLGroup g x).enable = s.enable := rfl
@[simp] theorem setLGroup_store (g : Fin 3) (x : LGroup) : (s.setLGroup g x).store = s.store := rfl
@[simp] theorem setLGroup_busy (g : Fin 3) (x : LGroup) : (s.setLGroup g x).busy = s.busy := rfl
@[simp] theorem setLGroup_scanSlot (g : Fin 3) (x : LGroup) : (s.setLGroup g x).scanSlot = s.scanSlot := rfl
@[simp] theorem setLGroup_lines (g : Fin 3) (x : LGroup) : (s.setLGroup g x).lines = s.lines := rfl
@[simp] theorem setLGroup_pgroups (g : Fin 3) (x : LGroup) : (s.setLGroup g x).pgroups = s.pgroups := rfl
@[simp] theorem setLGroup_regime (g : Fin 3) (x : LGroup) : (s.setLGroup g x).regime = s.regime := rfl
@[simp] theorem setLGroup_floors (g : Fin 3) (x : LGroup) : (s.setLGroup g x).floors = s.floors := rfl
@[simp] theorem setLGroup_lgroups (g : Fin 3) (x : LGroup) : (s.setLGroup g x).lgroups = s.lgroups.set g x := rfl
@[simp] theorem setLGroup_cars (g : Fin 3) (x : LGroup) : (s.setLGroup g x).cars = s.cars := rfl
@[simp] theorem setLGroup_doors (g : Fin 3) (x : LGroup) : (s.setLGroup g x).doors = s.doors := rfl
@[simp] theorem setLGroup_dgroups (g : Fin 3) (x : LGroup) : (s.setLGroup g x).dgroups = s.dgroups := rfl
@[simp] theorem setLGroup_resecure (g : Fin 3) (x : LGroup) : (s.setLGroup g x).resecure = s.resecure := rfl
@[simp] theorem setLGroup_stagger (g : Fin 3) (x : LGroup) : (s.setLGroup g x).stagger = s.stagger := rfl
@[simp] theorem setLGroup_entries (g : Fin 3) (x : LGroup) : (s.setLGroup g x).entries = s.entries := rfl
@[simp] theorem setLGroup_channels (g : Fin 3) (x : LGroup) : (s.setLGroup g x).channels = s.channels := rfl
@[simp] theorem setLGroup_chain (g : Fin 3) (x : LGroup) : (s.setLGroup g x).chain = s.chain := rfl
@[simp] theorem setLGroup_ports (g : Fin 3) (x : LGroup) : (s.setLGroup g x).ports = s.ports := rfl
@[simp] theorem setLGroup_free (g : Fin 3) (x : LGroup) : (s.setLGroup g x).free = s.free := rfl
@[simp] theorem setLGroup_pending (g : Fin 3) (x : LGroup) : (s.setLGroup g x).pending = s.pending := rfl

/-! setDoor changes `doors` alone. -/
@[simp] theorem setDoor_load (c : Fin 32) (x : Door) : (s.setDoor c x).load = s.load := rfl
@[simp] theorem setDoor_config (c : Fin 32) (x : Door) : (s.setDoor c x).config = s.config := rfl
@[simp] theorem setDoor_enable (c : Fin 32) (x : Door) : (s.setDoor c x).enable = s.enable := rfl
@[simp] theorem setDoor_store (c : Fin 32) (x : Door) : (s.setDoor c x).store = s.store := rfl
@[simp] theorem setDoor_busy (c : Fin 32) (x : Door) : (s.setDoor c x).busy = s.busy := rfl
@[simp] theorem setDoor_scanSlot (c : Fin 32) (x : Door) : (s.setDoor c x).scanSlot = s.scanSlot := rfl
@[simp] theorem setDoor_lines (c : Fin 32) (x : Door) : (s.setDoor c x).lines = s.lines := rfl
@[simp] theorem setDoor_pgroups (c : Fin 32) (x : Door) : (s.setDoor c x).pgroups = s.pgroups := rfl
@[simp] theorem setDoor_regime (c : Fin 32) (x : Door) : (s.setDoor c x).regime = s.regime := rfl
@[simp] theorem setDoor_floors (c : Fin 32) (x : Door) : (s.setDoor c x).floors = s.floors := rfl
@[simp] theorem setDoor_lgroups (c : Fin 32) (x : Door) : (s.setDoor c x).lgroups = s.lgroups := rfl
@[simp] theorem setDoor_cars (c : Fin 32) (x : Door) : (s.setDoor c x).cars = s.cars := rfl
@[simp] theorem setDoor_doors (c : Fin 32) (x : Door) : (s.setDoor c x).doors = s.doors.set c x := rfl
@[simp] theorem setDoor_dgroups (c : Fin 32) (x : Door) : (s.setDoor c x).dgroups = s.dgroups := rfl
@[simp] theorem setDoor_resecure (c : Fin 32) (x : Door) : (s.setDoor c x).resecure = s.resecure := rfl
@[simp] theorem setDoor_stagger (c : Fin 32) (x : Door) : (s.setDoor c x).stagger = s.stagger := rfl
@[simp] theorem setDoor_entries (c : Fin 32) (x : Door) : (s.setDoor c x).entries = s.entries := rfl
@[simp] theorem setDoor_channels (c : Fin 32) (x : Door) : (s.setDoor c x).channels = s.channels := rfl
@[simp] theorem setDoor_chain (c : Fin 32) (x : Door) : (s.setDoor c x).chain = s.chain := rfl
@[simp] theorem setDoor_ports (c : Fin 32) (x : Door) : (s.setDoor c x).ports = s.ports := rfl
@[simp] theorem setDoor_free (c : Fin 32) (x : Door) : (s.setDoor c x).free = s.free := rfl
@[simp] theorem setDoor_pending (c : Fin 32) (x : Door) : (s.setDoor c x).pending = s.pending := rfl

/-! setDGroup changes `dgroups` alone. -/
@[simp] theorem setDGroup_load (g : Fin 16) (x : DGroup) : (s.setDGroup g x).load = s.load := rfl
@[simp] theorem setDGroup_config (g : Fin 16) (x : DGroup) : (s.setDGroup g x).config = s.config := rfl
@[simp] theorem setDGroup_enable (g : Fin 16) (x : DGroup) : (s.setDGroup g x).enable = s.enable := rfl
@[simp] theorem setDGroup_store (g : Fin 16) (x : DGroup) : (s.setDGroup g x).store = s.store := rfl
@[simp] theorem setDGroup_busy (g : Fin 16) (x : DGroup) : (s.setDGroup g x).busy = s.busy := rfl
@[simp] theorem setDGroup_scanSlot (g : Fin 16) (x : DGroup) : (s.setDGroup g x).scanSlot = s.scanSlot := rfl
@[simp] theorem setDGroup_lines (g : Fin 16) (x : DGroup) : (s.setDGroup g x).lines = s.lines := rfl
@[simp] theorem setDGroup_pgroups (g : Fin 16) (x : DGroup) : (s.setDGroup g x).pgroups = s.pgroups := rfl
@[simp] theorem setDGroup_regime (g : Fin 16) (x : DGroup) : (s.setDGroup g x).regime = s.regime := rfl
@[simp] theorem setDGroup_floors (g : Fin 16) (x : DGroup) : (s.setDGroup g x).floors = s.floors := rfl
@[simp] theorem setDGroup_lgroups (g : Fin 16) (x : DGroup) : (s.setDGroup g x).lgroups = s.lgroups := rfl
@[simp] theorem setDGroup_cars (g : Fin 16) (x : DGroup) : (s.setDGroup g x).cars = s.cars := rfl
@[simp] theorem setDGroup_doors (g : Fin 16) (x : DGroup) : (s.setDGroup g x).doors = s.doors := rfl
@[simp] theorem setDGroup_dgroups (g : Fin 16) (x : DGroup) : (s.setDGroup g x).dgroups = s.dgroups.set g x := rfl
@[simp] theorem setDGroup_resecure (g : Fin 16) (x : DGroup) : (s.setDGroup g x).resecure = s.resecure := rfl
@[simp] theorem setDGroup_stagger (g : Fin 16) (x : DGroup) : (s.setDGroup g x).stagger = s.stagger := rfl
@[simp] theorem setDGroup_entries (g : Fin 16) (x : DGroup) : (s.setDGroup g x).entries = s.entries := rfl
@[simp] theorem setDGroup_channels (g : Fin 16) (x : DGroup) : (s.setDGroup g x).channels = s.channels := rfl
@[simp] theorem setDGroup_chain (g : Fin 16) (x : DGroup) : (s.setDGroup g x).chain = s.chain := rfl
@[simp] theorem setDGroup_ports (g : Fin 16) (x : DGroup) : (s.setDGroup g x).ports = s.ports := rfl
@[simp] theorem setDGroup_free (g : Fin 16) (x : DGroup) : (s.setDGroup g x).free = s.free := rfl
@[simp] theorem setDGroup_pending (g : Fin 16) (x : DGroup) : (s.setDGroup g x).pending = s.pending := rfl

/-! setChannel changes `channels` alone. -/
@[simp] theorem setChannel_load (c : Fin 4) (x : Channel) : (s.setChannel c x).load = s.load := rfl
@[simp] theorem setChannel_config (c : Fin 4) (x : Channel) : (s.setChannel c x).config = s.config := rfl
@[simp] theorem setChannel_enable (c : Fin 4) (x : Channel) : (s.setChannel c x).enable = s.enable := rfl
@[simp] theorem setChannel_store (c : Fin 4) (x : Channel) : (s.setChannel c x).store = s.store := rfl
@[simp] theorem setChannel_busy (c : Fin 4) (x : Channel) : (s.setChannel c x).busy = s.busy := rfl
@[simp] theorem setChannel_scanSlot (c : Fin 4) (x : Channel) : (s.setChannel c x).scanSlot = s.scanSlot := rfl
@[simp] theorem setChannel_lines (c : Fin 4) (x : Channel) : (s.setChannel c x).lines = s.lines := rfl
@[simp] theorem setChannel_pgroups (c : Fin 4) (x : Channel) : (s.setChannel c x).pgroups = s.pgroups := rfl
@[simp] theorem setChannel_regime (c : Fin 4) (x : Channel) : (s.setChannel c x).regime = s.regime := rfl
@[simp] theorem setChannel_floors (c : Fin 4) (x : Channel) : (s.setChannel c x).floors = s.floors := rfl
@[simp] theorem setChannel_lgroups (c : Fin 4) (x : Channel) : (s.setChannel c x).lgroups = s.lgroups := rfl
@[simp] theorem setChannel_cars (c : Fin 4) (x : Channel) : (s.setChannel c x).cars = s.cars := rfl
@[simp] theorem setChannel_doors (c : Fin 4) (x : Channel) : (s.setChannel c x).doors = s.doors := rfl
@[simp] theorem setChannel_dgroups (c : Fin 4) (x : Channel) : (s.setChannel c x).dgroups = s.dgroups := rfl
@[simp] theorem setChannel_resecure (c : Fin 4) (x : Channel) : (s.setChannel c x).resecure = s.resecure := rfl
@[simp] theorem setChannel_stagger (c : Fin 4) (x : Channel) : (s.setChannel c x).stagger = s.stagger := rfl
@[simp] theorem setChannel_entries (c : Fin 4) (x : Channel) : (s.setChannel c x).entries = s.entries := rfl
@[simp] theorem setChannel_channels (c : Fin 4) (x : Channel) : (s.setChannel c x).channels = s.channels.set c x := rfl
@[simp] theorem setChannel_chain (c : Fin 4) (x : Channel) : (s.setChannel c x).chain = s.chain := rfl
@[simp] theorem setChannel_ports (c : Fin 4) (x : Channel) : (s.setChannel c x).ports = s.ports := rfl
@[simp] theorem setChannel_free (c : Fin 4) (x : Channel) : (s.setChannel c x).free = s.free := rfl
@[simp] theorem setChannel_pending (c : Fin 4) (x : Channel) : (s.setChannel c x).pending = s.pending := rfl

/-! setStore changes `store` alone. -/
@[simp] theorem setStore_load (n : Fin 136) (x : StoreRec) : (s.setStore n x).load = s.load := rfl
@[simp] theorem setStore_config (n : Fin 136) (x : StoreRec) : (s.setStore n x).config = s.config := rfl
@[simp] theorem setStore_enable (n : Fin 136) (x : StoreRec) : (s.setStore n x).enable = s.enable := rfl
@[simp] theorem setStore_store (n : Fin 136) (x : StoreRec) : (s.setStore n x).store = s.store.set n x := rfl
@[simp] theorem setStore_busy (n : Fin 136) (x : StoreRec) : (s.setStore n x).busy = s.busy := rfl
@[simp] theorem setStore_scanSlot (n : Fin 136) (x : StoreRec) : (s.setStore n x).scanSlot = s.scanSlot := rfl
@[simp] theorem setStore_lines (n : Fin 136) (x : StoreRec) : (s.setStore n x).lines = s.lines := rfl
@[simp] theorem setStore_pgroups (n : Fin 136) (x : StoreRec) : (s.setStore n x).pgroups = s.pgroups := rfl
@[simp] theorem setStore_regime (n : Fin 136) (x : StoreRec) : (s.setStore n x).regime = s.regime := rfl
@[simp] theorem setStore_floors (n : Fin 136) (x : StoreRec) : (s.setStore n x).floors = s.floors := rfl
@[simp] theorem setStore_lgroups (n : Fin 136) (x : StoreRec) : (s.setStore n x).lgroups = s.lgroups := rfl
@[simp] theorem setStore_cars (n : Fin 136) (x : StoreRec) : (s.setStore n x).cars = s.cars := rfl
@[simp] theorem setStore_doors (n : Fin 136) (x : StoreRec) : (s.setStore n x).doors = s.doors := rfl
@[simp] theorem setStore_dgroups (n : Fin 136) (x : StoreRec) : (s.setStore n x).dgroups = s.dgroups := rfl
@[simp] theorem setStore_resecure (n : Fin 136) (x : StoreRec) : (s.setStore n x).resecure = s.resecure := rfl
@[simp] theorem setStore_stagger (n : Fin 136) (x : StoreRec) : (s.setStore n x).stagger = s.stagger := rfl
@[simp] theorem setStore_entries (n : Fin 136) (x : StoreRec) : (s.setStore n x).entries = s.entries := rfl
@[simp] theorem setStore_channels (n : Fin 136) (x : StoreRec) : (s.setStore n x).channels = s.channels := rfl
@[simp] theorem setStore_chain (n : Fin 136) (x : StoreRec) : (s.setStore n x).chain = s.chain := rfl
@[simp] theorem setStore_ports (n : Fin 136) (x : StoreRec) : (s.setStore n x).ports = s.ports := rfl
@[simp] theorem setStore_free (n : Fin 136) (x : StoreRec) : (s.setStore n x).free = s.free := rfl
@[simp] theorem setStore_pending (n : Fin 136) (x : StoreRec) : (s.setStore n x).pending = s.pending := rfl

/-! What a record read back from a vector is. -/
@[simp] theorem setPort_self (p : Fin 4) (x : Port) : (s.setPort p x).ports[p] = x := by simp [State.setPort]
theorem setPort_other (p : Fin 4) (x : Port) (j : Fin 4) (h : j ≠ p) : (s.setPort p x).ports[j] = s.ports[j] := by
  have : p.val ≠ j.val := fun e => h (Fin.ext e.symm)
  simp [State.setPort, this]
@[simp] theorem setLine_self (i : Fin 64) (x : Line) : (s.setLine i x).lines[i] = x := by simp [State.setLine]
theorem setLine_other (i : Fin 64) (x : Line) (j : Fin 64) (h : j ≠ i) : (s.setLine i x).lines[j] = s.lines[j] := by
  have : i.val ≠ j.val := fun e => h (Fin.ext e.symm)
  simp [State.setLine, this]
@[simp] theorem setPGroup_self (g : Fin 8) (x : PGroup) : (s.setPGroup g x).pgroups[g] = x := by simp [State.setPGroup]
theorem setPGroup_other (g : Fin 8) (x : PGroup) (j : Fin 8) (h : j ≠ g) : (s.setPGroup g x).pgroups[j] = s.pgroups[j] := by
  have : g.val ≠ j.val := fun e => h (Fin.ext e.symm)
  simp [State.setPGroup, this]
@[simp] theorem setFloor_self (f : Fin 48) (x : Floor) : (s.setFloor f x).floors[f] = x := by simp [State.setFloor]
theorem setFloor_other (f : Fin 48) (x : Floor) (j : Fin 48) (h : j ≠ f) : (s.setFloor f x).floors[j] = s.floors[j] := by
  have : f.val ≠ j.val := fun e => h (Fin.ext e.symm)
  simp [State.setFloor, this]
@[simp] theorem setCar_self (c : Fin 12) (x : Car) : (s.setCar c x).cars[c] = x := by simp [State.setCar]
theorem setCar_other (c : Fin 12) (x : Car) (j : Fin 12) (h : j ≠ c) : (s.setCar c x).cars[j] = s.cars[j] := by
  have : c.val ≠ j.val := fun e => h (Fin.ext e.symm)
  simp [State.setCar, this]
@[simp] theorem setLGroup_self (g : Fin 3) (x : LGroup) : (s.setLGroup g x).lgroups[g] = x := by simp [State.setLGroup]
theorem setLGroup_other (g : Fin 3) (x : LGroup) (j : Fin 3) (h : j ≠ g) : (s.setLGroup g x).lgroups[j] = s.lgroups[j] := by
  have : g.val ≠ j.val := fun e => h (Fin.ext e.symm)
  simp [State.setLGroup, this]
@[simp] theorem setDoor_self (c : Fin 32) (x : Door) : (s.setDoor c x).doors[c] = x := by simp [State.setDoor]
theorem setDoor_other (c : Fin 32) (x : Door) (j : Fin 32) (h : j ≠ c) : (s.setDoor c x).doors[j] = s.doors[j] := by
  have : c.val ≠ j.val := fun e => h (Fin.ext e.symm)
  simp [State.setDoor, this]
@[simp] theorem setDGroup_self (g : Fin 16) (x : DGroup) : (s.setDGroup g x).dgroups[g] = x := by simp [State.setDGroup]
theorem setDGroup_other (g : Fin 16) (x : DGroup) (j : Fin 16) (h : j ≠ g) : (s.setDGroup g x).dgroups[j] = s.dgroups[j] := by
  have : g.val ≠ j.val := fun e => h (Fin.ext e.symm)
  simp [State.setDGroup, this]
@[simp] theorem setChannel_self (c : Fin 4) (x : Channel) : (s.setChannel c x).channels[c] = x := by simp [State.setChannel]
theorem setChannel_other (c : Fin 4) (x : Channel) (j : Fin 4) (h : j ≠ c) : (s.setChannel c x).channels[j] = s.channels[j] := by
  have : c.val ≠ j.val := fun e => h (Fin.ext e.symm)
  simp [State.setChannel, this]
@[simp] theorem setStore_self (n : Fin 136) (x : StoreRec) : (s.setStore n x).store[n] = x := by simp [State.setStore]
theorem setStore_other (n : Fin 136) (x : StoreRec) (j : Fin 136) (h : j ≠ n) : (s.setStore n x).store[j] = s.store[j] := by
  have : n.val ≠ j.val := fun e => h (Fin.ext e.symm)
  simp [State.setStore, this]

end Sys2Proof.Machine
end

