-- ==== Sys2Proof/Laws/Frames.lean ====
section
/-! SUPPORT. For every shared operation one lemma that lists the fields it leaves as they were; simp cites it instead of unfolding the operation. -/

set_option linter.unusedTactic false
set_option linter.unreachableTactic false

namespace Sys2Proof.Machine

/-- A field that every step of a fold keeps is kept by the fold. -/
theorem foldl_keeps {α β : Type} (g : State → β) (f : State → α → State) (h : ∀ s a, g (f s a) = g s) :
    ∀ (l : List α) (s : State), g (l.foldl f s) = g s
  | [], _ => rfl
  | a :: l, s => (foldl_keeps g f h l (f s a)).trans (h s a)

variable (s : State)

@[simp] theorem raise_frame (k : NoticeSet) :
    (raise k s).load = s.load ∧
    (raise k s).config = s.config ∧
    (raise k s).enable = s.enable ∧
    (raise k s).store = s.store ∧
    (raise k s).busy = s.busy ∧
    (raise k s).scanSlot = s.scanSlot ∧
    (raise k s).lines = s.lines ∧
    (raise k s).pgroups = s.pgroups ∧
    (raise k s).regime = s.regime ∧
    (raise k s).floors = s.floors ∧
    (raise k s).lgroups = s.lgroups ∧
    (raise k s).cars = s.cars ∧
    (raise k s).doors = s.doors ∧
    (raise k s).dgroups = s.dgroups ∧
    (raise k s).resecure = s.resecure ∧
    (raise k s).stagger = s.stagger ∧
    (raise k s).entries = s.entries ∧
    (raise k s).channels = s.channels ∧
    (raise k s).chain = s.chain ∧
    (raise k s).free = s.free ∧
    (raise k s).pending = s.pending := by
  simp [raise]

@[simp] theorem raiseIf_frame (b : Bool) (k : Notice) :
    (raiseIf b k s).load = s.load ∧
    (raiseIf b k s).config = s.config ∧
    (raiseIf b k s).enable = s.enable ∧
    (raiseIf b k s).store = s.store ∧
    (raiseIf b k s).busy = s.busy ∧
    (raiseIf b k s).scanSlot = s.scanSlot ∧
    (raiseIf b k s).lines = s.lines ∧
    (raiseIf b k s).pgroups = s.pgroups ∧
    (raiseIf b k s).regime = s.regime ∧
    (raiseIf b k s).floors = s.floors ∧
    (raiseIf b k s).lgroups = s.lgroups ∧
    (raiseIf b k s).cars = s.cars ∧
    (raiseIf b k s).doors = s.doors ∧
    (raiseIf b k s).dgroups = s.dgroups ∧
    (raiseIf b k s).resecure = s.resecure ∧
    (raiseIf b k s).stagger = s.stagger ∧
    (raiseIf b k s).entries = s.entries ∧
    (raiseIf b k s).channels = s.channels ∧
    (raiseIf b k s).chain = s.chain ∧
    (raiseIf b k s).free = s.free ∧
    (raiseIf b k s).pending = s.pending := by
  unfold raiseIf; (repeat' (first | split | (dsimp only; split))) <;> simp

@[simp] theorem setResult_frame (p : Fin 4) (r : Result) :
    (setResult p r s).load = s.load ∧
    (setResult p r s).config = s.config ∧
    (setResult p r s).enable = s.enable ∧
    (setResult p r s).store = s.store ∧
    (setResult p r s).busy = s.busy ∧
    (setResult p r s).scanSlot = s.scanSlot ∧
    (setResult p r s).lines = s.lines ∧
    (setResult p r s).pgroups = s.pgroups ∧
    (setResult p r s).regime = s.regime ∧
    (setResult p r s).floors = s.floors ∧
    (setResult p r s).lgroups = s.lgroups ∧
    (setResult p r s).cars = s.cars ∧
    (setResult p r s).doors = s.doors ∧
    (setResult p r s).dgroups = s.dgroups ∧
    (setResult p r s).resecure = s.resecure ∧
    (setResult p r s).stagger = s.stagger ∧
    (setResult p r s).entries = s.entries ∧
    (setResult p r s).channels = s.channels ∧
    (setResult p r s).chain = s.chain ∧
    (setResult p r s).free = s.free ∧
    (setResult p r s).pending = s.pending := by
  simp [setResult]

@[simp] theorem setTrouble_frame (x : TroubleSummary) :
    (setTrouble x s).load = s.load ∧
    (setTrouble x s).config = s.config ∧
    (setTrouble x s).enable = s.enable ∧
    (setTrouble x s).store = s.store ∧
    (setTrouble x s).busy = s.busy ∧
    (setTrouble x s).scanSlot = s.scanSlot ∧
    (setTrouble x s).lines = s.lines ∧
    (setTrouble x s).pgroups = s.pgroups ∧
    (setTrouble x s).floors = s.floors ∧
    (setTrouble x s).lgroups = s.lgroups ∧
    (setTrouble x s).cars = s.cars ∧
    (setTrouble x s).doors = s.doors ∧
    (setTrouble x s).dgroups = s.dgroups ∧
    (setTrouble x s).resecure = s.resecure ∧
    (setTrouble x s).stagger = s.stagger ∧
    (setTrouble x s).entries = s.entries ∧
    (setTrouble x s).channels = s.channels ∧
    (setTrouble x s).chain = s.chain ∧
    (setTrouble x s).ports = s.ports ∧
    (setTrouble x s).free = s.free ∧
    (setTrouble x s).pending = s.pending := by
  simp [setTrouble]

@[simp] theorem doorsFlag_frame (s0 : State) :
    (doorsFlag s0 s).load = s.load ∧
    (doorsFlag s0 s).config = s.config ∧
    (doorsFlag s0 s).enable = s.enable ∧
    (doorsFlag s0 s).store = s.store ∧
    (doorsFlag s0 s).busy = s.busy ∧
    (doorsFlag s0 s).scanSlot = s.scanSlot ∧
    (doorsFlag s0 s).lines = s.lines ∧
    (doorsFlag s0 s).pgroups = s.pgroups ∧
    (doorsFlag s0 s).floors = s.floors ∧
    (doorsFlag s0 s).lgroups = s.lgroups ∧
    (doorsFlag s0 s).cars = s.cars ∧
    (doorsFlag s0 s).doors = s.doors ∧
    (doorsFlag s0 s).dgroups = s.dgroups ∧
    (doorsFlag s0 s).resecure = s.resecure ∧
    (doorsFlag s0 s).stagger = s.stagger ∧
    (doorsFlag s0 s).entries = s.entries ∧
    (doorsFlag s0 s).channels = s.channels ∧
    (doorsFlag s0 s).chain = s.chain ∧
    (doorsFlag s0 s).ports = s.ports ∧
    (doorsFlag s0 s).free = s.free ∧
    (doorsFlag s0 s).pending = s.pending := by
  simp [doorsFlag]

@[simp] theorem liftsFlag_frame (s0 : State) :
    (liftsFlag s0 s).load = s.load ∧
    (liftsFlag s0 s).config = s.config ∧
    (liftsFlag s0 s).enable = s.enable ∧
    (liftsFlag s0 s).store = s.store ∧
    (liftsFlag s0 s).busy = s.busy ∧
    (liftsFlag s0 s).scanSlot = s.scanSlot ∧
    (liftsFlag s0 s).lines = s.lines ∧
    (liftsFlag s0 s).pgroups = s.pgroups ∧
    (liftsFlag s0 s).floors = s.floors ∧
    (liftsFlag s0 s).lgroups = s.lgroups ∧
    (liftsFlag s0 s).cars = s.cars ∧
    (liftsFlag s0 s).doors = s.doors ∧
    (liftsFlag s0 s).dgroups = s.dgroups ∧
    (liftsFlag s0 s).resecure = s.resecure ∧
    (liftsFlag s0 s).stagger = s.stagger ∧
    (liftsFlag s0 s).entries = s.entries ∧
    (liftsFlag s0 s).channels = s.channels ∧
    (liftsFlag s0 s).chain = s.chain ∧
    (liftsFlag s0 s).ports = s.ports ∧
    (liftsFlag s0 s).free = s.free ∧
    (liftsFlag s0 s).pending = s.pending := by
  simp [liftsFlag]

@[simp] theorem voiceFlag_frame (s0 : State) :
    (voiceFlag s0 s).load = s.load ∧
    (voiceFlag s0 s).config = s.config ∧
    (voiceFlag s0 s).enable = s.enable ∧
    (voiceFlag s0 s).store = s.store ∧
    (voiceFlag s0 s).busy = s.busy ∧
    (voiceFlag s0 s).scanSlot = s.scanSlot ∧
    (voiceFlag s0 s).lines = s.lines ∧
    (voiceFlag s0 s).pgroups = s.pgroups ∧
    (voiceFlag s0 s).floors = s.floors ∧
    (voiceFlag s0 s).lgroups = s.lgroups ∧
    (voiceFlag s0 s).cars = s.cars ∧
    (voiceFlag s0 s).doors = s.doors ∧
    (voiceFlag s0 s).dgroups = s.dgroups ∧
    (voiceFlag s0 s).resecure = s.resecure ∧
    (voiceFlag s0 s).stagger = s.stagger ∧
    (voiceFlag s0 s).entries = s.entries ∧
    (voiceFlag s0 s).channels = s.channels ∧
    (voiceFlag s0 s).chain = s.chain ∧
    (voiceFlag s0 s).ports = s.ports ∧
    (voiceFlag s0 s).free = s.free ∧
    (voiceFlag s0 s).pending = s.pending := by
  simp [voiceFlag]

@[simp] theorem storeFlag_frame (s0 : State) :
    (storeFlag s0 s).load = s.load ∧
    (storeFlag s0 s).config = s.config ∧
    (storeFlag s0 s).enable = s.enable ∧
    (storeFlag s0 s).store = s.store ∧
    (storeFlag s0 s).busy = s.busy ∧
    (storeFlag s0 s).scanSlot = s.scanSlot ∧
    (storeFlag s0 s).lines = s.lines ∧
    (storeFlag s0 s).pgroups = s.pgroups ∧
    (storeFlag s0 s).floors = s.floors ∧
    (storeFlag s0 s).lgroups = s.lgroups ∧
    (storeFlag s0 s).cars = s.cars ∧
    (storeFlag s0 s).doors = s.doors ∧
    (storeFlag s0 s).dgroups = s.dgroups ∧
    (storeFlag s0 s).resecure = s.resecure ∧
    (storeFlag s0 s).stagger = s.stagger ∧
    (storeFlag s0 s).entries = s.entries ∧
    (storeFlag s0 s).channels = s.channels ∧
    (storeFlag s0 s).chain = s.chain ∧
    (storeFlag s0 s).ports = s.ports ∧
    (storeFlag s0 s).free = s.free ∧
    (storeFlag s0 s).pending = s.pending := by
  simp [storeFlag]

@[simp] theorem removeEntry_frame (sl : Fin 16) :
    (removeEntry sl s).load = s.load ∧
    (removeEntry sl s).config = s.config ∧
    (removeEntry sl s).enable = s.enable ∧
    (removeEntry sl s).store = s.store ∧
    (removeEntry sl s).busy = s.busy ∧
    (removeEntry sl s).scanSlot = s.scanSlot ∧
    (removeEntry sl s).lines = s.lines ∧
    (removeEntry sl s).pgroups = s.pgroups ∧
    (removeEntry sl s).regime = s.regime ∧
    (removeEntry sl s).floors = s.floors ∧
    (removeEntry sl s).lgroups = s.lgroups ∧
    (removeEntry sl s).cars = s.cars ∧
    (removeEntry sl s).doors = s.doors ∧
    (removeEntry sl s).dgroups = s.dgroups ∧
    (removeEntry sl s).resecure = s.resecure ∧
    (removeEntry sl s).stagger = s.stagger ∧
    (removeEntry sl s).chain = s.chain ∧
    (removeEntry sl s).ports = s.ports ∧
    (removeEntry sl s).free = s.free ∧
    (removeEntry sl s).pending = s.pending := by
  unfold removeEntry; (repeat' (first | split | (dsimp only; split))) <;> simp

@[simp] theorem createEntry_frame (sl : Fin 16) (k : AnnClass) (m : Byte) (fs : FloorSet) (r : Nat) (o : Option (Fin 4)) :
    (createEntry sl k m fs r o s).load = s.load ∧
    (createEntry sl k m fs r o s).config = s.config ∧
    (createEntry sl k m fs r o s).enable = s.enable ∧
    (createEntry sl k m fs r o s).store = s.store ∧
    (createEntry sl k m fs r o s).busy = s.busy ∧
    (createEntry sl k m fs r o s).scanSlot = s.scanSlot ∧
    (createEntry sl k m fs r o s).lines = s.lines ∧
    (createEntry sl k m fs r o s).pgroups = s.pgroups ∧
    (createEntry sl k m fs r o s).regime = s.regime ∧
    (createEntry sl k m fs r o s).floors = s.floors ∧
    (createEntry sl k m fs r o s).lgroups = s.lgroups ∧
    (createEntry sl k m fs r o s).cars = s.cars ∧
    (createEntry sl k m fs r o s).doors = s.doors ∧
    (createEntry sl k m fs r o s).dgroups = s.dgroups ∧
    (createEntry sl k m fs r o s).resecure = s.resecure ∧
    (createEntry sl k m fs r o s).stagger = s.stagger ∧
    (createEntry sl k m fs r o s).channels = s.channels ∧
    (createEntry sl k m fs r o s).chain = s.chain ∧
    (createEntry sl k m fs r o s).ports = s.ports ∧
    (createEntry sl k m fs r o s).free = s.free ∧
    (createEntry sl k m fs r o s).pending = s.pending := by
  simp [createEntry]

@[simp] theorem setFloors_frame (sl : Fin 16) (fs : FloorSet) :
    (setFloors sl fs s).load = s.load ∧
    (setFloors sl fs s).config = s.config ∧
    (setFloors sl fs s).enable = s.enable ∧
    (setFloors sl fs s).store = s.store ∧
    (setFloors sl fs s).busy = s.busy ∧
    (setFloors sl fs s).scanSlot = s.scanSlot ∧
    (setFloors sl fs s).lines = s.lines ∧
    (setFloors sl fs s).pgroups = s.pgroups ∧
    (setFloors sl fs s).regime = s.regime ∧
    (setFloors sl fs s).floors = s.floors ∧
    (setFloors sl fs s).lgroups = s.lgroups ∧
    (setFloors sl fs s).cars = s.cars ∧
    (setFloors sl fs s).doors = s.doors ∧
    (setFloors sl fs s).dgroups = s.dgroups ∧
    (setFloors sl fs s).resecure = s.resecure ∧
    (setFloors sl fs s).stagger = s.stagger ∧
    (setFloors sl fs s).channels = s.channels ∧
    (setFloors sl fs s).chain = s.chain ∧
    (setFloors sl fs s).ports = s.ports ∧
    (setFloors sl fs s).free = s.free ∧
    (setFloors sl fs s).pending = s.pending := by
  unfold setFloors; (repeat' (first | split | (dsimp only; split))) <;> simp

@[simp] theorem regimeEntry_frame (sl : Fin 16) (k : AnnClass) (m : Byte) (fs : FloorSet) :
    (regimeEntry sl k m fs s).load = s.load ∧
    (regimeEntry sl k m fs s).config = s.config ∧
    (regimeEntry sl k m fs s).enable = s.enable ∧
    (regimeEntry sl k m fs s).store = s.store ∧
    (regimeEntry sl k m fs s).busy = s.busy ∧
    (regimeEntry sl k m fs s).scanSlot = s.scanSlot ∧
    (regimeEntry sl k m fs s).lines = s.lines ∧
    (regimeEntry sl k m fs s).pgroups = s.pgroups ∧
    (regimeEntry sl k m fs s).regime = s.regime ∧
    (regimeEntry sl k m fs s).floors = s.floors ∧
    (regimeEntry sl k m fs s).lgroups = s.lgroups ∧
    (regimeEntry sl k m fs s).cars = s.cars ∧
    (regimeEntry sl k m fs s).doors = s.doors ∧
    (regimeEntry sl k m fs s).dgroups = s.dgroups ∧
    (regimeEntry sl k m fs s).resecure = s.resecure ∧
    (regimeEntry sl k m fs s).stagger = s.stagger ∧
    (regimeEntry sl k m fs s).chain = s.chain ∧
    (regimeEntry sl k m fs s).ports = s.ports ∧
    (regimeEntry sl k m fs s).free = s.free ∧
    (regimeEntry sl k m fs s).pending = s.pending := by
  unfold regimeEntry; (repeat' (first | split | (dsimp only; split))) <;> simp

@[simp] theorem regimeEntries_frame  :
    (regimeEntries s).load = s.load ∧
    (regimeEntries s).config = s.config ∧
    (regimeEntries s).enable = s.enable ∧
    (regimeEntries s).store = s.store ∧
    (regimeEntries s).busy = s.busy ∧
    (regimeEntries s).scanSlot = s.scanSlot ∧
    (regimeEntries s).lines = s.lines ∧
    (regimeEntries s).pgroups = s.pgroups ∧
    (regimeEntries s).regime = s.regime ∧
    (regimeEntries s).floors = s.floors ∧
    (regimeEntries s).lgroups = s.lgroups ∧
    (regimeEntries s).cars = s.cars ∧
    (regimeEntries s).doors = s.doors ∧
    (regimeEntries s).dgroups = s.dgroups ∧
    (regimeEntries s).resecure = s.resecure ∧
    (regimeEntries s).stagger = s.stagger ∧
    (regimeEntries s).chain = s.chain ∧
    (regimeEntries s).ports = s.ports ∧
    (regimeEntries s).free = s.free ∧
    (regimeEntries s).pending = s.pending := by
  unfold regimeEntries; (repeat' (first | split | (dsimp only; split))) <;> simp

@[simp] theorem stripSlot_frame (sl : Fin 16) :
    (stripSlot s sl).load = s.load ∧
    (stripSlot s sl).config = s.config ∧
    (stripSlot s sl).enable = s.enable ∧
    (stripSlot s sl).store = s.store ∧
    (stripSlot s sl).busy = s.busy ∧
    (stripSlot s sl).scanSlot = s.scanSlot ∧
    (stripSlot s sl).lines = s.lines ∧
    (stripSlot s sl).pgroups = s.pgroups ∧
    (stripSlot s sl).regime = s.regime ∧
    (stripSlot s sl).floors = s.floors ∧
    (stripSlot s sl).lgroups = s.lgroups ∧
    (stripSlot s sl).cars = s.cars ∧
    (stripSlot s sl).doors = s.doors ∧
    (stripSlot s sl).dgroups = s.dgroups ∧
    (stripSlot s sl).resecure = s.resecure ∧
    (stripSlot s sl).stagger = s.stagger ∧
    (stripSlot s sl).chain = s.chain ∧
    (stripSlot s sl).ports = s.ports ∧
    (stripSlot s sl).free = s.free ∧
    (stripSlot s sl).pending = s.pending := by
  unfold stripSlot; (repeat' (first | split | (dsimp only; split))) <;> simp

@[simp] theorem stripTenants_frame  :
    (stripTenants s).load = s.load ∧
    (stripTenants s).config = s.config ∧
    (stripTenants s).enable = s.enable ∧
    (stripTenants s).store = s.store ∧
    (stripTenants s).busy = s.busy ∧
    (stripTenants s).scanSlot = s.scanSlot ∧
    (stripTenants s).lines = s.lines ∧
    (stripTenants s).pgroups = s.pgroups ∧
    (stripTenants s).regime = s.regime ∧
    (stripTenants s).floors = s.floors ∧
    (stripTenants s).lgroups = s.lgroups ∧
    (stripTenants s).cars = s.cars ∧
    (stripTenants s).doors = s.doors ∧
    (stripTenants s).dgroups = s.dgroups ∧
    (stripTenants s).resecure = s.resecure ∧
    (stripTenants s).stagger = s.stagger ∧
    (stripTenants s).chain = s.chain ∧
    (stripTenants s).ports = s.ports ∧
    (stripTenants s).free = s.free ∧
    (stripTenants s).pending = s.pending := by
  exact ⟨foldl_keeps (fun t => t.load) stripSlot (by simp) _ _,
    foldl_keeps (fun t => t.config) stripSlot (by simp) _ _,
    foldl_keeps (fun t => t.enable) stripSlot (by simp) _ _,
    foldl_keeps (fun t => t.store) stripSlot (by simp) _ _,
    foldl_keeps (fun t => t.busy) stripSlot (by simp) _ _,
    foldl_keeps (fun t => t.scanSlot) stripSlot (by simp) _ _,
    foldl_keeps (fun t => t.lines) stripSlot (by simp) _ _,
    foldl_keeps (fun t => t.pgroups) stripSlot (by simp) _ _,
    foldl_keeps (fun t => t.regime) stripSlot (by simp) _ _,
    foldl_keeps (fun t => t.floors) stripSlot (by simp) _ _,
    foldl_keeps (fun t => t.lgroups) stripSlot (by simp) _ _,
    foldl_keeps (fun t => t.cars) stripSlot (by simp) _ _,
    foldl_keeps (fun t => t.doors) stripSlot (by simp) _ _,
    foldl_keeps (fun t => t.dgroups) stripSlot (by simp) _ _,
    foldl_keeps (fun t => t.resecure) stripSlot (by simp) _ _,
    foldl_keeps (fun t => t.stagger) stripSlot (by simp) _ _,
    foldl_keeps (fun t => t.chain) stripSlot (by simp) _ _,
    foldl_keeps (fun t => t.ports) stripSlot (by simp) _ _,
    foldl_keeps (fun t => t.free) stripSlot (by simp) _ _,
    foldl_keeps (fun t => t.pending) stripSlot (by simp) _ _⟩

@[simp] theorem playOn_frame (c : Fin 4) (sl : Fin 16) (e : Entry) :
    (playOn c sl e s).load = s.load ∧
    (playOn c sl e s).config = s.config ∧
    (playOn c sl e s).enable = s.enable ∧
    (playOn c sl e s).store = s.store ∧
    (playOn c sl e s).busy = s.busy ∧
    (playOn c sl e s).scanSlot = s.scanSlot ∧
    (playOn c sl e s).lines = s.lines ∧
    (playOn c sl e s).pgroups = s.pgroups ∧
    (playOn c sl e s).regime = s.regime ∧
    (playOn c sl e s).floors = s.floors ∧
    (playOn c sl e s).lgroups = s.lgroups ∧
    (playOn c sl e s).cars = s.cars ∧
    (playOn c sl e s).doors = s.doors ∧
    (playOn c sl e s).dgroups = s.dgroups ∧
    (playOn c sl e s).resecure = s.resecure ∧
    (playOn c sl e s).stagger = s.stagger ∧
    (playOn c sl e s).chain = s.chain ∧
    (playOn c sl e s).ports = s.ports ∧
    (playOn c sl e s).free = s.free ∧
    (playOn c sl e s).pending = s.pending := by
  simp [playOn]

@[simp] theorem fillIdle_frame (n : Nat) :
    (fillIdle n s).load = s.load ∧
    (fillIdle n s).config = s.config ∧
    (fillIdle n s).enable = s.enable ∧
    (fillIdle n s).store = s.store ∧
    (fillIdle n s).busy = s.busy ∧
    (fillIdle n s).scanSlot = s.scanSlot ∧
    (fillIdle n s).lines = s.lines ∧
    (fillIdle n s).pgroups = s.pgroups ∧
    (fillIdle n s).regime = s.regime ∧
    (fillIdle n s).floors = s.floors ∧
    (fillIdle n s).lgroups = s.lgroups ∧
    (fillIdle n s).cars = s.cars ∧
    (fillIdle n s).doors = s.doors ∧
    (fillIdle n s).dgroups = s.dgroups ∧
    (fillIdle n s).resecure = s.resecure ∧
    (fillIdle n s).stagger = s.stagger ∧
    (fillIdle n s).chain = s.chain ∧
    (fillIdle n s).ports = s.ports ∧
    (fillIdle n s).free = s.free ∧
    (fillIdle n s).pending = s.pending := by
  induction n generalizing s with
  | zero => simp [fillIdle]
  | succ n ih => unfold fillIdle; split <;> simp [ih]

@[simp] theorem preempt_frame (n : Nat) :
    (preempt n s).load = s.load ∧
    (preempt n s).config = s.config ∧
    (preempt n s).enable = s.enable ∧
    (preempt n s).store = s.store ∧
    (preempt n s).busy = s.busy ∧
    (preempt n s).scanSlot = s.scanSlot ∧
    (preempt n s).lines = s.lines ∧
    (preempt n s).pgroups = s.pgroups ∧
    (preempt n s).regime = s.regime ∧
    (preempt n s).floors = s.floors ∧
    (preempt n s).lgroups = s.lgroups ∧
    (preempt n s).cars = s.cars ∧
    (preempt n s).doors = s.doors ∧
    (preempt n s).dgroups = s.dgroups ∧
    (preempt n s).resecure = s.resecure ∧
    (preempt n s).stagger = s.stagger ∧
    (preempt n s).chain = s.chain ∧
    (preempt n s).ports = s.ports ∧
    (preempt n s).free = s.free ∧
    (preempt n s).pending = s.pending := by
  induction n generalizing s with
  | zero => simp [preempt]
  | succ n ih => unfold preempt; split; split; all_goals simp [ih]

@[simp] theorem assign_frame  :
    (assign s).load = s.load ∧
    (assign s).config = s.config ∧
    (assign s).enable = s.enable ∧
    (assign s).store = s.store ∧
    (assign s).busy = s.busy ∧
    (assign s).scanSlot = s.scanSlot ∧
    (assign s).lines = s.lines ∧
    (assign s).pgroups = s.pgroups ∧
    (assign s).regime = s.regime ∧
    (assign s).floors = s.floors ∧
    (assign s).lgroups = s.lgroups ∧
    (assign s).cars = s.cars ∧
    (assign s).doors = s.doors ∧
    (assign s).dgroups = s.dgroups ∧
    (assign s).resecure = s.resecure ∧
    (assign s).stagger = s.stagger ∧
    (assign s).chain = s.chain ∧
    (assign s).ports = s.ports ∧
    (assign s).free = s.free ∧
    (assign s).pending = s.pending := by
  simp [assign]

@[simp] theorem beginShift_frame  :
    (beginShift s).load = s.load ∧
    (beginShift s).config = s.config ∧
    (beginShift s).enable = s.enable ∧
    (beginShift s).store = s.store ∧
    (beginShift s).busy = s.busy ∧
    (beginShift s).scanSlot = s.scanSlot ∧
    (beginShift s).lines = s.lines ∧
    (beginShift s).pgroups = s.pgroups ∧
    (beginShift s).regime = s.regime ∧
    (beginShift s).floors = s.floors ∧
    (beginShift s).lgroups = s.lgroups ∧
    (beginShift s).cars = s.cars ∧
    (beginShift s).doors = s.doors ∧
    (beginShift s).dgroups = s.dgroups ∧
    (beginShift s).resecure = s.resecure ∧
    (beginShift s).stagger = s.stagger ∧
    (beginShift s).entries = s.entries ∧
    (beginShift s).channels = s.channels ∧
    (beginShift s).ports = s.ports ∧
    (beginShift s).free = s.free ∧
    (beginShift s).pending = s.pending := by
  unfold beginShift; (repeat' (first | split | (dsimp only; split))) <;> simp

@[simp] theorem deriveRouting_frame  :
    (deriveRouting s).load = s.load ∧
    (deriveRouting s).config = s.config ∧
    (deriveRouting s).enable = s.enable ∧
    (deriveRouting s).store = s.store ∧
    (deriveRouting s).busy = s.busy ∧
    (deriveRouting s).scanSlot = s.scanSlot ∧
    (deriveRouting s).lines = s.lines ∧
    (deriveRouting s).pgroups = s.pgroups ∧
    (deriveRouting s).regime = s.regime ∧
    (deriveRouting s).lgroups = s.lgroups ∧
    (deriveRouting s).cars = s.cars ∧
    (deriveRouting s).doors = s.doors ∧
    (deriveRouting s).dgroups = s.dgroups ∧
    (deriveRouting s).resecure = s.resecure ∧
    (deriveRouting s).stagger = s.stagger ∧
    (deriveRouting s).entries = s.entries ∧
    (deriveRouting s).channels = s.channels ∧
    (deriveRouting s).chain = s.chain ∧
    (deriveRouting s).ports = s.ports ∧
    (deriveRouting s).free = s.free ∧
    (deriveRouting s).pending = s.pending := by
  simp [deriveRouting]

@[simp] theorem route_frame  :
    (route s).load = s.load ∧
    (route s).config = s.config ∧
    (route s).enable = s.enable ∧
    (route s).store = s.store ∧
    (route s).busy = s.busy ∧
    (route s).scanSlot = s.scanSlot ∧
    (route s).lines = s.lines ∧
    (route s).pgroups = s.pgroups ∧
    (route s).regime = s.regime ∧
    (route s).lgroups = s.lgroups ∧
    (route s).cars = s.cars ∧
    (route s).doors = s.doors ∧
    (route s).dgroups = s.dgroups ∧
    (route s).resecure = s.resecure ∧
    (route s).stagger = s.stagger ∧
    (route s).entries = s.entries ∧
    (route s).channels = s.channels ∧
    (route s).ports = s.ports ∧
    (route s).free = s.free ∧
    (route s).pending = s.pending := by
  unfold route; (repeat' (first | split | (dsimp only; split))) <;> simp

@[simp] theorem routerNotices_frame (s0 : State) :
    (routerNotices s0 s).load = s.load ∧
    (routerNotices s0 s).config = s.config ∧
    (routerNotices s0 s).enable = s.enable ∧
    (routerNotices s0 s).store = s.store ∧
    (routerNotices s0 s).busy = s.busy ∧
    (routerNotices s0 s).scanSlot = s.scanSlot ∧
    (routerNotices s0 s).lines = s.lines ∧
    (routerNotices s0 s).pgroups = s.pgroups ∧
    (routerNotices s0 s).floors = s.floors ∧
    (routerNotices s0 s).lgroups = s.lgroups ∧
    (routerNotices s0 s).cars = s.cars ∧
    (routerNotices s0 s).doors = s.doors ∧
    (routerNotices s0 s).dgroups = s.dgroups ∧
    (routerNotices s0 s).resecure = s.resecure ∧
    (routerNotices s0 s).stagger = s.stagger ∧
    (routerNotices s0 s).entries = s.entries ∧
    (routerNotices s0 s).channels = s.channels ∧
    (routerNotices s0 s).chain = s.chain ∧
    (routerNotices s0 s).free = s.free ∧
    (routerNotices s0 s).pending = s.pending := by
  simp [routerNotices]

@[simp] theorem routerFinish_frame (s0 : State) :
    (routerFinish s0 s).load = s.load ∧
    (routerFinish s0 s).config = s.config ∧
    (routerFinish s0 s).enable = s.enable ∧
    (routerFinish s0 s).store = s.store ∧
    (routerFinish s0 s).busy = s.busy ∧
    (routerFinish s0 s).scanSlot = s.scanSlot ∧
    (routerFinish s0 s).lines = s.lines ∧
    (routerFinish s0 s).pgroups = s.pgroups ∧
    (routerFinish s0 s).lgroups = s.lgroups ∧
    (routerFinish s0 s).cars = s.cars ∧
    (routerFinish s0 s).doors = s.doors ∧
    (routerFinish s0 s).dgroups = s.dgroups ∧
    (routerFinish s0 s).resecure = s.resecure ∧
    (routerFinish s0 s).stagger = s.stagger ∧
    (routerFinish s0 s).free = s.free ∧
    (routerFinish s0 s).pending = s.pending := by
  simp [routerFinish]

@[simp] theorem routerSettle_frame (s0 : State) :
    (routerSettle s0 s).load = s.load ∧
    (routerSettle s0 s).config = s.config ∧
    (routerSettle s0 s).enable = s.enable ∧
    (routerSettle s0 s).store = s.store ∧
    (routerSettle s0 s).busy = s.busy ∧
    (routerSettle s0 s).scanSlot = s.scanSlot ∧
    (routerSettle s0 s).lines = s.lines ∧
    (routerSettle s0 s).pgroups = s.pgroups ∧
    (routerSettle s0 s).lgroups = s.lgroups ∧
    (routerSettle s0 s).cars = s.cars ∧
    (routerSettle s0 s).doors = s.doors ∧
    (routerSettle s0 s).dgroups = s.dgroups ∧
    (routerSettle s0 s).resecure = s.resecure ∧
    (routerSettle s0 s).stagger = s.stagger ∧
    (routerSettle s0 s).free = s.free ∧
    (routerSettle s0 s).pending = s.pending := by
  simp [routerSettle]

@[simp] theorem judgeGroups_frame  :
    (judgeGroups s).load = s.load ∧
    (judgeGroups s).config = s.config ∧
    (judgeGroups s).enable = s.enable ∧
    (judgeGroups s).store = s.store ∧
    (judgeGroups s).busy = s.busy ∧
    (judgeGroups s).scanSlot = s.scanSlot ∧
    (judgeGroups s).lines = s.lines ∧
    (judgeGroups s).pgroups = s.pgroups ∧
    (judgeGroups s).regime = s.regime ∧
    (judgeGroups s).floors = s.floors ∧
    (judgeGroups s).cars = s.cars ∧
    (judgeGroups s).doors = s.doors ∧
    (judgeGroups s).dgroups = s.dgroups ∧
    (judgeGroups s).resecure = s.resecure ∧
    (judgeGroups s).stagger = s.stagger ∧
    (judgeGroups s).entries = s.entries ∧
    (judgeGroups s).channels = s.channels ∧
    (judgeGroups s).chain = s.chain ∧
    (judgeGroups s).ports = s.ports ∧
    (judgeGroups s).free = s.free ∧
    (judgeGroups s).pending = s.pending := by
  simp [judgeGroups]

@[simp] theorem settleCars_frame (old : Vector LGroup 3) :
    (settleCars old s).load = s.load ∧
    (settleCars old s).config = s.config ∧
    (settleCars old s).enable = s.enable ∧
    (settleCars old s).store = s.store ∧
    (settleCars old s).busy = s.busy ∧
    (settleCars old s).scanSlot = s.scanSlot ∧
    (settleCars old s).lines = s.lines ∧
    (settleCars old s).pgroups = s.pgroups ∧
    (settleCars old s).regime = s.regime ∧
    (settleCars old s).floors = s.floors ∧
    (settleCars old s).lgroups = s.lgroups ∧
    (settleCars old s).doors = s.doors ∧
    (settleCars old s).dgroups = s.dgroups ∧
    (settleCars old s).resecure = s.resecure ∧
    (settleCars old s).stagger = s.stagger ∧
    (settleCars old s).entries = s.entries ∧
    (settleCars old s).channels = s.channels ∧
    (settleCars old s).chain = s.chain ∧
    (settleCars old s).ports = s.ports ∧
    (settleCars old s).free = s.free ∧
    (settleCars old s).pending = s.pending := by
  simp [settleCars]

@[simp] theorem liftNotices_frame (s0 : State) :
    (liftNotices s0 s).load = s.load ∧
    (liftNotices s0 s).config = s.config ∧
    (liftNotices s0 s).enable = s.enable ∧
    (liftNotices s0 s).store = s.store ∧
    (liftNotices s0 s).busy = s.busy ∧
    (liftNotices s0 s).scanSlot = s.scanSlot ∧
    (liftNotices s0 s).lines = s.lines ∧
    (liftNotices s0 s).pgroups = s.pgroups ∧
    (liftNotices s0 s).floors = s.floors ∧
    (liftNotices s0 s).lgroups = s.lgroups ∧
    (liftNotices s0 s).cars = s.cars ∧
    (liftNotices s0 s).doors = s.doors ∧
    (liftNotices s0 s).dgroups = s.dgroups ∧
    (liftNotices s0 s).resecure = s.resecure ∧
    (liftNotices s0 s).stagger = s.stagger ∧
    (liftNotices s0 s).entries = s.entries ∧
    (liftNotices s0 s).channels = s.channels ∧
    (liftNotices s0 s).chain = s.chain ∧
    (liftNotices s0 s).free = s.free ∧
    (liftNotices s0 s).pending = s.pending := by
  simp [liftNotices]

@[simp] theorem liftSettle_frame (s0 : State) :
    (liftSettle s0 s).load = s.load ∧
    (liftSettle s0 s).config = s.config ∧
    (liftSettle s0 s).enable = s.enable ∧
    (liftSettle s0 s).store = s.store ∧
    (liftSettle s0 s).busy = s.busy ∧
    (liftSettle s0 s).scanSlot = s.scanSlot ∧
    (liftSettle s0 s).lines = s.lines ∧
    (liftSettle s0 s).pgroups = s.pgroups ∧
    (liftSettle s0 s).floors = s.floors ∧
    (liftSettle s0 s).doors = s.doors ∧
    (liftSettle s0 s).dgroups = s.dgroups ∧
    (liftSettle s0 s).resecure = s.resecure ∧
    (liftSettle s0 s).stagger = s.stagger ∧
    (liftSettle s0 s).entries = s.entries ∧
    (liftSettle s0 s).channels = s.channels ∧
    (liftSettle s0 s).chain = s.chain ∧
    (liftSettle s0 s).free = s.free ∧
    (liftSettle s0 s).pending = s.pending := by
  simp [liftSettle]

@[simp] theorem releaseGroup_frame (g : Fin 16) :
    (releaseGroup g s).load = s.load ∧
    (releaseGroup g s).config = s.config ∧
    (releaseGroup g s).enable = s.enable ∧
    (releaseGroup g s).store = s.store ∧
    (releaseGroup g s).busy = s.busy ∧
    (releaseGroup g s).scanSlot = s.scanSlot ∧
    (releaseGroup g s).lines = s.lines ∧
    (releaseGroup g s).pgroups = s.pgroups ∧
    (releaseGroup g s).regime = s.regime ∧
    (releaseGroup g s).floors = s.floors ∧
    (releaseGroup g s).lgroups = s.lgroups ∧
    (releaseGroup g s).cars = s.cars ∧
    (releaseGroup g s).stagger = s.stagger ∧
    (releaseGroup g s).entries = s.entries ∧
    (releaseGroup g s).channels = s.channels ∧
    (releaseGroup g s).chain = s.chain ∧
    (releaseGroup g s).ports = s.ports ∧
    (releaseGroup g s).free = s.free ∧
    (releaseGroup g s).pending = s.pending := by
  simp [releaseGroup]

@[simp] theorem joinQueue_frame (g : Fin 16) :
    (joinQueue g s).load = s.load ∧
    (joinQueue g s).config = s.config ∧
    (joinQueue g s).enable = s.enable ∧
    (joinQueue g s).store = s.store ∧
    (joinQueue g s).busy = s.busy ∧
    (joinQueue g s).scanSlot = s.scanSlot ∧
    (joinQueue g s).lines = s.lines ∧
    (joinQueue g s).pgroups = s.pgroups ∧
    (joinQueue g s).regime = s.regime ∧
    (joinQueue g s).floors = s.floors ∧
    (joinQueue g s).lgroups = s.lgroups ∧
    (joinQueue g s).cars = s.cars ∧
    (joinQueue g s).doors = s.doors ∧
    (joinQueue g s).entries = s.entries ∧
    (joinQueue g s).channels = s.channels ∧
    (joinQueue g s).chain = s.chain ∧
    (joinQueue g s).ports = s.ports ∧
    (joinQueue g s).free = s.free ∧
    (joinQueue g s).pending = s.pending := by
  simp [joinQueue]

@[simp] theorem judgeDemand_frame (g : Fin 16) :
    (judgeDemand s g).load = s.load ∧
    (judgeDemand s g).config = s.config ∧
    (judgeDemand s g).enable = s.enable ∧
    (judgeDemand s g).store = s.store ∧
    (judgeDemand s g).busy = s.busy ∧
    (judgeDemand s g).scanSlot = s.scanSlot ∧
    (judgeDemand s g).lines = s.lines ∧
    (judgeDemand s g).pgroups = s.pgroups ∧
    (judgeDemand s g).regime = s.regime ∧
    (judgeDemand s g).floors = s.floors ∧
    (judgeDemand s g).lgroups = s.lgroups ∧
    (judgeDemand s g).cars = s.cars ∧
    (judgeDemand s g).entries = s.entries ∧
    (judgeDemand s g).channels = s.channels ∧
    (judgeDemand s g).chain = s.chain ∧
    (judgeDemand s g).ports = s.ports ∧
    (judgeDemand s g).free = s.free ∧
    (judgeDemand s g).pending = s.pending := by
  unfold judgeDemand; (repeat' split) <;> simp

@[simp] theorem judgeDemands_frame  :
    (judgeDemands s).load = s.load ∧
    (judgeDemands s).config = s.config ∧
    (judgeDemands s).enable = s.enable ∧
    (judgeDemands s).store = s.store ∧
    (judgeDemands s).busy = s.busy ∧
    (judgeDemands s).scanSlot = s.scanSlot ∧
    (judgeDemands s).lines = s.lines ∧
    (judgeDemands s).pgroups = s.pgroups ∧
    (judgeDemands s).regime = s.regime ∧
    (judgeDemands s).floors = s.floors ∧
    (judgeDemands s).lgroups = s.lgroups ∧
    (judgeDemands s).cars = s.cars ∧
    (judgeDemands s).entries = s.entries ∧
    (judgeDemands s).channels = s.channels ∧
    (judgeDemands s).chain = s.chain ∧
    (judgeDemands s).ports = s.ports ∧
    (judgeDemands s).free = s.free ∧
    (judgeDemands s).pending = s.pending := by
  exact ⟨foldl_keeps (fun t => t.load) judgeDemand (by simp) _ _,
    foldl_keeps (fun t => t.config) judgeDemand (by simp) _ _,
    foldl_keeps (fun t => t.enable) judgeDemand (by simp) _ _,
    foldl_keeps (fun t => t.store) judgeDemand (by simp) _ _,
    foldl_keeps (fun t => t.busy) judgeDemand (by simp) _ _,
    foldl_keeps (fun t => t.scanSlot) judgeDemand (by simp) _ _,
    foldl_keeps (fun t => t.lines) judgeDemand (by simp) _ _,
    foldl_keeps (fun t => t.pgroups) judgeDemand (by simp) _ _,
    foldl_keeps (fun t => t.regime) judgeDemand (by simp) _ _,
    foldl_keeps (fun t => t.floors) judgeDemand (by simp) _ _,
    foldl_keeps (fun t => t.lgroups) judgeDemand (by simp) _ _,
    foldl_keeps (fun t => t.cars) judgeDemand (by simp) _ _,
    foldl_keeps (fun t => t.entries) judgeDemand (by simp) _ _,
    foldl_keeps (fun t => t.channels) judgeDemand (by simp) _ _,
    foldl_keeps (fun t => t.chain) judgeDemand (by simp) _ _,
    foldl_keeps (fun t => t.ports) judgeDemand (by simp) _ _,
    foldl_keeps (fun t => t.free) judgeDemand (by simp) _ _,
    foldl_keeps (fun t => t.pending) judgeDemand (by simp) _ _⟩

@[simp] theorem doorNotices_frame (s0 : State) :
    (doorNotices s0 s).load = s.load ∧
    (doorNotices s0 s).config = s.config ∧
    (doorNotices s0 s).enable = s.enable ∧
    (doorNotices s0 s).store = s.store ∧
    (doorNotices s0 s).busy = s.busy ∧
    (doorNotices s0 s).scanSlot = s.scanSlot ∧
    (doorNotices s0 s).lines = s.lines ∧
    (doorNotices s0 s).pgroups = s.pgroups ∧
    (doorNotices s0 s).floors = s.floors ∧
    (doorNotices s0 s).lgroups = s.lgroups ∧
    (doorNotices s0 s).cars = s.cars ∧
    (doorNotices s0 s).doors = s.doors ∧
    (doorNotices s0 s).dgroups = s.dgroups ∧
    (doorNotices s0 s).resecure = s.resecure ∧
    (doorNotices s0 s).stagger = s.stagger ∧
    (doorNotices s0 s).entries = s.entries ∧
    (doorNotices s0 s).channels = s.channels ∧
    (doorNotices s0 s).chain = s.chain ∧
    (doorNotices s0 s).free = s.free ∧
    (doorNotices s0 s).pending = s.pending := by
  simp [doorNotices]

@[simp] theorem doorSettle_frame (s0 : State) :
    (doorSettle s0 s).load = s.load ∧
    (doorSettle s0 s).config = s.config ∧
    (doorSettle s0 s).enable = s.enable ∧
    (doorSettle s0 s).store = s.store ∧
    (doorSettle s0 s).busy = s.busy ∧
    (doorSettle s0 s).scanSlot = s.scanSlot ∧
    (doorSettle s0 s).lines = s.lines ∧
    (doorSettle s0 s).pgroups = s.pgroups ∧
    (doorSettle s0 s).floors = s.floors ∧
    (doorSettle s0 s).lgroups = s.lgroups ∧
    (doorSettle s0 s).cars = s.cars ∧
    (doorSettle s0 s).entries = s.entries ∧
    (doorSettle s0 s).channels = s.channels ∧
    (doorSettle s0 s).chain = s.chain ∧
    (doorSettle s0 s).free = s.free ∧
    (doorSettle s0 s).pending = s.pending := by
  simp [doorSettle]

@[simp] theorem revertForceSecure_frame  :
    (revertForceSecure s).load = s.load ∧
    (revertForceSecure s).config = s.config ∧
    (revertForceSecure s).enable = s.enable ∧
    (revertForceSecure s).store = s.store ∧
    (revertForceSecure s).busy = s.busy ∧
    (revertForceSecure s).scanSlot = s.scanSlot ∧
    (revertForceSecure s).lines = s.lines ∧
    (revertForceSecure s).pgroups = s.pgroups ∧
    (revertForceSecure s).regime = s.regime ∧
    (revertForceSecure s).floors = s.floors ∧
    (revertForceSecure s).lgroups = s.lgroups ∧
    (revertForceSecure s).cars = s.cars ∧
    (revertForceSecure s).doors = s.doors ∧
    (revertForceSecure s).resecure = s.resecure ∧
    (revertForceSecure s).stagger = s.stagger ∧
    (revertForceSecure s).entries = s.entries ∧
    (revertForceSecure s).channels = s.channels ∧
    (revertForceSecure s).chain = s.chain ∧
    (revertForceSecure s).ports = s.ports ∧
    (revertForceSecure s).free = s.free ∧
    (revertForceSecure s).pending = s.pending := by
  simp [revertForceSecure]

@[simp] theorem secureGroup_frame (g : Fin 16) :
    (secureGroup g s).load = s.load ∧
    (secureGroup g s).config = s.config ∧
    (secureGroup g s).enable = s.enable ∧
    (secureGroup g s).store = s.store ∧
    (secureGroup g s).busy = s.busy ∧
    (secureGroup g s).scanSlot = s.scanSlot ∧
    (secureGroup g s).lines = s.lines ∧
    (secureGroup g s).pgroups = s.pgroups ∧
    (secureGroup g s).regime = s.regime ∧
    (secureGroup g s).floors = s.floors ∧
    (secureGroup g s).lgroups = s.lgroups ∧
    (secureGroup g s).cars = s.cars ∧
    (secureGroup g s).resecure = s.resecure ∧
    (secureGroup g s).stagger = s.stagger ∧
    (secureGroup g s).entries = s.entries ∧
    (secureGroup g s).channels = s.channels ∧
    (secureGroup g s).chain = s.chain ∧
    (secureGroup g s).ports = s.ports ∧
    (secureGroup g s).free = s.free ∧
    (secureGroup g s).pending = s.pending := by
  simp [secureGroup]

@[simp] theorem rejoin_frame (g : Fin 16) :
    (rejoin g s).load = s.load ∧
    (rejoin g s).config = s.config ∧
    (rejoin g s).enable = s.enable ∧
    (rejoin g s).store = s.store ∧
    (rejoin g s).busy = s.busy ∧
    (rejoin g s).scanSlot = s.scanSlot ∧
    (rejoin g s).lines = s.lines ∧
    (rejoin g s).pgroups = s.pgroups ∧
    (rejoin g s).regime = s.regime ∧
    (rejoin g s).floors = s.floors ∧
    (rejoin g s).lgroups = s.lgroups ∧
    (rejoin g s).cars = s.cars ∧
    (rejoin g s).doors = s.doors ∧
    (rejoin g s).stagger = s.stagger ∧
    (rejoin g s).entries = s.entries ∧
    (rejoin g s).channels = s.channels ∧
    (rejoin g s).chain = s.chain ∧
    (rejoin g s).ports = s.ports ∧
    (rejoin g s).free = s.free ∧
    (rejoin g s).pending = s.pending := by
  simp [rejoin]

@[simp] theorem takeHead_frame (g : Fin 16) (rest : List (Fin 16)) :
    (takeHead g rest s).load = s.load ∧
    (takeHead g rest s).config = s.config ∧
    (takeHead g rest s).enable = s.enable ∧
    (takeHead g rest s).store = s.store ∧
    (takeHead g rest s).busy = s.busy ∧
    (takeHead g rest s).scanSlot = s.scanSlot ∧
    (takeHead g rest s).lines = s.lines ∧
    (takeHead g rest s).pgroups = s.pgroups ∧
    (takeHead g rest s).regime = s.regime ∧
    (takeHead g rest s).floors = s.floors ∧
    (takeHead g rest s).lgroups = s.lgroups ∧
    (takeHead g rest s).cars = s.cars ∧
    (takeHead g rest s).stagger = s.stagger ∧
    (takeHead g rest s).entries = s.entries ∧
    (takeHead g rest s).channels = s.channels ∧
    (takeHead g rest s).chain = s.chain ∧
    (takeHead g rest s).ports = s.ports ∧
    (takeHead g rest s).free = s.free ∧
    (takeHead g rest s).pending = s.pending := by
  unfold takeHead; (repeat' (first | split | (dsimp only; split))) <;> simp

@[simp] theorem deriveFloors_frame  :
    (deriveFloors s).load = s.load ∧
    (deriveFloors s).config = s.config ∧
    (deriveFloors s).enable = s.enable ∧
    (deriveFloors s).store = s.store ∧
    (deriveFloors s).busy = s.busy ∧
    (deriveFloors s).scanSlot = s.scanSlot ∧
    (deriveFloors s).lines = s.lines ∧
    (deriveFloors s).pgroups = s.pgroups ∧
    (deriveFloors s).regime = s.regime ∧
    (deriveFloors s).lgroups = s.lgroups ∧
    (deriveFloors s).cars = s.cars ∧
    (deriveFloors s).doors = s.doors ∧
    (deriveFloors s).dgroups = s.dgroups ∧
    (deriveFloors s).resecure = s.resecure ∧
    (deriveFloors s).stagger = s.stagger ∧
    (deriveFloors s).entries = s.entries ∧
    (deriveFloors s).channels = s.channels ∧
    (deriveFloors s).chain = s.chain ∧
    (deriveFloors s).ports = s.ports ∧
    (deriveFloors s).free = s.free ∧
    (deriveFloors s).pending = s.pending := by
  simp [deriveFloors]

@[simp] theorem spreadStop_frame  :
    (spreadStop s).load = s.load ∧
    (spreadStop s).config = s.config ∧
    (spreadStop s).enable = s.enable ∧
    (spreadStop s).store = s.store ∧
    (spreadStop s).busy = s.busy ∧
    (spreadStop s).scanSlot = s.scanSlot ∧
    (spreadStop s).lines = s.lines ∧
    (spreadStop s).pgroups = s.pgroups ∧
    (spreadStop s).floors = s.floors ∧
    (spreadStop s).lgroups = s.lgroups ∧
    (spreadStop s).cars = s.cars ∧
    (spreadStop s).doors = s.doors ∧
    (spreadStop s).dgroups = s.dgroups ∧
    (spreadStop s).resecure = s.resecure ∧
    (spreadStop s).stagger = s.stagger ∧
    (spreadStop s).entries = s.entries ∧
    (spreadStop s).channels = s.channels ∧
    (spreadStop s).chain = s.chain ∧
    (spreadStop s).ports = s.ports ∧
    (spreadStop s).free = s.free ∧
    (spreadStop s).pending = s.pending := by
  unfold spreadStop; (repeat' (first | split | (dsimp only; split))) <;> simp

@[simp] theorem floorNotice_frame (s0 : State) :
    (floorNotice s0 s).load = s.load ∧
    (floorNotice s0 s).config = s.config ∧
    (floorNotice s0 s).enable = s.enable ∧
    (floorNotice s0 s).store = s.store ∧
    (floorNotice s0 s).busy = s.busy ∧
    (floorNotice s0 s).scanSlot = s.scanSlot ∧
    (floorNotice s0 s).lines = s.lines ∧
    (floorNotice s0 s).pgroups = s.pgroups ∧
    (floorNotice s0 s).regime = s.regime ∧
    (floorNotice s0 s).floors = s.floors ∧
    (floorNotice s0 s).lgroups = s.lgroups ∧
    (floorNotice s0 s).cars = s.cars ∧
    (floorNotice s0 s).doors = s.doors ∧
    (floorNotice s0 s).dgroups = s.dgroups ∧
    (floorNotice s0 s).resecure = s.resecure ∧
    (floorNotice s0 s).stagger = s.stagger ∧
    (floorNotice s0 s).entries = s.entries ∧
    (floorNotice s0 s).channels = s.channels ∧
    (floorNotice s0 s).chain = s.chain ∧
    (floorNotice s0 s).free = s.free ∧
    (floorNotice s0 s).pending = s.pending := by
  simp [floorNotice]

@[simp] theorem regimeNotice_frame (s0 : State) :
    (regimeNotice s0 s).load = s.load ∧
    (regimeNotice s0 s).config = s.config ∧
    (regimeNotice s0 s).enable = s.enable ∧
    (regimeNotice s0 s).store = s.store ∧
    (regimeNotice s0 s).busy = s.busy ∧
    (regimeNotice s0 s).scanSlot = s.scanSlot ∧
    (regimeNotice s0 s).lines = s.lines ∧
    (regimeNotice s0 s).pgroups = s.pgroups ∧
    (regimeNotice s0 s).regime = s.regime ∧
    (regimeNotice s0 s).floors = s.floors ∧
    (regimeNotice s0 s).lgroups = s.lgroups ∧
    (regimeNotice s0 s).cars = s.cars ∧
    (regimeNotice s0 s).doors = s.doors ∧
    (regimeNotice s0 s).dgroups = s.dgroups ∧
    (regimeNotice s0 s).resecure = s.resecure ∧
    (regimeNotice s0 s).stagger = s.stagger ∧
    (regimeNotice s0 s).entries = s.entries ∧
    (regimeNotice s0 s).channels = s.channels ∧
    (regimeNotice s0 s).chain = s.chain ∧
    (regimeNotice s0 s).free = s.free ∧
    (regimeNotice s0 s).pending = s.pending := by
  simp [regimeNotice]

@[simp] theorem floorSettle_frame (s0 : State) :
    (floorSettle s0 s).load = s.load ∧
    (floorSettle s0 s).config = s.config ∧
    (floorSettle s0 s).enable = s.enable ∧
    (floorSettle s0 s).store = s.store ∧
    (floorSettle s0 s).busy = s.busy ∧
    (floorSettle s0 s).scanSlot = s.scanSlot ∧
    (floorSettle s0 s).lines = s.lines ∧
    (floorSettle s0 s).pgroups = s.pgroups ∧
    (floorSettle s0 s).lgroups = s.lgroups ∧
    (floorSettle s0 s).cars = s.cars ∧
    (floorSettle s0 s).doors = s.doors ∧
    (floorSettle s0 s).dgroups = s.dgroups ∧
    (floorSettle s0 s).resecure = s.resecure ∧
    (floorSettle s0 s).stagger = s.stagger ∧
    (floorSettle s0 s).entries = s.entries ∧
    (floorSettle s0 s).channels = s.channels ∧
    (floorSettle s0 s).chain = s.chain ∧
    (floorSettle s0 s).free = s.free ∧
    (floorSettle s0 s).pending = s.pending := by
  simp [floorSettle]

@[simp] theorem settle_frame (s0 : State) :
    (settle s0 s).load = s.load ∧
    (settle s0 s).config = s.config ∧
    (settle s0 s).enable = s.enable ∧
    (settle s0 s).store = s.store ∧
    (settle s0 s).busy = s.busy ∧
    (settle s0 s).scanSlot = s.scanSlot ∧
    (settle s0 s).lines = s.lines ∧
    (settle s0 s).pgroups = s.pgroups ∧
    (settle s0 s).free = s.free ∧
    (settle s0 s).pending = s.pending := by
  simp [settle]

@[simp] theorem enterActive_frame  :
    (enterActive s).load = s.load ∧
    (enterActive s).config = s.config ∧
    (enterActive s).enable = s.enable ∧
    (enterActive s).store = s.store ∧
    (enterActive s).busy = s.busy ∧
    (enterActive s).scanSlot = s.scanSlot ∧
    (enterActive s).lines = s.lines ∧
    (enterActive s).pgroups = s.pgroups ∧
    (enterActive s).floors = s.floors ∧
    (enterActive s).lgroups = s.lgroups ∧
    (enterActive s).cars = s.cars ∧
    (enterActive s).doors = s.doors ∧
    (enterActive s).dgroups = s.dgroups ∧
    (enterActive s).resecure = s.resecure ∧
    (enterActive s).stagger = s.stagger ∧
    (enterActive s).entries = s.entries ∧
    (enterActive s).channels = s.channels ∧
    (enterActive s).chain = s.chain ∧
    (enterActive s).ports = s.ports ∧
    (enterActive s).free = s.free ∧
    (enterActive s).pending = s.pending := by
  simp [enterActive]

@[simp] theorem enterHold_frame  :
    (enterHold s).load = s.load ∧
    (enterHold s).config = s.config ∧
    (enterHold s).enable = s.enable ∧
    (enterHold s).store = s.store ∧
    (enterHold s).busy = s.busy ∧
    (enterHold s).scanSlot = s.scanSlot ∧
    (enterHold s).lines = s.lines ∧
    (enterHold s).pgroups = s.pgroups ∧
    (enterHold s).floors = s.floors ∧
    (enterHold s).lgroups = s.lgroups ∧
    (enterHold s).cars = s.cars ∧
    (enterHold s).doors = s.doors ∧
    (enterHold s).dgroups = s.dgroups ∧
    (enterHold s).resecure = s.resecure ∧
    (enterHold s).stagger = s.stagger ∧
    (enterHold s).entries = s.entries ∧
    (enterHold s).channels = s.channels ∧
    (enterHold s).chain = s.chain ∧
    (enterHold s).ports = s.ports ∧
    (enterHold s).free = s.free ∧
    (enterHold s).pending = s.pending := by
  simp [enterHold]

@[simp] theorem fireLine_frame (i : Fin 64) :
    (fireLine i s).load = s.load ∧
    (fireLine i s).config = s.config ∧
    (fireLine i s).enable = s.enable ∧
    (fireLine i s).store = s.store ∧
    (fireLine i s).busy = s.busy ∧
    (fireLine i s).scanSlot = s.scanSlot ∧
    (fireLine i s).lines = s.lines ∧
    (fireLine i s).pgroups = s.pgroups ∧
    (fireLine i s).floors = s.floors ∧
    (fireLine i s).lgroups = s.lgroups ∧
    (fireLine i s).cars = s.cars ∧
    (fireLine i s).doors = s.doors ∧
    (fireLine i s).resecure = s.resecure ∧
    (fireLine i s).stagger = s.stagger ∧
    (fireLine i s).entries = s.entries ∧
    (fireLine i s).channels = s.channels ∧
    (fireLine i s).chain = s.chain ∧
    (fireLine i s).ports = s.ports ∧
    (fireLine i s).free = s.free ∧
    (fireLine i s).pending = s.pending := by
  unfold fireLine; split <;> (try split) <;> simp

@[simp] theorem setHolder_frame (h : Option (Fin 4)) :
    (setHolder h s).load = s.load ∧
    (setHolder h s).config = s.config ∧
    (setHolder h s).enable = s.enable ∧
    (setHolder h s).store = s.store ∧
    (setHolder h s).busy = s.busy ∧
    (setHolder h s).scanSlot = s.scanSlot ∧
    (setHolder h s).lines = s.lines ∧
    (setHolder h s).pgroups = s.pgroups ∧
    (setHolder h s).floors = s.floors ∧
    (setHolder h s).lgroups = s.lgroups ∧
    (setHolder h s).cars = s.cars ∧
    (setHolder h s).doors = s.doors ∧
    (setHolder h s).dgroups = s.dgroups ∧
    (setHolder h s).resecure = s.resecure ∧
    (setHolder h s).stagger = s.stagger ∧
    (setHolder h s).entries = s.entries ∧
    (setHolder h s).channels = s.channels ∧
    (setHolder h s).chain = s.chain ∧
    (setHolder h s).free = s.free ∧
    (setHolder h s).pending = s.pending := by
  simp [setHolder]

@[simp] theorem setSilenced_frame (b : Bool) :
    (setSilenced b s).load = s.load ∧
    (setSilenced b s).config = s.config ∧
    (setSilenced b s).enable = s.enable ∧
    (setSilenced b s).store = s.store ∧
    (setSilenced b s).busy = s.busy ∧
    (setSilenced b s).scanSlot = s.scanSlot ∧
    (setSilenced b s).lines = s.lines ∧
    (setSilenced b s).pgroups = s.pgroups ∧
    (setSilenced b s).lgroups = s.lgroups ∧
    (setSilenced b s).cars = s.cars ∧
    (setSilenced b s).doors = s.doors ∧
    (setSilenced b s).dgroups = s.dgroups ∧
    (setSilenced b s).resecure = s.resecure ∧
    (setSilenced b s).stagger = s.stagger ∧
    (setSilenced b s).free = s.free ∧
    (setSilenced b s).pending = s.pending := by
  simp [setSilenced]

@[simp] theorem linesFlag_frame (s0 : State) :
    (linesFlag s0 s).load = s.load ∧
    (linesFlag s0 s).config = s.config ∧
    (linesFlag s0 s).enable = s.enable ∧
    (linesFlag s0 s).store = s.store ∧
    (linesFlag s0 s).busy = s.busy ∧
    (linesFlag s0 s).scanSlot = s.scanSlot ∧
    (linesFlag s0 s).lines = s.lines ∧
    (linesFlag s0 s).pgroups = s.pgroups ∧
    (linesFlag s0 s).floors = s.floors ∧
    (linesFlag s0 s).lgroups = s.lgroups ∧
    (linesFlag s0 s).cars = s.cars ∧
    (linesFlag s0 s).doors = s.doors ∧
    (linesFlag s0 s).dgroups = s.dgroups ∧
    (linesFlag s0 s).resecure = s.resecure ∧
    (linesFlag s0 s).stagger = s.stagger ∧
    (linesFlag s0 s).entries = s.entries ∧
    (linesFlag s0 s).channels = s.channels ∧
    (linesFlag s0 s).chain = s.chain ∧
    (linesFlag s0 s).ports = s.ports ∧
    (linesFlag s0 s).free = s.free ∧
    (linesFlag s0 s).pending = s.pending := by
  simp [linesFlag]

@[simp] theorem changeLine_frame (i : Fin 64) (l : Line) :
    (changeLine i l s).load = s.load ∧
    (changeLine i l s).config = s.config ∧
    (changeLine i l s).enable = s.enable ∧
    (changeLine i l s).store = s.store ∧
    (changeLine i l s).busy = s.busy ∧
    (changeLine i l s).scanSlot = s.scanSlot ∧
    (changeLine i l s).pgroups = s.pgroups ∧
    (changeLine i l s).lgroups = s.lgroups ∧
    (changeLine i l s).cars = s.cars ∧
    (changeLine i l s).doors = s.doors ∧
    (changeLine i l s).dgroups = s.dgroups ∧
    (changeLine i l s).resecure = s.resecure ∧
    (changeLine i l s).stagger = s.stagger ∧
    (changeLine i l s).entries = s.entries ∧
    (changeLine i l s).channels = s.channels ∧
    (changeLine i l s).chain = s.chain ∧
    (changeLine i l s).free = s.free ∧
    (changeLine i l s).pending = s.pending := by
  simp [changeLine]

@[simp] theorem lineEvent_frame (i : Fin 64) (l : Line) :
    (lineEvent i l s).load = s.load ∧
    (lineEvent i l s).config = s.config ∧
    (lineEvent i l s).enable = s.enable ∧
    (lineEvent i l s).store = s.store ∧
    (lineEvent i l s).busy = s.busy ∧
    (lineEvent i l s).scanSlot = s.scanSlot ∧
    (lineEvent i l s).pgroups = s.pgroups ∧
    (lineEvent i l s).free = s.free ∧
    (lineEvent i l s).pending = s.pending := by
  unfold lineEvent; (repeat' (first | split | (dsimp only; split))) <;> simp

@[simp] theorem takeSample_frame (i : Fin 64) (k : BitVec 10) :
    (takeSample i k s).load = s.load ∧
    (takeSample i k s).config = s.config ∧
    (takeSample i k s).enable = s.enable ∧
    (takeSample i k s).store = s.store ∧
    (takeSample i k s).busy = s.busy ∧
    (takeSample i k s).scanSlot = s.scanSlot ∧
    (takeSample i k s).free = s.free ∧
    (takeSample i k s).pending = s.pending := by
  unfold takeSample; (repeat' (first | split | (dsimp only; split))) <;> simp

@[simp] theorem resetLineOf_frame (i : Fin 64) :
    (resetLineOf s i).load = s.load ∧
    (resetLineOf s i).config = s.config ∧
    (resetLineOf s i).enable = s.enable ∧
    (resetLineOf s i).store = s.store ∧
    (resetLineOf s i).busy = s.busy ∧
    (resetLineOf s i).scanSlot = s.scanSlot ∧
    (resetLineOf s i).pgroups = s.pgroups ∧
    (resetLineOf s i).lgroups = s.lgroups ∧
    (resetLineOf s i).cars = s.cars ∧
    (resetLineOf s i).doors = s.doors ∧
    (resetLineOf s i).dgroups = s.dgroups ∧
    (resetLineOf s i).resecure = s.resecure ∧
    (resetLineOf s i).stagger = s.stagger ∧
    (resetLineOf s i).entries = s.entries ∧
    (resetLineOf s i).channels = s.channels ∧
    (resetLineOf s i).chain = s.chain ∧
    (resetLineOf s i).free = s.free ∧
    (resetLineOf s i).pending = s.pending := by
  simp [resetLineOf]

@[simp] theorem resetEachLine_frame  :
    (resetEachLine s).load = s.load ∧
    (resetEachLine s).config = s.config ∧
    (resetEachLine s).enable = s.enable ∧
    (resetEachLine s).store = s.store ∧
    (resetEachLine s).busy = s.busy ∧
    (resetEachLine s).scanSlot = s.scanSlot ∧
    (resetEachLine s).pgroups = s.pgroups ∧
    (resetEachLine s).lgroups = s.lgroups ∧
    (resetEachLine s).cars = s.cars ∧
    (resetEachLine s).doors = s.doors ∧
    (resetEachLine s).dgroups = s.dgroups ∧
    (resetEachLine s).resecure = s.resecure ∧
    (resetEachLine s).stagger = s.stagger ∧
    (resetEachLine s).entries = s.entries ∧
    (resetEachLine s).channels = s.channels ∧
    (resetEachLine s).chain = s.chain ∧
    (resetEachLine s).free = s.free ∧
    (resetEachLine s).pending = s.pending := by
  exact ⟨foldl_keeps (fun t => t.load) resetLineOf (by simp) _ _,
    foldl_keeps (fun t => t.config) resetLineOf (by simp) _ _,
    foldl_keeps (fun t => t.enable) resetLineOf (by simp) _ _,
    foldl_keeps (fun t => t.store) resetLineOf (by simp) _ _,
    foldl_keeps (fun t => t.busy) resetLineOf (by simp) _ _,
    foldl_keeps (fun t => t.scanSlot) resetLineOf (by simp) _ _,
    foldl_keeps (fun t => t.pgroups) resetLineOf (by simp) _ _,
    foldl_keeps (fun t => t.lgroups) resetLineOf (by simp) _ _,
    foldl_keeps (fun t => t.cars) resetLineOf (by simp) _ _,
    foldl_keeps (fun t => t.doors) resetLineOf (by simp) _ _,
    foldl_keeps (fun t => t.dgroups) resetLineOf (by simp) _ _,
    foldl_keeps (fun t => t.resecure) resetLineOf (by simp) _ _,
    foldl_keeps (fun t => t.stagger) resetLineOf (by simp) _ _,
    foldl_keeps (fun t => t.entries) resetLineOf (by simp) _ _,
    foldl_keeps (fun t => t.channels) resetLineOf (by simp) _ _,
    foldl_keeps (fun t => t.chain) resetLineOf (by simp) _ _,
    foldl_keeps (fun t => t.free) resetLineOf (by simp) _ _,
    foldl_keeps (fun t => t.pending) resetLineOf (by simp) _ _⟩

@[simp] theorem resetLines_frame  :
    (resetLines s).load = s.load ∧
    (resetLines s).config = s.config ∧
    (resetLines s).enable = s.enable ∧
    (resetLines s).store = s.store ∧
    (resetLines s).busy = s.busy ∧
    (resetLines s).scanSlot = s.scanSlot ∧
    (resetLines s).lgroups = s.lgroups ∧
    (resetLines s).cars = s.cars ∧
    (resetLines s).doors = s.doors ∧
    (resetLines s).dgroups = s.dgroups ∧
    (resetLines s).resecure = s.resecure ∧
    (resetLines s).stagger = s.stagger ∧
    (resetLines s).entries = s.entries ∧
    (resetLines s).channels = s.channels ∧
    (resetLines s).chain = s.chain ∧
    (resetLines s).free = s.free ∧
    (resetLines s).pending = s.pending := by
  simp [resetLines]

@[simp] theorem clearManual_frame  :
    (clearManual s).load = s.load ∧
    (clearManual s).config = s.config ∧
    (clearManual s).enable = s.enable ∧
    (clearManual s).store = s.store ∧
    (clearManual s).busy = s.busy ∧
    (clearManual s).scanSlot = s.scanSlot ∧
    (clearManual s).lines = s.lines ∧
    (clearManual s).pgroups = s.pgroups ∧
    (clearManual s).regime = s.regime ∧
    (clearManual s).floors = s.floors ∧
    (clearManual s).cars = s.cars ∧
    (clearManual s).doors = s.doors ∧
    (clearManual s).dgroups = s.dgroups ∧
    (clearManual s).resecure = s.resecure ∧
    (clearManual s).stagger = s.stagger ∧
    (clearManual s).entries = s.entries ∧
    (clearManual s).channels = s.channels ∧
    (clearManual s).chain = s.chain ∧
    (clearManual s).ports = s.ports ∧
    (clearManual s).free = s.free ∧
    (clearManual s).pending = s.pending := by
  simp [clearManual]

@[simp] theorem resetRegime_frame  :
    (resetRegime s).load = s.load ∧
    (resetRegime s).config = s.config ∧
    (resetRegime s).enable = s.enable ∧
    (resetRegime s).store = s.store ∧
    (resetRegime s).busy = s.busy ∧
    (resetRegime s).scanSlot = s.scanSlot ∧
    (resetRegime s).free = s.free ∧
    (resetRegime s).pending = s.pending := by
  simp [resetRegime]

@[simp] theorem windowLine_frame (g : Fin 8) (i : Fin 64) :
    (windowLine g s i).load = s.load ∧
    (windowLine g s i).config = s.config ∧
    (windowLine g s i).enable = s.enable ∧
    (windowLine g s i).store = s.store ∧
    (windowLine g s i).busy = s.busy ∧
    (windowLine g s i).scanSlot = s.scanSlot ∧
    (windowLine g s i).pgroups = s.pgroups ∧
    (windowLine g s i).lgroups = s.lgroups ∧
    (windowLine g s i).cars = s.cars ∧
    (windowLine g s i).doors = s.doors ∧
    (windowLine g s i).dgroups = s.dgroups ∧
    (windowLine g s i).resecure = s.resecure ∧
    (windowLine g s i).stagger = s.stagger ∧
    (windowLine g s i).entries = s.entries ∧
    (windowLine g s i).channels = s.channels ∧
    (windowLine g s i).chain = s.chain ∧
    (windowLine g s i).free = s.free ∧
    (windowLine g s i).pending = s.pending := by
  unfold windowLine; split <;> simp

@[simp] theorem setLapse_frame (c : Fin 4) (b : Bool) :
    (setLapse c b s).load = s.load ∧
    (setLapse c b s).config = s.config ∧
    (setLapse c b s).enable = s.enable ∧
    (setLapse c b s).store = s.store ∧
    (setLapse c b s).busy = s.busy ∧
    (setLapse c b s).scanSlot = s.scanSlot ∧
    (setLapse c b s).lines = s.lines ∧
    (setLapse c b s).pgroups = s.pgroups ∧
    (setLapse c b s).regime = s.regime ∧
    (setLapse c b s).floors = s.floors ∧
    (setLapse c b s).lgroups = s.lgroups ∧
    (setLapse c b s).cars = s.cars ∧
    (setLapse c b s).doors = s.doors ∧
    (setLapse c b s).dgroups = s.dgroups ∧
    (setLapse c b s).resecure = s.resecure ∧
    (setLapse c b s).stagger = s.stagger ∧
    (setLapse c b s).entries = s.entries ∧
    (setLapse c b s).chain = s.chain ∧
    (setLapse c b s).ports = s.ports ∧
    (setLapse c b s).free = s.free ∧
    (setLapse c b s).pending = s.pending := by
  simp [setLapse]

@[simp] theorem countPlay_frame (c : Fin 4) :
    (countPlay c s).load = s.load ∧
    (countPlay c s).config = s.config ∧
    (countPlay c s).enable = s.enable ∧
    (countPlay c s).store = s.store ∧
    (countPlay c s).busy = s.busy ∧
    (countPlay c s).scanSlot = s.scanSlot ∧
    (countPlay c s).lines = s.lines ∧
    (countPlay c s).pgroups = s.pgroups ∧
    (countPlay c s).regime = s.regime ∧
    (countPlay c s).floors = s.floors ∧
    (countPlay c s).lgroups = s.lgroups ∧
    (countPlay c s).cars = s.cars ∧
    (countPlay c s).doors = s.doors ∧
    (countPlay c s).dgroups = s.dgroups ∧
    (countPlay c s).resecure = s.resecure ∧
    (countPlay c s).stagger = s.stagger ∧
    (countPlay c s).chain = s.chain ∧
    (countPlay c s).ports = s.ports ∧
    (countPlay c s).free = s.free ∧
    (countPlay c s).pending = s.pending := by
  unfold countPlay; (repeat' (first | split | (dsimp only; split))) <;> simp

@[simp] theorem playEnded_frame (c : Fin 4) :
    (playEnded c s).load = s.load ∧
    (playEnded c s).config = s.config ∧
    (playEnded c s).enable = s.enable ∧
    (playEnded c s).store = s.store ∧
    (playEnded c s).busy = s.busy ∧
    (playEnded c s).scanSlot = s.scanSlot ∧
    (playEnded c s).lines = s.lines ∧
    (playEnded c s).pgroups = s.pgroups ∧
    (playEnded c s).lgroups = s.lgroups ∧
    (playEnded c s).cars = s.cars ∧
    (playEnded c s).doors = s.doors ∧
    (playEnded c s).dgroups = s.dgroups ∧
    (playEnded c s).resecure = s.resecure ∧
    (playEnded c s).stagger = s.stagger ∧
    (playEnded c s).free = s.free ∧
    (playEnded c s).pending = s.pending := by
  unfold playEnded; (repeat' (first | split | (dsimp only; split))) <;> simp

@[simp] theorem writeEnds_frame (n : Fin 136) (x : StoreRec) :
    (writeEnds n x s).load = s.load ∧
    (writeEnds n x s).config = s.config ∧
    (writeEnds n x s).enable = s.enable ∧
    (writeEnds n x s).scanSlot = s.scanSlot ∧
    (writeEnds n x s).lines = s.lines ∧
    (writeEnds n x s).pgroups = s.pgroups ∧
    (writeEnds n x s).floors = s.floors ∧
    (writeEnds n x s).lgroups = s.lgroups ∧
    (writeEnds n x s).cars = s.cars ∧
    (writeEnds n x s).doors = s.doors ∧
    (writeEnds n x s).dgroups = s.dgroups ∧
    (writeEnds n x s).resecure = s.resecure ∧
    (writeEnds n x s).stagger = s.stagger ∧
    (writeEnds n x s).entries = s.entries ∧
    (writeEnds n x s).channels = s.channels ∧
    (writeEnds n x s).chain = s.chain ∧
    (writeEnds n x s).free = s.free ∧
    (writeEnds n x s).pending = s.pending := by
  simp [writeEnds]

@[simp] theorem setConflict_frame (p : Fin 4) (n : Option (Fin 136)) :
    (setConflict p n s).load = s.load ∧
    (setConflict p n s).config = s.config ∧
    (setConflict p n s).enable = s.enable ∧
    (setConflict p n s).store = s.store ∧
    (setConflict p n s).busy = s.busy ∧
    (setConflict p n s).scanSlot = s.scanSlot ∧
    (setConflict p n s).lines = s.lines ∧
    (setConflict p n s).pgroups = s.pgroups ∧
    (setConflict p n s).regime = s.regime ∧
    (setConflict p n s).floors = s.floors ∧
    (setConflict p n s).lgroups = s.lgroups ∧
    (setConflict p n s).cars = s.cars ∧
    (setConflict p n s).doors = s.doors ∧
    (setConflict p n s).dgroups = s.dgroups ∧
    (setConflict p n s).resecure = s.resecure ∧
    (setConflict p n s).stagger = s.stagger ∧
    (setConflict p n s).entries = s.entries ∧
    (setConflict p n s).channels = s.channels ∧
    (setConflict p n s).chain = s.chain ∧
    (setConflict p n s).free = s.free ∧
    (setConflict p n s).pending = s.pending := by
  simp [setConflict]

end Sys2Proof.Machine
end

