-- ==== Sys2Proof/Safety.lean ====
section
/-! DEFINITION. The part's standing laws as predicates of a state (each cites the rule it writes down), when a port takes a command, which part of the state a step leaves alone and what it raises, what a frame has put out, and what the tables show. The statements use them; no meaning does. -/

namespace Sys2Proof.Machine

/-! ## Standing laws -/

/-- A pointer within its window, and the window within the selected table (R171). -/
def PointerGood (c : Port) : Prop :=
  c.firstRecord ≤ c.record ∧ c.record ≤ c.lastRecord ∧ c.lastRecord < Table.records c.table ∧
    c.firstField ≤ c.field ∧ c.field ≤ c.lastField ∧ c.lastField < Table.fields c.table

/-- The attention line is asserted exactly while a pending kind is unmasked (R180). -/
def AttentionGood (c : Port) : Prop := c.attention = ((c.notices &&& ~~~c.mask) != 0)

/-- A reply is in progress only in a frame whose command has been judged (R167). -/
def ReplyGood (c : Port) : Prop :=
  match c.frame with
  | .none => c.reply = .none
  | .begun _ => c.reply = .none
  | .ignoring => c.reply = .none
  | .judged _ => True
  | .implied _ => True

/-- The law of the port contexts (R167, R171, R180). -/
def PortInv (s : State) : Prop :=
  ∀ p : Fin 4, PointerGood s.ports[p] ∧ AttentionGood s.ports[p] ∧ ReplyGood s.ports[p]

/-- Console control is held only by a CONSOLE port, and by none during the load (R44, R47). -/
def HolderInv (s : State) : Prop :=
  ∀ p ∈ s.regime.holder, s.load = none ∧ s.config.ports[p].role = .console

/-- The law of the regime record (R43, R56, R59, R60, R61). -/
def RegimeInv (s : State) : Prop :=
  let g := s.regime
  (g.hold.isSome = true ↔ g.state = .holdAck ∨ g.state = .holdInvestigate) ∧
    (g.state = .quiet → g.firstAlarm = none) ∧
    (g.silenced = true → g.state = .active) ∧
    (g.inhibit.isSome = true → g.state = .active) ∧
    (g.evacuateAll = true → g.state = .active ∧ g.spread = .stopped) ∧
    (spreadTime g.spread ≠ none → g.state = .active) ∧
    (g.spreadHeld = true ↔ spreadCode g.spread = 1)

/-- The ranges of a zone line's fields (R6, R20, R23, R36). -/
def LineRanges (l : Line) : Prop :=
  l.history.length ≤ 4 ∧ (∀ x ∈ l.history, x ≤ 65535) ∧ l.agree ≤ 42 ∧ l.clearCount ≤ 255

/-- A line's retard runs only on a FLOW line that is NORMAL (R20, R29). -/
def RetardGood (c : LineCfg) (l : Line) : Prop :=
  l.retard.isSome = true → c.kind = .flow ∧ l.state = .normal

/-- A power group has a timer exactly outside IDLE (R31). -/
def GroupTimerGood (g : PGroup) : Prop := g.timer.isSome = true ↔ g.state ≠ .idle

/-- The law of the line scanner (R6, R20, R29, R31). -/
def ScannerInv (s : State) : Prop :=
  (∀ i : Fin 64, LineRanges s.lines[i] ∧ RetardGood s.config.lines[i] s.lines[i]) ∧
    ∀ g : Fin 8, GroupTimerGood s.pgroups[g]

/-- Each floor's counts are the counts of its lines (R70, R71). -/
def CountInv (s : State) : Prop :=
  ∀ f : Fin 48,
    s.floors[f].alarmCount =
      (List.finRange 64).countP (fun i =>
        s.config.lines[i].floor == f && fireActive s.config.lines[i] s.lines[i]) ∧
    s.floors[f].troubleCount =
      (List.finRange 64).countP fun i =>
        s.config.lines[i].floor == f && lineInTrouble s.config.lines[i] s.lines[i]

/-- Every present floor's ring and status are those of R72 and R73, and an absent floor has no status. -/
def FloorInv (s : State) : Prop :=
  ∀ f : Fin 48,
    if s.present f then
      s.floors[f].ring = ringOf (fireFloors s) f ∧
        s.floors[f].status = statusOf s.regime s.config.system.alertMargin s.floors[f].ring
    else s.floors[f].status = .none

/-- Every present floor evacuates. -/
abbrev EveryFloorEvacuates (s : State) : Prop :=
  ∀ f : Fin 48, s.present f = true → s.floors[f].status = .evacuate

/-- The spread timer neither runs nor is frozen while every present floor is EVACUATE in ACTIVE; one that has run out
waits for its expiry (R78, R80; log entry 27). -/
def SpreadInv (s : State) : Prop :=
  s.regime.state = .active → EveryFloorEvacuates s → s.regime.spread = .stopped ∨ s.regime.spread = .running 0

/-- A floor is a fire floor: present, with an alarm count of at least 1 (R69). -/
def FireFloor (s : State) (f : Fin 48) : Prop := s.present f = true ∧ s.floors[f].alarmCount ≠ 0

/-- A HOISTWAY line linked to the group is ACTIVE (R96). -/
def HoistwayActive (s : State) (g : Fin 3) : Prop :=
  ∃ i : Fin 64, s.lines[i].state = .active ∧ s.config.lines[i].kind = .hoistway ∧
    s.config.lines[i].link = some g.val

/-- The no-stop set of a car and its warning, as they are while the car is not FREE: the fire floors that it serves less
its group's target, and whether a linked HOISTWAY line is ACTIVE (R95, R96). -/
def NoStopGood (s : State) (c : Fin 12) : Prop :=
  let g := s.config.cars[c].group
  (∀ f : Fin 48, s.cars[c].noStop.has f = true ↔
    FireFloor s f ∧ s.config.cars[c].served.has f = true ∧ s.lgroups[g].target ≠ some f) ∧
  (s.cars[c].warning = true ↔ HoistwayActive s g)

/-- The directive and the target of a car by its recall state, while the car is not FREE (R91, R94, R98, R101). -/
def DirectiveGood (s : State) (c : Fin 12) : Prop :=
  let x := s.cars[c]
  let target := s.lgroups[s.config.cars[c].group].target
  match x.phase with
  | .free => True
  | .recalling => x.directive = .recall ∧ x.target = target
  | .parked => x.directive = .park ∧ x.target = target
  | .exempt => x.directive = .none ∧ x.target = none
  | .lost => if x.directive = .none then x.target = none else x.target = target

/-- Outside the load each lift group's trigger and target are those of R90 and R93, and a car of a group is FREE
exactly while the group is not triggered; a car that is not holds its directive, target, no-stop set and warning as the
rules give them (R91, R92, R94 to R96). -/
def LiftInv (s : State) : Prop :=
  (s.load = none →
    ∀ g : Fin 3, s.lgroups[g].triggered = trigger s g ∧ s.lgroups[g].target = targetOf s g) ∧
  ∀ c : Fin 12,
    (s.cars[c].phase = .free ↔
      ¬(s.config.cars[c].present = true ∧ s.lgroups[s.config.cars[c].group].triggered = true)) ∧
    (s.cars[c].phase = .free →
      s.cars[c].directive = .none ∧ s.cars[c].target = none ∧ s.cars[c].noStop = 0 ∧ s.cars[c].warning = false) ∧
    (s.cars[c].phase ≠ .free → NoStopGood s c ∧ DirectiveGood s c)

/-- A car at the rise of its group's trigger, by its reported flag and the service mode of its last report (R91). -/
def CarRises (s t : State) (c : Fin 12) : Prop :=
  let x := s.cars[c]
  let y := t.cars[c]
  let target := t.lgroups[s.config.cars[c].group].target
  (x.reported = false → y.phase = .lost ∧ y.directive = .recall ∧ y.target = target) ∧
  ∀ r, x.reported = true → x.report = some r →
    if r.mode = .firefighter ∨ r.mode = .outOfService then
      y.phase = .exempt ∧ y.directive = .none ∧ y.target = none
    else y.phase = .recalling ∧ y.directive = .recall ∧ y.target = target

/-- A car at the fall of its group's trigger: FREE, with what its reports gave kept (R92). -/
def CarFalls (s t : State) (c : Fin 12) : Prop :=
  let x := s.cars[c]
  t.cars[c] =
    { carReset with report := x.report, reported := x.reported, timer := x.timer, lapsed := x.lapsed }

/-- A car at a change of its triggered group's target (the table of R94). -/
def CarTurns (s t : State) (c : Fin 12) : Prop :=
  let x := s.cars[c]
  let y := t.cars[c]
  let target := t.lgroups[s.config.cars[c].group].target
  match x.phase with
  | .free => True
  | .recalling => y.phase = .recalling ∧ y.directive = .recall ∧ y.target = target
  | .parked => y.phase = .recalling ∧ y.directive = .recall ∧ y.target = target
  | .lost =>
    y.phase = .lost ∧
      if x.directive = .none then y.directive = .none ∧ y.target = x.target
      else y.directive = .recall ∧ y.target = target
  | .exempt => y.phase = .exempt ∧ y.directive = x.directive ∧ y.target = x.target

/-- A car at an event that judged its group's trigger and target anew (R91, R92, R94). -/
def CarMoves (s t : State) (c : Fin 12) : Prop :=
  let old := s.lgroups[s.config.cars[c].group]
  let new := t.lgroups[s.config.cars[c].group]
  (old.triggered = false → new.triggered = true → CarRises s t c) ∧
  (old.triggered = true → new.triggered = false → CarFalls s t c) ∧
  (old.triggered = true → new.triggered = true → old.target ≠ new.target → CarTurns s t c)

/-- A circuit is ON or TRIPPED only as a present member of a SECURED group, its cool-down timer runs exactly in
TRIPPED, and LATCHED_OFF is exactly trip count 7 (R113, R116, R120, R126, R127). -/
def CircuitGood (s : State) (c : Fin 32) : Prop :=
  let d := s.doors[c]
  ((d.state = .on ∨ d.state = .tripped) →
    s.config.doors[c].present = true ∧ s.dgroups[s.config.doors[c].group].state = .secured) ∧
  (d.cool.isSome = true ↔ d.state = .tripped) ∧
  (d.state = .latchedOff ↔ d.trips = 7) ∧ d.trips ≤ 7 ∧ d.count ≤ 42 ∧ d.current ≤ 1998

/-- The law of the door circuits. -/
def DoorInv (s : State) : Prop := ∀ c : Fin 32, CircuitGood s c

/-- The re-secure queue holds exactly the groups in RESECURE_WAIT, each once, and its stagger timer runs while it holds
one; during the load it is empty (R118, R119). -/
def QueueInv (s : State) : Prop :=
  s.resecure.Nodup ∧
    (s.load = none → ∀ g : Fin 16, g ∈ s.resecure ↔ s.dgroups[g].state = .resecureWait) ∧
    (s.resecure ≠ [] → s.stagger.isSome = true) ∧ (s.load ≠ none → s.resecure = [])

/-- A group is RELEASED exactly while it has release demand, outside the load (R115 to R117). -/
def DemandInv (s : State) : Prop :=
  s.load = none → ∀ g : Fin 16, s.dgroups[g].state = .released ↔ demand s g = true

/-- Outside QUIET no door group is FORCE_SECURE (R51, R130, R131). -/
def OverrideInv (s : State) : Prop :=
  s.regime.state ≠ .quiet → ∀ g : Fin 16, s.dgroups[g].override ≠ .forceSecure

/-- The classes that may stand in a slot: EVACUATE in 14, ALERT in 15, CONSOLE and TENANT below (R141). -/
def slotClass (sl : Fin 16) (k : AnnClass) : Bool :=
  match k with
  | .evacuate => sl == evacuateSlot
  | .alert => sl == alertSlot
  | .console => postSlot sl
  | .tenant => postSlot sl

/-- The law of the announcement queue's slots: reserved slots, no EVACUATE or ALERT entry while the regime is silenced
or not ACTIVE, floor sets of present floors that are not empty, and no TENANT entry on a floor whose status is ALERT or
EVACUATE (R141, R144). -/
def EntryGood (s : State) (sl : Fin 16) (e : Entry) : Prop :=
  slotClass sl e.cls = true ∧
    (postSlot sl = false → s.regime.state = .active ∧ s.regime.silenced = false) ∧
    e.floors ≠ 0 ∧ e.rpt ≤ 15 ∧ e.plays ≤ 255 ∧
    ∀ f : Fin 48, e.floors.has f = true →
      s.present f = true ∧ (e.cls = .tenant → s.floors[f].status = .none)

/-- The law of the announcement queue. -/
def EntryInv (s : State) : Prop := ∀ sl : Fin 16, ∀ e ∈ s.entries[sl], EntryGood s sl e

/-- A channel's fields by its state (R149). -/
def ChannelGood (s : State) (c : Fin 4) : Prop :=
  let x := s.channels[c]
  match x.state with
  | .idle => x.entry = none ∧ x.message = none ∧ x.play = none ∧ x.stop = none
  | .stopping => x.entry = none ∧ x.message ≠ none ∧ x.play = none ∧ x.stop ≠ none
  | .playing =>
    x.play ≠ none ∧ x.stop = none ∧
      match x.entry with
      | none => False
      | some sl => ∃ e ∈ s.entries[sl], e.channel = some c ∧ x.message = some e.message

/-- The channels and the entries name each other (R141, R149). -/
def ChannelInv (s : State) : Prop :=
  (∀ c : Fin 4, ChannelGood s c) ∧
    ∀ sl : Fin 16, ∀ e ∈ s.entries[sl], ∀ c ∈ e.channel,
      s.channels[c].state = .playing ∧ s.channels[c].entry = some sl

/-- A channel plays an entry (R149). -/
def Plays (s : State) (c : Fin 4) (e : Entry) : Prop :=
  s.channels[c].state = .playing ∧ ∃ sl : Fin 16, s.channels[c].entry = some sl ∧ s.entries[sl] = some e

/-- An entry waits (R141). -/
def Waits (s : State) (sl : Fin 16) (e : Entry) : Prop := s.entries[sl] = some e ∧ e.channel = none

/-- One entry ranks above another: its class has the lower code, or the classes are one and it is the older (R140,
section 11.1). -/
def RanksOver (e x : Entry) : Prop :=
  codeIn AnnClass.list e.cls < codeIn AnnClass.list x.cls ∨ (e.cls = x.cls ∧ e.age < x.age)

/-- The age order of the entries: 0 to one below their number, each once (R142). -/
def AgeInv (s : State) : Prop :=
  ∀ (sl : Fin 16) (e : Entry), s.entries[sl] = some e → e.age < entryCount s ∧
    ∀ (k : Fin 16) (x : Entry), k ≠ sl → s.entries[k] = some x → x.age ≠ e.age

/-- Each present floor is routed to the channel of the highest-ranked PLAYING entry whose floor set holds it, and to none
when there is no such entry; an absent floor is routed to none (R154). -/
def RouteInv (s : State) : Prop :=
  ∀ f : Fin 48,
    (s.present f = false → s.floors[f].routed = none) ∧
    (s.present f = true → s.floors[f].routed = none → ∀ c e, Plays s c e → e.floors.has f = false) ∧
    ∀ c : Fin 4, s.floors[f].routed = some c →
      ∃ e : Entry, Plays s c e ∧ e.floors.has f = true ∧
        ∀ (d : Fin 4) (x : Entry), d ≠ c → Plays s d x → x.floors.has f = true → RanksOver e x

/-- The number of WAITING entries that outrank an entry: whose class has the lower code (R140, R151). -/
def outrankers (s : State) (e : Entry) : Nat :=
  s.entries.toList.countP fun x =>
    match x with
    | some w => w.channel.isNone && decide (codeIn AnnClass.list w.cls < codeIn AnnClass.list e.cls)
    | none => false

/-- What the assignment leaves: no entry waits while a channel is IDLE, and no PLAYING entry is outranked by more WAITING
entries than there are channels in STOPPING (R150, R151). -/
def AssignInv (s : State) : Prop :=
  (∀ c : Fin 4, s.channels[c].state = .idle → ∀ (sl : Fin 16) (e : Entry), ¬ Waits s sl e) ∧
  ∀ (c : Fin 4) (e : Entry), Plays s c e →
    outrankers s e ≤ (List.finRange 4).countP fun d => s.channels[d].state == .stopping

/-- The law of the configuration store: no write count above 32, a write in progress only on a record below 32 with the
enable input asserted and outside the load, and every programmed record in range (R183, R185, R186). -/
def StoreInv (s : State) : Prop :=
  (∀ n : Fin 136, s.store[n].writes ≤ 32 ∧
    (s.store[n].programmed = true → imageInRange (storeKindOf n) s.store[n].contents = true)) ∧
  ∀ b ∈ s.busy, s.store[b.record].writes < 32 ∧ s.enable = true ∧ s.load = none ∧
    imageInRange (storeKindOf b.record) b.image = true

/-- Each trouble summary flag is set exactly while its unit has a standing trouble (R66). -/
def TroubleInv (s : State) : Prop :=
  s.regime.trouble.lines = anyLineTrouble s.floors ∧ s.regime.trouble.doors = anyDoorTrouble s ∧
    s.regime.trouble.lifts = anyLiftTrouble s ∧ s.regime.trouble.voice = anyVoiceTrouble s ∧
    s.regime.trouble.store = anyStoreTrouble s.store

/-- During the load every block holds its reset values (R2, R20, R31, R43, R69, R113, R141, R149, R155,
R165). -/
def LoadInv (s : State) : Prop :=
  s.load ≠ none →
    s.scanSlot = none ∧ (∀ i : Fin 64, s.lines[i] = lineReset) ∧ (∀ g : Fin 8, s.pgroups[g] = pgroupReset) ∧
    s.regime = regimeReset s.regime.trouble.store ∧ (∀ f : Fin 48, s.floors[f] = floorReset) ∧
    (∀ g : Fin 3, s.lgroups[g] = lgroupReset) ∧ (∀ c : Fin 12, s.cars[c] = carReset) ∧
    (∀ c : Fin 32, s.doors[c] = doorReset) ∧ (∀ g : Fin 16, s.dgroups[g] = dgroupReset) ∧
    s.resecure = [] ∧ s.stagger = none ∧ (∀ sl : Fin 16, s.entries[sl] = none) ∧
    (∀ c : Fin 4, s.channels[c] = channelReset) ∧ s.chain = chainReset ∧
    ∀ p : Fin 4, s.ports[p].notices = 0 ∧ ∀ taken, s.ports[p].reply ≠ .notices taken

/-- After the load a port's notice set, and the kinds that a NOTICES reply has taken from it, hold only kinds that its
role receives (R178). -/
def NoticeInv (s : State) : Prop :=
  s.load = none → ∀ p : Fin 4,
    s.ports[p].notices &&& ~~~(receives s.config.ports[p].role) = 0 ∧
    ∀ taken, s.ports[p].reply = .notices taken → taken &&& ~~~(receives s.config.ports[p].role) = 0

/-! ## What the load builds (R184, R191) -/

/-- Two configurations have one store record in common. -/
def SameRecord (a b : WorkConfig) (n : Fin 136) : Prop :=
  let k := storeIndexOf n
  match storeKindOf n with
  | .system => a.system = b.system
  | .port => a.ports[Fin.ofNat 4 k] = b.ports[Fin.ofNat 4 k]
  | .line => a.lines[Fin.ofNat 64 k] = b.lines[Fin.ofNat 64 k]
  | .bandset => a.bandSets[Fin.ofNat 4 k] = b.bandSets[Fin.ofNat 4 k]
  | .lgroup => a.lgroups[Fin.ofNat 3 k] = b.lgroups[Fin.ofNat 3 k]
  | .car => a.cars[Fin.ofNat 12 k] = b.cars[Fin.ofNat 12 k]
  | .dgroup => a.dgroups[Fin.ofNat 16 k] = b.dgroups[Fin.ofNat 16 k]
  | .door => a.doors[Fin.ofNat 32 k] = b.doors[Fin.ofNat 32 k]

/-! ## When a command is taken -/

/-- The port reads the bytes of a command: the bits that its frame has received so far, if any, begin it (R165, R167,
R181). -/
def Hears (s : State) (p : Fin 4) (i : Instr) : Prop := Frame.reads (Instr.bytes i) s.ports[p].frame = true

/-- The load is over and the port reads the bytes of a command. -/
def Ready (s : State) (p : Fin 4) (i : Instr) : Prop := s.load = none ∧ Hears s p i

/-- The load is over, the port reads the bytes of a command, and it holds console control (R48). -/
def InControl (s : State) (p : Fin 4) (i : Instr) : Prop := Ready s p i ∧ s.regime.holder = some p

/-- The completion of a line's slot, in its turn, brings the sample at which a band qualifies that differs from the
qualified band (R1, R4, R23, R24). -/
def Qualifies (s : State) (i : Fin 64) (c : BitVec 10) (b : Band) : Prop :=
  s.load = none ∧ s.scanSlot = some (lineSlot i) ∧
    sampled s.config.lines[i] (groupOf s i).state s.lines[i] = true ∧
    sampleBand s.config.lines[i] s.config.bandSets[s.config.lines[i].bandSet] c s.lines[i] = b ∧
    s.lines[i].candidate = some b ∧ s.lines[i].agree = (if b = .alarm ∨ b = .normal then 2 else 41) ∧
    s.lines[i].qualified ≠ some b

/-- The configured role of a port is the one named, and the load is over (R166). -/
def HasRole (s : State) (p : Fin 4) (r : Role) : Prop := s.load = none ∧ s.config.ports[p].role = r

/-- The commands that the load answers: SELECT, WINDOW, READ, STATUS; and an unknown byte, which leaves UNKNOWN
(R170). -/
def answeredInLoad : Instr → Bool
  | .select .. => true
  | .window .. => true
  | .read .. => true
  | .status .. => true
  | .unknownCommand .. => true
  | _ => false

/-- The commands that only the control holder may send (R48, section 8.7). -/
def needsControl : Instr → Bool
  | .releaseControl .. => true
  | .acknowledge .. => true
  | .silence .. => true
  | .resound .. => true
  | .evacuateAll .. => true
  | .spreadHold .. => true
  | .spreadResume .. => true
  | .resetRegime .. => true
  | .isolateLine .. => true
  | .restoreLine .. => true
  | .recallGroup .. => true
  | .releaseGroup .. => true
  | .doorOverride .. => true
  | .clearDoorFault .. => true
  | .restart .. => true
  | _ => false

/-- The roles whose ports may send a command that judges the role (section 8.7). -/
def roleMaySend (r : Role) : Instr → Bool
  | .takeControl .. => r == .console
  | .storeWrite .. => r == .console
  | .checkConfig .. => r == .console
  | .carReport .. => r == .lift
  | .playEnd .. => r == .voice
  | .postAnnouncement .. => r == .console || r == .voice
  | .cancelAnnouncement .. => r == .console || r == .voice
  | _ => true

/-! ## What a step leaves alone -/

/-- A port's table, pointer, window, mask and conflict locator are as they were. -/
def ContextKept (c d : Port) : Prop :=
  d.table = c.table ∧ d.record = c.record ∧ d.field = c.field ∧ d.firstRecord = c.firstRecord ∧
    d.lastRecord = c.lastRecord ∧ d.firstField = c.firstField ∧ d.lastField = c.lastField ∧
    d.order = c.order ∧ d.mask = c.mask ∧ d.conflict = c.conflict

/-- A port's context is as it was but for kinds that joined its notice set, and the attention line. -/
def NoticesJoined (c d : Port) : Prop :=
  d = { c with notices := d.notices, attention := d.attention } ∧ c.notices &&& ~~~d.notices = 0

/-- Every port is as it was but for notices. -/
def QuietPorts (s t : State) : Prop := ∀ q : Fin 4, NoticesJoined s.ports[q] t.ports[q]

/-- Every port but the sender is as it was but for notices. -/
def QuietOthers (p : Fin 4) (s t : State) : Prop := ∀ q : Fin 4, q ≠ p → NoticesJoined s.ports[q] t.ports[q]

/-- The sender's last result, its context otherwise as it was. -/
def Answers (p : Fin 4) (r : Result) (s t : State) : Prop :=
  t.ports[p].lastResult = r ∧ ContextKept s.ports[p] t.ports[p]

/-- A refused command: nothing changes but the sender's port, which holds the code (00_scope "Results"). -/
def RefusedAs (p : Fin 4) (r : Result) (s t : State) : Prop :=
  t = { s with ports := t.ports } ∧ (∀ q : Fin 4, q ≠ p → t.ports[q] = s.ports[q]) ∧ Answers p r s t

/-- An accepted command, as far as the ports show it: OK for the sender, and nothing but notices elsewhere. -/
def Accepted (p : Fin 4) (s t : State) : Prop := Answers p .ok s t ∧ QuietOthers p s t

/-- A command that needs console control, judged in its order: STARTING, CONTROL, then its own conditions (R48). -/
def Controlled (p : Fin 4) (s t : State) (own : Prop) : Prop :=
  (s.load ≠ none → RefusedAs p .starting s t) ∧
    (s.load = none → s.regime.holder ≠ some p → RefusedAs p .control s t) ∧
    (s.load = none → s.regime.holder = some p → own)

/-- A command for one role, judged in its order: STARTING, ROLE, then its own conditions (R45, R188). -/
def ForRole (p : Fin 4) (r : Role) (s t : State) (own : Prop) : Prop :=
  (s.load ≠ none → RefusedAs p .starting s t) ∧
    (s.load = none → s.config.ports[p].role ≠ r → RefusedAs p .role s t) ∧
    (s.load = none → s.config.ports[p].role = r → own)

/-- A port's table, pointer, window, order and mask at their default values, with no reply in progress (R165, R181). -/
def ContextReset (c : Port) : Prop :=
  c.table = .regime ∧ c.record = 0 ∧ c.field = 0 ∧ c.firstRecord = 0 ∧ c.lastRecord = 0 ∧ c.firstField = 0 ∧
    c.lastField = 14 ∧ c.order = .fieldFirst ∧ c.mask = 0 ∧ c.reply = .none

/-- An event of the announcement router alone: its queue, channels and chain, the routed channels of the floors, the
trouble summary's voice flag and the ports' contexts may change, and nothing else does. -/
def OnlyAnnouncements (s t : State) : Prop :=
  t = { s with
    regime := t.regime, floors := t.floors, entries := t.entries, channels := t.channels, chain := t.chain
    ports := t.ports } ∧
  t.regime = { s.regime with trouble := { s.regime.trouble with voice := t.regime.trouble.voice } } ∧
  ∀ f : Fin 48, t.floors[f] = { s.floors[f] with routed := t.floors[f].routed }

/-- A kind is pending at every port whose role receives it (R178). -/
def Raised (k : Notice) (s t : State) : Prop :=
  ∀ q : Fin 4, receives s.config.ports[q].role &&& Notice.bit k ≠ 0 → t.ports[q].notices &&& Notice.bit k ≠ 0

/-- A FLOOR notice is raised at an event that changes the status of a floor (R83). -/
def FloorNoticed (s t : State) : Prop :=
  s.load = none → (∃ f : Fin 48, t.floors[f].status ≠ s.floors[f].status) → Raised .floor s t

/-- A LIFT notice is raised at an event that changes a group's flags or target, or a car's recall state, directive,
target, no-stop set or warning (R111). -/
def LiftNoticed (s t : State) : Prop :=
  s.load = none →
  ((∃ g : Fin 3, t.lgroups[g] ≠ s.lgroups[g]) ∨
    ∃ c : Fin 12, t.cars[c].phase ≠ s.cars[c].phase ∨ t.cars[c].directive ≠ s.cars[c].directive ∨
      t.cars[c].target ≠ s.cars[c].target ∨ t.cars[c].noStop ≠ s.cars[c].noStop ∨
      t.cars[c].warning ≠ s.cars[c].warning) →
  Raised .lift s t

/-- A DOOR notice is raised at an event that changes a group's override, state, not-secured flag or place in the queue, or
a circuit's state or trip count (R135). -/
def DoorNoticed (s t : State) : Prop :=
  s.load = none →
  ((∃ g : Fin 16, t.dgroups[g].override ≠ s.dgroups[g].override ∨ t.dgroups[g].state ≠ s.dgroups[g].state ∨
      t.dgroups[g].notSecured ≠ s.dgroups[g].notSecured ∨ ¬(g ∈ t.resecure ↔ g ∈ s.resecure)) ∨
    ∃ c : Fin 32, t.doors[c].state ≠ s.doors[c].state ∨ t.doors[c].trips ≠ s.doors[c].trips) →
  Raised .door s t

/-- What the units keep when the regime changes: each floor's counts, each car's report and timer, each circuit's trip
count, open-fault flag and last current (R76, R95, R116); and the notices of the floors, the lifts and the doors. -/
def UnitsKept (s t : State) : Prop :=
  (∀ c : Fin 12,
    t.cars[c] =
      { s.cars[c] with
        phase := t.cars[c].phase, directive := t.cars[c].directive, target := t.cars[c].target
        noStop := t.cars[c].noStop, warning := t.cars[c].warning }) ∧
  (∀ c : Fin 32,
    t.doors[c] =
      { s.doors[c] with
        state := t.doors[c].state, cool := t.doors[c].cool, candidate := t.doors[c].candidate
        count := t.doors[c].count }) ∧
  FloorNoticed s t ∧ LiftNoticed s t ∧ DoorNoticed s t

/-- The overrides of the door groups at an event of the regime: FORCE_SECURE reverts to AUTO when it leaves QUIET, and
nothing else of them changes (R51, R131). -/
def OverridesFollow (s t : State) : Prop :=
  ∀ g : Fin 16,
    t.dgroups[g].override =
      if s.regime.state = .quiet ∧ t.regime.state ≠ .quiet ∧ s.dgroups[g].override = .forceSecure then .auto
      else s.dgroups[g].override

/-- An event of the regime: the regime record and what the units derive from it may change; the lines, the power groups,
the floors' counts, the manual recall flags, the configuration and the store do not. -/
def RegimeWide (s t : State) : Prop :=
  t = { s with
    regime := t.regime, floors := t.floors, lgroups := t.lgroups, cars := t.cars, doors := t.doors
    dgroups := t.dgroups, resecure := t.resecure, stagger := t.stagger, entries := t.entries
    channels := t.channels, chain := t.chain, ports := t.ports } ∧
  UnitsKept s t ∧ (∀ g : Fin 3, t.lgroups[g].manual = s.lgroups[g].manual) ∧
  ∀ f : Fin 48,
    t.floors[f] =
      { s.floors[f] with
        ring := t.floors[f].ring, status := t.floors[f].status, routed := t.floors[f].routed }

/-- A fire line's entry into ACTIVE: one line, the regime and what the units derive may change; the power groups, the
configuration and the store do not. -/
def FireWide (s t : State) : Prop :=
  t = { s with
    scanSlot := t.scanSlot, lines := t.lines, regime := t.regime, floors := t.floors, lgroups := t.lgroups
    cars := t.cars, doors := t.doors, dgroups := t.dgroups, resecure := t.resecure, stagger := t.stagger
    entries := t.entries, channels := t.channels, chain := t.chain, ports := t.ports } ∧
  UnitsKept s t ∧ OverridesFollow s t ∧ ∀ g : Fin 3, t.lgroups[g].manual = s.lgroups[g].manual

/-- The regime's entry into ACTIVE: r at the initial radius, silenced and spread-held clear, the hold timer stopped, the
silence inhibit and the spread timer started; the spread timer stays stopped with an interval of 0 s, with evacuate-all,
and where every present floor then evacuates (R50, R78). The rest of the record stays, but for what the event itself sets
of the first alarm line and evacuate-all, and for the trouble summary. -/
def EntersActive (s t : State) : Prop :=
  Raised .regime s t ∧
  t.regime =
    { s.regime with
      state := .active, hold := none, silenced := false, spreadHeld := false, r := s.config.system.initialRadius
      inhibit :=
        if s.config.system.silenceInhibit = 0 then none else some (1000 * s.config.system.silenceInhibit)
      spread := t.regime.spread, firstAlarm := t.regime.firstAlarm, evacuateAll := t.regime.evacuateAll
      trouble := t.regime.trouble } ∧
  (t.regime.evacuateAll = true ∨ s.config.system.spreadInterval = 0 ∨ EveryFloorEvacuates t →
    t.regime.spread = .stopped) ∧
  (¬(t.regime.evacuateAll = true ∨ s.config.system.spreadInterval = 0 ∨ EveryFloorEvacuates t) →
    t.regime.spread = .running (1000 * s.config.system.spreadInterval))

/-- The first alarm that line i gives is held: the hold is enabled, its kind may be held, and no other fire line is ACTIVE
(R49). -/
def FirstAlarmIsHeld (i : Fin 64) (s : State) : Prop :=
  s.config.system.holdEnabled = true ∧
    (s.config.lines[i].kind = .smoke ∨ s.config.lines[i].kind = .heat) ∧
    ∀ j : Fin 64, j ≠ i → fireActive s.config.lines[j] s.lines[j] = false

/-- The entry of line i, of a fire kind, into ACTIVE: its floor's count rises, ALARM is raised, and the regime leaves QUIET
for the hold or for ACTIVE, ends its hold in ACTIVE, or is unsilenced. In ACTIVE the spread timer stops where every floor
evacuates, unless it has run out and its expiry is still to come (R22, R49 to R51, R53, R54, R58, R70, R78 to R80; log
entry 27). -/
def FireEntry (i : Fin 64) (s t : State) : Prop :=
  (∀ j : Fin 64, j ≠ i → t.lines[j] = s.lines[j]) ∧
  t.floors[s.config.lines[i].floor].alarmCount = s.floors[s.config.lines[i].floor].alarmCount + 1 ∧
  Raised .alarm s t ∧ FireWide s t ∧
  match s.regime.state with
  | .quiet =>
    t.regime.firstAlarm = some i ∧ Raised .regime s t ∧ t.regime.evacuateAll = s.regime.evacuateAll ∧
    (FirstAlarmIsHeld i s →
      t.regime =
        { s.regime with
          state := .holdAck, firstAlarm := some i, hold := some (1000 * s.config.system.ackWindow)
          trouble := t.regime.trouble }) ∧
    (¬ FirstAlarmIsHeld i s → EntersActive s t)
  | .active =>
    t.regime =
      { s.regime with
        silenced := false, spread := t.regime.spread, spreadHeld := t.regime.spreadHeld
        trouble := t.regime.trouble } ∧
    (s.regime.silenced = true → Raised .regime s t) ∧
    (EveryFloorEvacuates t → s.regime.spread ≠ .running 0 →
      t.regime.spread = .stopped ∧ t.regime.spreadHeld = false) ∧
    (¬ EveryFloorEvacuates t ∨ s.regime.spread = .running 0 →
      t.regime.spread = s.regime.spread ∧ t.regime.spreadHeld = s.regime.spreadHeld)
  | _ =>
    EntersActive s t ∧ t.regime.firstAlarm = s.regime.firstAlarm ∧
      t.regime.evacuateAll = s.regime.evacuateAll

/-- An event of one line that reaches no other unit: the line, its floor's trouble count, the lines flag and the notices
may change, and nothing else does but the scan slot (R21, R66, R71). -/
def LineWide (i : Fin 64) (s t : State) : Prop :=
  t = { s with
    scanSlot := t.scanSlot, lines := t.lines, floors := t.floors, regime := t.regime, ports := t.ports } ∧
  (∀ j : Fin 64, j ≠ i → t.lines[j] = s.lines[j]) ∧
  t.regime = { s.regime with trouble := { s.regime.trouble with lines := t.regime.trouble.lines } } ∧
  (∀ f : Fin 48, t.floors[f] = { s.floors[f] with troubleCount := t.floors[f].troubleCount }) ∧ QuietPorts s t

/-- The demand of a present AUTO door group: by the regime for ON_ALARM, and by the floors of its members for ON_EVACUATE
(the table of R115). -/
def AutoDemand (s : State) (g : Fin 16) : Prop :=
  match s.config.dgroups[g].policy with
  | .onAlarm => s.regime.state = .active
  | .onEvacuate =>
    ∃ c : Fin 32, s.config.doors[c].present = true ∧ s.config.doors[c].group = g ∧
      s.present s.config.doors[c].floor = true ∧ s.floors[s.config.doors[c].floor].status = .evacuate

/-- The floors a post of a class may reach: the present floors of its set, and for TENANT those whose status is NONE
(R144). -/
def keptFloors (s : State) (k : AnnClass) (fs : FloorSet) : FloorSet :=
  FloorSet.ofPred fun f => s.present f && fs.has f && (k != .tenant || s.floors[f].status == .none)

/-! ## What a frame has put out (R167, R174) -/

/-- The bytes that a reply puts out with its next clocks: of STATUS its words, of NOTICES its one word, and of READ the
word in turn: the dummy word, the word taken already, or outside the load the table's word at the pointer (R167, R174,
R175, R177). -/
def NextReply (s : State) (c : Port) (bytes : List Byte) : Prop :=
  match c.reply with
  | .none => bytes = []
  | .dummy => bytes = [0, 0]
  | .notices taken => bytes = Word.bytes (taken.zeroExtend 16)
  | .status words => bytes = wordBytes words
  | .stream (w :: _) => bytes = Word.bytes w
  | .stream [] =>
    s.load = none ∧ bytes = Word.bytes ((tableRecord s c.table c.record).getD c.field 0xFFFF)

/-- The bytes that a port has put out in a frame once `n` clock edges of it have come: the last result first, bytes of value
0 before the judgement, the reply after it, and bytes of value 0 after the reply (R167). With no frame told, edges stand
for a frame of their own (log entry 5). The first byte counts from the frame's beginning on, every later byte once it is
whole (log entry 31). -/
def ClockedOut (s : State) (c : Port) (n : Nat) (out : List Byte) : Prop :=
  match c.frame with
  | .none =>
    out = if n = 0 then c.out else BitVec.ofNat 8 (codeIn Result.list c.lastResult) :: List.replicate (n / 8 - 1) 0
  | .begun bits => out = c.out ++ List.replicate (max n bits.length / 8 - c.out.length) 0
  | .ignoring => out = c.out
  | _ =>
    ∀ bytes : List Byte, NextReply s c bytes →
      out = c.out ++ (bytes ++ List.replicate n 0).take (n / 8 - c.out.length)

/-- The words that are captured after the first word of a value taken at the pointer: the rest of the value where the walk
shifts it whole, and none otherwise (R196). -/
def valueRest (s : State) (c : Port) : List Word :=
  let n := spanAt c.table c.record c.field
  if (c.order = .fieldFirst ∨ c.firstRecord = c.lastRecord) ∧ c.field + n ≤ c.lastField + 1 then
    (List.range (n - 1)).map fun j => (tableRecord s c.table c.record).getD (c.field + 1 + j) 0xFFFF
  else []

/-! ## What the tables show (R171, R195, section 11.3) -/

/-- A field of a record reads a word. -/
def Reads (s : State) (t : Table) (r k : Nat) (w : Word) : Prop := (tableRecord s t r)[k]? = some w

/-- Two fields of a record read a remaining time, high word first, or none in both. -/
def ReadsTime (s : State) (t : Table) (r k : Nat) : Option Nat → Prop
  | none => Reads s t r k 0xFFFF ∧ Reads s t r (k + 1) 0xFFFF
  | some n => Reads s t r k (BitVec.ofNat 16 (n / 65536)) ∧ Reads s t r (k + 1) (BitVec.ofNat 16 (n % 65536))

/-- Three fields of a record read a floor set: bit n of word w for floor 16 w + n. -/
def ReadsFloors (s : State) (t : Table) (r k : Nat) (has : Fin 48 → Prop) : Prop :=
  ∀ (w : Fin 3) (n : Fin 16), ∃ x : Word, Reads s t r (k + w.val) x ∧
    (x.getLsbD n = true ↔ has ⟨16 * w.val + n.val, by omega⟩)

/-- The word of an index that may be absent. -/
def indexWord {n : Nat} : Option (Fin n) → Word
  | none => 0xFFFF
  | some x => BitVec.ofNat 16 x.val

/-- The word of a byte that may be absent. -/
def messageWord : Option Byte → Word
  | none => 0xFFFF
  | some b => b.zeroExtend 16

/-- The word of an enumeration value that may be absent. -/
def codeWord {α : Type} [DecidableEq α] (l : List α) : Option α → Word
  | none => 0xFFFF
  | some x => code l x

/-- A field of a record reads 1 where something holds, and 0 where it does not. -/
def ReadsWhether (s : State) (t : Table) (r k : Nat) (p : Prop) : Prop :=
  (p → Reads s t r k 1) ∧ (¬ p → Reads s t r k 0)

/-- The number of items of a kind as a word. -/
def countWord {n : Nat} (p : Fin n → Bool) : Word := BitVec.ofNat 16 ((List.finRange n).countP p)

/-- The twelve tables have the records of R171 and the fields of section 11.3. -/
def TableSizes : Prop :=
  ∀ t : Table, (Table.records t, Table.fields t) =
    match t with
    | .regime => (1, 15)
    | .floor => (48, 5)
    | .line => (64, 24)
    | .pgroup => (8, 6)
    | .car => (12, 20)
    | .lgroup => (3, 14)
    | .door => (32, 14)
    | .dgroup => (16, 16)
    | .channel => (4, 9)
    | .queue => (16, 12)
    | .port => (4, 16)
    | .store => (136, 29)

/-- The REGIME record; its trouble summary has the five flags in bits 0 to 4. -/
def RegimeReads (s : State) : Prop :=
  Reads s .regime 0 0 (code RegimeState.list s.regime.state) ∧
    Reads s .regime 0 1 (indexWord s.regime.firstAlarm) ∧ ReadsTime s .regime 0 2 s.regime.hold ∧
    Reads s .regime 0 4 (flag s.regime.silenced) ∧ ReadsTime s .regime 0 5 s.regime.inhibit ∧
    Reads s .regime 0 7 (BitVec.ofNat 16 s.regime.r) ∧
    (match s.regime.spread with
      | .running n => Reads s .regime 0 8 0 ∧ ReadsTime s .regime 0 9 (some n)
      | .frozen n => Reads s .regime 0 8 1 ∧ ReadsTime s .regime 0 9 (some n)
      | .stopped => Reads s .regime 0 8 2 ∧ ReadsTime s .regime 0 9 none) ∧
    Reads s .regime 0 11 (flag s.regime.spreadHeld) ∧ Reads s .regime 0 12 (flag s.regime.evacuateAll) ∧
    Reads s .regime 0 13 (indexWord s.regime.holder) ∧
    ∃ x : Word, Reads s .regime 0 14 x ∧
      (x.getLsbD 0 = s.regime.trouble.lines ∧ x.getLsbD 1 = s.regime.trouble.doors ∧
        x.getLsbD 2 = s.regime.trouble.lifts ∧ x.getLsbD 3 = s.regime.trouble.voice ∧
        x.getLsbD 4 = s.regime.trouble.store ∧ x.toNat < 32)

/-- A FLOOR record; one at or above NFLOOR reads none in every field (R195). -/
def FloorReads (s : State) (f : Fin 48) : Prop :=
  if f.val < s.config.system.nfloor then
    Reads s .floor f 0 (BitVec.ofNat 16 s.floors[f].alarmCount) ∧
      Reads s .floor f 1 (BitVec.ofNat 16 s.floors[f].troubleCount) ∧
      Reads s .floor f 2 (match s.floors[f].ring with | none => 0xFFFF | some k => BitVec.ofNat 16 k) ∧
      Reads s .floor f 3 (code FloorStatus.list s.floors[f].status) ∧
      Reads s .floor f 4 (indexWord s.floors[f].routed)
  else ∀ k : Fin 5, Reads s .floor f k 0xFFFF

/-- A LINE record: its configured fields, its last code, its history and average, which read 0 where there is none, its
state and qualification, its timer, and whether it is in trouble (R13, R21, R42, R195). -/
def LineReads (s : State) (i : Fin 64) : Prop :=
  let k := s.config.lines[i]
  let l := s.lines[i]
  Reads s .line i 0 (code LineMode.list k.mode) ∧ Reads s .line i 1 (code LineKind.list k.kind) ∧
    Reads s .line i 2 (BitVec.ofNat 16 k.floor.val) ∧ Reads s .line i 3 (BitVec.ofNat 16 k.bandSet.val) ∧
    Reads s .line i 4 (BitVec.ofNat 16 k.powerGroup.val) ∧ Reads s .line i 5 (flag k.verification) ∧
    Reads s .line i 6 (match k.link with | none => 0xFFFF | some n => BitVec.ofNat 16 n) ∧
    Reads s .line i 7 (BitVec.ofNat 16 l.lastCode.toNat) ∧ Reads s .line i 8 (BitVec.ofNat 16 l.history.length) ∧
    (∀ k : Fin 4, Reads s .line i (9 + k.val)
      (if h : k.val < l.history.length then BitVec.ofNat 16 l.history[k.val] else 0)) ∧
    Reads s .line i 13 (if l.history = [] then 0 else BitVec.ofNat 16 (l.history.sum / l.history.length)) ∧
    Reads s .line i 14 (codeWord Band.list l.rawBand) ∧ Reads s .line i 15 (code LineState.list l.state) ∧
    Reads s .line i 16 (codeWord Band.list l.qualified) ∧ Reads s .line i 17 (codeWord Band.list l.candidate) ∧
    Reads s .line i 18 (BitVec.ofNat 16 l.agree) ∧ ReadsTime s .line i 19 l.retard ∧
    Reads s .line i 21 (BitVec.ofNat 16 l.clearCount) ∧ Reads s .line i 22 (flag l.unstable) ∧
    ReadsWhether s .line i 23
      (l.state ≠ .isolated ∧
        (l.state = .troubleOpen ∨ l.state = .troubleShort ∨ l.unstable = true ∨
          k.kind = .panelTrouble ∧ l.state = .active))

/-- A CAR record: present floors of the served set, and a car without a report reads none in fields 5 to 8 (R195). -/
def CarReads (s : State) (c : Fin 12) : Prop :=
  let x := s.cars[c]
  Reads s .car c 0 (flag s.config.cars[c].present) ∧
    Reads s .car c 1 (BitVec.ofNat 16 s.config.cars[c].group.val) ∧
    ReadsFloors s .car c 2 (fun f => f.val < s.config.system.nfloor ∧ s.config.cars[c].served.has f = true) ∧
    (match x.report with
      | none => ∀ k : Fin 4, Reads s .car c (5 + k.val) 0xFFFF
      | some r =>
        Reads s .car c 5 (match r.position with | none => 0x00FF | some f => BitVec.ofNat 16 f.val) ∧
          Reads s .car c 6 (code Motion.list r.motion) ∧ Reads s .car c 7 (code CarDoors.list r.doors) ∧
          Reads s .car c 8 (code ServiceMode.list r.mode)) ∧
    Reads s .car c 9 (flag x.reported) ∧ ReadsTime s .car c 10 x.timer ∧ Reads s .car c 12 (flag x.lapsed) ∧
    Reads s .car c 13 (code RecallState.list x.phase) ∧
    Reads s .car c 14 (code Directive.list x.directive) ∧ Reads s .car c 15 (indexWord x.target) ∧
    ReadsFloors s .car c 16 (fun f => x.noStop.has f = true) ∧ Reads s .car c 19 (flag x.warning)

/-- A DOOR record. Its last field reads whether every CONTACT line of kind DOOR_POSITION linked to the circuit is NORMAL
(R120, R138; of an absent circuit, log entry 28). -/
def CircuitReads (s : State) (c : Fin 32) : Prop :=
  let k := s.config.doors[c]
  let d := s.doors[c]
  Reads s .door c 0 (flag k.present) ∧ Reads s .door c 1 (BitVec.ofNat 16 k.floor.val) ∧
    Reads s .door c 2 (BitVec.ofNat 16 k.stair.val) ∧ Reads s .door c 3 (BitVec.ofNat 16 k.group.val) ∧
    Reads s .door c 4 (code CircuitState.list d.state) ∧ Reads s .door c 5 (flag (d.state == .on)) ∧
    Reads s .door c 6 (BitVec.ofNat 16 d.trips) ∧ ReadsTime s .door c 7 d.cool ∧
    Reads s .door c 9 (flag d.openFault) ∧ Reads s .door c 10 (codeWord CurrentClass.list d.candidate) ∧
    Reads s .door c 11 (BitVec.ofNat 16 d.count) ∧ Reads s .door c 12 (BitVec.ofNat 16 d.current) ∧
    ReadsWhether s .door c 13
      (∀ i : Fin 64, s.config.lines[i].mode = .contact → s.config.lines[i].kind = .doorPosition →
        s.config.lines[i].link = some c.val → s.lines[i].state = .normal)

/-- A door group has demand: by its override, or in AUTO by its policy (the table of R115). -/
def HasDemand (s : State) (g : Fin 16) : Prop :=
  s.config.dgroups[g].present = true ∧
    match s.dgroups[g].override with
    | .forceRelease => True
    | .forceSecure => False
    | .auto => AutoDemand s g

/-- A DGROUP record, with the group's place in the queue and the numbers of its members in each state (R139). -/
def DGroupReads (s : State) (g : Fin 16) : Prop :=
  let members (x : CircuitState) : Word := countWord fun c : Fin 32 =>
    s.config.doors[c].present && s.config.doors[c].group == g && s.doors[c].state == x
  Reads s .dgroup g 0 (flag s.config.dgroups[g].present) ∧
    Reads s .dgroup g 1 (code Policy.list s.config.dgroups[g].policy) ∧
    Reads s .dgroup g 2 (code Override.list s.dgroups[g].override) ∧
    ReadsWhether s .dgroup g 3 (HasDemand s g) ∧ Reads s .dgroup g 4 (code DGroupState.list s.dgroups[g].state) ∧
    (g ∉ s.resecure → Reads s .dgroup g 5 0xFFFF) ∧
    (∀ k : Fin 16, s.resecure[k.val]? = some g → (∀ j : Fin 16, j < k → s.resecure[j.val]? ≠ some g) →
      Reads s .dgroup g 5 (BitVec.ofNat 16 k.val)) ∧
    ReadsTime s .dgroup g 6 s.dgroups[g].openWait ∧ Reads s .dgroup g 8 (flag s.dgroups[g].notSecured) ∧
    Reads s .dgroup g 9 (members .off) ∧ Reads s .dgroup g 10 (members .on) ∧
    Reads s .dgroup g 11 (members .tripped) ∧ Reads s .dgroup g 12 (members .latchedOff) ∧
    Reads s .dgroup g 13 (BitVec.ofNat 16 s.resecure.length) ∧ ReadsTime s .dgroup g 14 s.stagger

/-- The records of the door unit. -/
def DoorReads (s : State) : Prop := (∀ c : Fin 32, CircuitReads s c) ∧ ∀ g : Fin 16, DGroupReads s g

/-- The records of the announcement router; an empty slot reads none in fields 0 to 10 (R195). -/
def QueueReads (s : State) : Prop :=
  (∀ sl : Fin 16,
    Reads s .queue sl 11 (BitVec.ofNat 16 (postedCount s)) ∧
      match s.entries[sl] with
      | none => ∀ k : Fin 11, Reads s .queue sl k 0xFFFF
      | some e =>
        Reads s .queue sl 0 (code AnnClass.list e.cls) ∧ Reads s .queue sl 1 (e.message.zeroExtend 16) ∧
          ReadsFloors s .queue sl 2 (fun f => e.floors.has f = true) ∧
          Reads s .queue sl 5 (BitVec.ofNat 16 e.rpt) ∧ Reads s .queue sl 6 (BitVec.ofNat 16 e.plays) ∧
          Reads s .queue sl 7 (indexWord e.origin) ∧ Reads s .queue sl 8 (BitVec.ofNat 16 e.age) ∧
          Reads s .queue sl 9 (if e.channel = none then 0 else 1) ∧ Reads s .queue sl 10 (indexWord e.channel)) ∧
  ∀ c : Fin 4,
    Reads s .channel c 0 (code ChannelState.list s.channels[c].state) ∧
      Reads s .channel c 1 (indexWord s.channels[c].entry) ∧
      Reads s .channel c 2 (messageWord s.channels[c].message) ∧ ReadsTime s .channel c 3 s.channels[c].play ∧
      ReadsTime s .channel c 5 s.channels[c].stop ∧ Reads s .channel c 7 (flag s.channels[c].lapse) ∧
      Reads s .channel c 8 (countWord fun f : Fin 48 => s.present f && s.floors[f].routed == some c)

/-- A PGROUP record: the state, the timer, the loop power, and the numbers of VERIFYING members and of members (R31,
R42). -/
def PGroupReads (s : State) (g : Fin 8) : Prop :=
  let member (i : Fin 64) : Bool := s.config.lines[i].mode == .supervised && s.config.lines[i].powerGroup == g
  Reads s .pgroup g 0 (code PGroupState.list s.pgroups[g].state) ∧ ReadsTime s .pgroup g 1 s.pgroups[g].timer ∧
    Reads s .pgroup g 3 (flag (s.pgroups[g].state != .reset)) ∧
    Reads s .pgroup g 4 (countWord fun i => member i && s.lines[i].state == .verifying) ∧
    Reads s .pgroup g 5 (countWord member)

/-- A LOBBY line on a floor that a present car of the group serves is ACTIVE (R88, R90). -/
def LobbyActive (s : State) (g : Fin 3) : Prop :=
  ∃ i : Fin 64, s.lines[i].state = .active ∧ s.config.lines[i].kind = .lobby ∧
    ∃ c : Fin 12, s.config.cars[c].present = true ∧ s.config.cars[c].group = g ∧
      s.config.cars[c].served.has s.config.lines[i].floor = true

/-- An LGROUP record: the configured fields, the flags, the target, and the numbers of present cars in each recall state
(R90, R110; the automatic cause in QUIET, log entry 10). -/
def LGroupReads (s : State) (g : Fin 3) : Prop :=
  let k := s.config.lgroups[g]
  let cars (x : RecallState) : Word := countWord fun c : Fin 12 =>
    s.config.cars[c].present && s.config.cars[c].group == g && s.cars[c].phase == x
  Reads s .lgroup g 0 (flag k.present) ∧ Reads s .lgroup g 1 (BitVec.ofNat 16 k.designated.val) ∧
    Reads s .lgroup g 2 (BitVec.ofNat 16 k.alternate.val) ∧ Reads s .lgroup g 3 (flag k.recallAny) ∧
    Reads s .lgroup g 4 (BitVec.ofNat 16 k.reportPort.val) ∧ Reads s .lgroup g 5 (flag s.lgroups[g].manual) ∧
    Reads s .lgroup g 6 (flag s.lgroups[g].triggered) ∧
    ReadsWhether s .lgroup g 7
      (k.present = true ∧ s.regime.state ≠ .quiet ∧
        (k.recallAny = true ∨ LobbyActive s g ∨ HoistwayActive s g)) ∧
    Reads s .lgroup g 8 (indexWord s.lgroups[g].target) ∧ Reads s .lgroup g 9 (cars .free) ∧
    Reads s .lgroup g 10 (cars .recalling) ∧ Reads s .lgroup g 11 (cars .parked) ∧
    Reads s .lgroup g 12 (cars .exempt) ∧ Reads s .lgroup g 13 (cars .lost)

/-- A PORT record; role and rank read none during the load (R182, R195). -/
def PortReads (s : State) (p : Fin 4) : Prop :=
  let c := s.ports[p]
  Reads s .port p 0 (if s.load = none then code Role.list s.config.ports[p].role else 0xFFFF) ∧
    Reads s .port p 1 (if s.load = none then BitVec.ofNat 16 s.config.ports[p].rank else 0xFFFF) ∧
    Reads s .port p 2 (if s.regime.holder = some p then 1 else 0) ∧
    Reads s .port p 3 (code Result.list c.lastResult) ∧ Reads s .port p 4 (c.notices.zeroExtend 16) ∧
    Reads s .port p 5 (c.mask.zeroExtend 16) ∧ Reads s .port p 6 (flag c.attention) ∧
    Reads s .port p 7 (code Table.list c.table) ∧ Reads s .port p 8 (BitVec.ofNat 16 c.record) ∧
    Reads s .port p 9 (BitVec.ofNat 16 c.field) ∧ Reads s .port p 10 (BitVec.ofNat 16 c.firstRecord) ∧
    Reads s .port p 11 (BitVec.ofNat 16 c.lastRecord) ∧ Reads s .port p 12 (BitVec.ofNat 16 c.firstField) ∧
    Reads s .port p 13 (BitVec.ofNat 16 c.lastField) ∧ Reads s .port p 14 (code WalkOrder.list c.order) ∧
    Reads s .port p 15 (indexWord c.conflict)

/-- A STORE record: what is stored, its flags, the write in progress, and in the last field the enable input in bit 0 and
the load in bit 1 (R193). -/
def StoreReads (s : State) (n : Fin 136) : Prop :=
  Reads s .store n 0 (code StoreKind.list (storeKindOf n)) ∧
    Reads s .store n 1 (BitVec.ofNat 16 (storeIndexOf n)) ∧
    (∀ k : Fin 17, Reads s .store n (2 + k.val) s.store[n].contents[k]) ∧
    Reads s .store n 19 (BitVec.ofNat 16 s.store[n].writes) ∧ Reads s .store n 20 (flag s.store[n].programmed) ∧
    Reads s .store n 21 (flag s.store[n].damaged) ∧ Reads s .store n 22 (flag s.store[n].substituted) ∧
    Reads s .store n 23 (flag (s.store[n].damaged || s.store[n].substituted)) ∧
    Reads s .store n 24 (indexWord (s.busy.map (·.record))) ∧ Reads s .store n 25 (indexWord (s.busy.map (·.port))) ∧
    ReadsTime s .store n 26 (s.busy.map (·.remaining)) ∧
    ∃ x : Word, Reads s .store n 28 x ∧
      (x.getLsbD 0 = s.enable ∧ x.getLsbD 1 = s.load.isSome ∧ x.toNat < 4)

/-- The records of the power groups, the lift groups, the ports and the store. -/
def OtherReads (s : State) : Prop :=
  (∀ g : Fin 8, PGroupReads s g) ∧ (∀ g : Fin 3, LGroupReads s g) ∧ (∀ p : Fin 4, PortReads s p) ∧
    ∀ n : Fin 136, StoreReads s n

/-- Every record of every table has its table's fields, and every one of them reads as section 11.3 and R195 give. -/
def TablesLaidOut (s : State) : Prop :=
  (∀ (t : Table) (r : Nat), (tableRecord s t r).length = Table.fields t) ∧ RegimeReads s ∧
    (∀ f : Fin 48, FloorReads s f) ∧ (∀ i : Fin 64, LineReads s i) ∧ (∀ c : Fin 12, CarReads s c) ∧ DoorReads s ∧
    QueueReads s ∧ OtherReads s

/-- The number of fields of the value that begins at a field: 2 for a time, 3 for a floor set, 1 otherwise (section 11.3;
the served set in a STORE record of kind CAR is log entry 17). -/
def ValueSpans : Prop :=
  ∀ (t : Table) (r f : Nat), spanAt t r f =
    match t with
    | .regime => if f = 2 ∨ f = 5 ∨ f = 9 then 2 else 1
    | .line => if f = 19 then 2 else 1
    | .pgroup => if f = 1 then 2 else 1
    | .car => if f = 2 ∨ f = 16 then 3 else if f = 10 then 2 else 1
    | .door => if f = 7 then 2 else 1
    | .dgroup => if f = 6 ∨ f = 14 then 2 else 1
    | .channel => if f = 3 ∨ f = 5 then 2 else 1
    | .queue => if f = 2 then 3 else 1
    | .store =>
      if f = 26 then 2 else if f = 4 ∧ storeKindOf (Fin.ofNat 136 r) = .car then 3 else 1
    | .floor => 1
    | .lgroup => 1
    | .port => 1

end Sys2Proof.Machine
end

