-- ==== Sys2Proof/Laws/Ops.lean ====
section
/-! SUPPORT. What the shared operations do to the ports: notices that join, the judgement of a command, and the work of the units at an event, each said once. -/

set_option Elab.async false

namespace Sys2Proof.Machine

/-! ## Sets of kinds -/

/-- Inclusion of sets of kinds is transitive. -/
theorem kinds_sub_trans {a b c : NoticeSet} (h : a &&& ~~~b = 0) (k : b &&& ~~~c = 0) : a &&& ~~~c = 0 := by
  ext i hi
  have h1 := congrArg (fun x : NoticeSet => x[i]) h
  have k1 := congrArg (fun x : NoticeSet => x[i]) k
  simp at h1 k1 ⊢
  grind

/-- A set of kinds lies in its union with another. -/
theorem kinds_sub_or (a b : NoticeSet) : a &&& ~~~(a ||| b) = 0 := by
  ext i hi
  simp
  grind

/-- A kind of a set is a kind of every larger set. -/
theorem kind_mem_of_sub {a b k : NoticeSet} (h : a &&& ~~~b = 0) (hk : a &&& k ≠ 0) : b &&& k ≠ 0 := by
  intro hb
  apply hk
  ext i hi
  have h1 := congrArg (fun x : NoticeSet => x[i]) h
  have k1 := congrArg (fun x : NoticeSet => x[i]) hb
  simp at h1 k1 ⊢
  grind

/-- A kind is in the union of a set with a set that has it. -/
theorem kind_mem_or {a b k : NoticeSet} (h : b &&& k ≠ 0) : (a ||| b) &&& k ≠ 0 :=
  kind_mem_of_sub (by rw [BitVec.or_comm]; exact kinds_sub_or b a) h

/-! ## Notices join a set, and nothing else of a port changes -/

theorem NoticesJoined.refl (c : Port) : NoticesJoined c c := ⟨rfl, by simp⟩

theorem NoticesJoined.trans {c d e : Port} (h : NoticesJoined c d) (k : NoticesJoined d e) : NoticesJoined c e := by
  refine ⟨?_, kinds_sub_trans h.2 k.2⟩
  have h1 := h.1
  have k1 := k.1
  cases c; cases d; cases e
  simp_all

/-- Recording kinds only joins them to the set. -/
theorem joined_recordKinds (ks : NoticeSet) (c : Port) : NoticesJoined c (recordKinds ks c) := by
  unfold recordKinds
  split
  · exact .refl c
  · exact ⟨rfl, kinds_sub_or _ _⟩

theorem QuietPorts.refl (s : State) : QuietPorts s s := fun _ => .refl _

theorem QuietPorts.trans {s t u : State} (h : QuietPorts s t) (k : QuietPorts t u) : QuietPorts s u :=
  fun q => (h q).trans (k q)

/-- States with the same ports are quiet. -/
theorem quiet_of_ports {s t : State} (h : t.ports = s.ports) : QuietPorts s t := fun q => by
  rw [h]; exact .refl _

/-- A port after kinds are raised (R178). -/
theorem raise_port (ks : NoticeSet) (s : State) (q : Fin 4) :
    (raise ks s).ports[q] =
      match s.role q with
      | none => s.ports[q]
      | some r => recordKinds (ks &&& receives r) s.ports[q] :=
  getElem_tabulate _ _ _

theorem quiet_raise (ks : NoticeSet) (s : State) : QuietPorts s (raise ks s) := fun q => by
  rw [raise_port]
  split
  · exact .refl _
  · exact joined_recordKinds _ _

theorem quiet_raiseIf (b : Bool) (k : Notice) (s : State) : QuietPorts s (raiseIf b k s) := by
  unfold raiseIf
  split
  · exact quiet_raise _ _
  · exact .refl _

/-- A kind that is raised after the load is pending at every port whose role receives it (R178). -/
theorem raised_raise {k : Notice} {s : State} (h : s.load = none) : Raised k s (raise (Notice.bit k) s) := by
  intro q hq
  have hr : s.role q = some s.config.ports[q].role := by simp [State.role, State.loading, h]
  have hb : Notice.bit k &&& receives s.config.ports[q].role ≠ 0 := by rwa [BitVec.and_comm]
  rw [raise_port, hr]
  simp only [recordKinds, if_neg hb, judgeAttention]
  apply kind_mem_or
  intro h0
  apply hb
  ext i hi
  have h1 := congrArg (fun x : NoticeSet => x[i]) h0
  simp at h1 ⊢
  grind

/-- A kind that is pending stays pending through a quiet event. -/
theorem Raised.mono {k : Notice} {s t u : State} (h : Raised k s t) (hq : QuietPorts t u) : Raised k s u :=
  fun q hr => kind_mem_of_sub (hq q).2 (h q hr)

/-- A kind that is raised on a condition is raised where it holds, as seen from any state with the same configuration
(R178). -/
theorem raised_raiseIf {b : Bool} {k : Notice} {s0 s : State} (hl : s.load = none) (hc : s.config = s0.config)
    (hb : b = true) : Raised k s0 (raiseIf b k s) := by
  subst hb
  intro q hq
  rw [← hc] at hq
  exact raised_raise hl q hq

/-- The floor table raises FLOOR at a change of a status (R83). -/
theorem floorNoticed_floorNotice {s0 s : State} (hl : s.load = s0.load) (hc : s.config = s0.config) :
    FloorNoticed s0 (floorNotice s0 s) := by
  rintro h0 ⟨f, hf⟩
  refine raised_raiseIf (hl.trans h0) hc (List.any_eq_true.mpr ⟨f, List.mem_finRange f, bne_iff_ne.mpr fun e => hf ?_⟩)
  simpa [floorNotice] using e.symm

/-- The lift unit raises LIFT at a change of a group or of a car's directive (R111). -/
theorem liftNoticed_liftNotices {s0 s : State} (hl : s.load = s0.load) (hc : s.config = s0.config) :
    LiftNoticed s0 (liftNotices s0 s) := by
  intro h0 h
  refine raised_raiseIf (by simpa using hl.trans h0) (by simpa using hc) ?_
  simp only [liftNotices, raiseIf_frame, liftsFlag_frame] at h
  simp only [liftChanged, carView, Bool.or_eq_true, List.any_eq_true, List.mem_finRange, true_and, bne_iff_ne, ne_eq,
    Prod.mk.injEq]
  grind

/-- The door unit raises DOOR at a change of a group or of a circuit (R135). -/
theorem doorNoticed_doorNotices {s0 s : State} (hl : s.load = s0.load) (hc : s.config = s0.config) :
    DoorNoticed s0 (doorNotices s0 s) := by
  intro h0 h
  refine raised_raiseIf (by simpa using hl.trans h0) (by simpa using hc) ?_
  simp only [doorNotices, raiseIf_frame, doorsFlag_frame] at h
  simp only [doorChanged, Bool.or_eq_true, List.any_eq_true, List.mem_finRange, true_and, bne_iff_ne, ne_eq]
  have hm (g : Fin 16) (e : s0.resecure.contains g = s.resecure.contains g) : g ∈ s.resecure ↔ g ∈ s0.resecure := by
    rw [← List.contains_iff_mem, ← List.contains_iff_mem, e]
  grind

/-! ## The units are quiet at an event -/

theorem quiet_liftNotices (s0 s : State) : QuietPorts s (liftNotices s0 s) := by
  unfold liftNotices
  exact ((quiet_of_ports (by simp)).trans (quiet_raiseIf _ _ _)).trans (quiet_raiseIf _ _ _)

theorem quiet_liftSettle (s0 s : State) : QuietPorts s (liftSettle s0 s) := by
  unfold liftSettle
  exact (quiet_of_ports (by simp)).trans (quiet_liftNotices _ _)

theorem quiet_doorNotices (s0 s : State) : QuietPorts s (doorNotices s0 s) := by
  unfold doorNotices
  exact ((quiet_of_ports (by simp)).trans (quiet_raiseIf _ _ _)).trans (quiet_raiseIf _ _ _)

theorem quiet_doorSettle (s0 s : State) : QuietPorts s (doorSettle s0 s) := by
  unfold doorSettle
  exact (quiet_of_ports (by simp)).trans (quiet_doorNotices _ _)

theorem quiet_routerNotices (s0 s : State) : QuietPorts s (routerNotices s0 s) := by
  unfold routerNotices
  exact (((quiet_of_ports (by simp)).trans (quiet_raiseIf _ _ _)).trans (quiet_raiseIf _ _ _)).trans
    (quiet_raiseIf _ _ _)

theorem quiet_routerFinish (s0 s : State) : QuietPorts s (routerFinish s0 s) := by
  unfold routerFinish
  exact (quiet_of_ports (by simp)).trans (quiet_routerNotices _ _)

theorem quiet_routerSettle (s0 s : State) : QuietPorts s (routerSettle s0 s) := by
  unfold routerSettle
  exact (quiet_of_ports (by simp)).trans (quiet_routerFinish _ _)

theorem quiet_floorSettle (s0 s : State) : QuietPorts s (floorSettle s0 s) := by
  unfold floorSettle floorNotice regimeNotice
  exact ((quiet_of_ports (by simp)).trans (quiet_raiseIf _ _ _)).trans (quiet_raiseIf _ _ _)

theorem quiet_regimeNotice (s0 s : State) : QuietPorts s (regimeNotice s0 s) := quiet_raiseIf _ _ _

/-- The work of every unit at an event only joins notices to the ports. -/
theorem quiet_settle (s0 s : State) : QuietPorts s (settle s0 s) := by
  unfold settle
  exact (((quiet_floorSettle s0 s).trans (quiet_liftSettle _ _)).trans (quiet_doorSettle _ _)).trans
    (quiet_routerSettle _ _)

theorem quiet_changeLine (i : Fin 64) (l : Line) (s : State) : QuietPorts s (changeLine i l s) := by
  unfold changeLine
  exact ((quiet_of_ports (by simp)).trans (quiet_raiseIf _ _ _)).trans (quiet_raiseIf _ _ _)

theorem quiet_lineEvent (i : Fin 64) (l : Line) (s : State) : QuietPorts s (lineEvent i l s) := by
  unfold lineEvent
  dsimp only
  split
  · exact ((quiet_changeLine i l s).trans (quiet_of_ports (by simp))).trans (quiet_settle _ _)
  · exact quiet_changeLine i l s

/-- An event that folds quiet events over items is quiet. -/
theorem quiet_foldl {α : Type} (f : State → α → State) (h : ∀ s a, QuietPorts s (f s a)) :
    ∀ (l : List α) (s : State), QuietPorts s (l.foldl f s)
  | [], s => .refl s
  | a :: l, s => (h s a).trans (quiet_foldl f h l (f s a))

theorem quiet_setHolder (h : Option (Fin 4)) (s : State) : QuietPorts s (setHolder h s) := by
  unfold setHolder
  exact (quiet_of_ports (by simp)).trans (quiet_raise _ _)

theorem quiet_setSilenced (b : Bool) (s : State) : QuietPorts s (setSilenced b s) := by
  unfold setSilenced
  exact ((quiet_of_ports (by simp)).trans (quiet_routerSettle _ _)).trans (quiet_regimeNotice _ _)

theorem quiet_resetRegime (s : State) : QuietPorts s (resetRegime s) := by
  have h : QuietPorts s (resetEachLine s) := quiet_foldl resetLineOf (fun s i => quiet_changeLine i _ s) _ s
  refine QuietPorts.trans (h.trans (quiet_of_ports ?_)) (quiet_settle _ _)
  simp [clearManual, resetLines]

theorem quiet_writeEnds (n : Fin 136) (x : StoreRec) (s : State) : QuietPorts s (writeEnds n x s) := by
  unfold writeEnds
  exact ((quiet_of_ports (by simp)).trans (quiet_raiseIf _ _ _)).trans (quiet_raise _ _)

/-! ## What a port has put out -/

/-- Every value that spans fields spans at least two (section 11.3). -/
theorem two_le_of_mem_spans {t : Table} {r : Nat} {x : Nat × Nat} (h : x ∈ spans t r) : 2 ≤ x.2 := by
  revert h
  cases t <;> simp only [spans] <;> (try split) <;> simp <;> grind

/-- A value has at least one field. -/
theorem spanAt_pos (t : Table) (r f : Nat) : 0 < spanAt t r f := by
  unfold spanAt
  split
  · next h => exact Nat.lt_of_lt_of_le Nat.zero_lt_two (two_le_of_mem_spans (List.mem_of_find?_eq_some h))
  · exact Nat.one_pos

/-- The reply of a port is one that its next clocks put out (R167, R174, R175, R177). -/
theorem replyBytes_next {s : State} {c : Port} {bytes : List Byte} (h : NextReply s c bytes) :
    replyBytes s c = bytes := by
  unfold NextReply at h
  unfold replyBytes
  cases hr : c.reply with
  | none => rw [hr] at h; exact h.symm
  | dummy => rw [hr] at h; exact h.symm
  | notices taken => rw [hr] at h; exact h.symm
  | status words => rw [hr] at h; exact h.symm
  | stream captured =>
    rw [hr] at h
    cases captured with
    | cons w ws => exact h.symm
    | nil =>
      obtain ⟨hl, rfl⟩ := h
      have hp := spanAt_pos c.table c.record c.field
      simp only [streamWord, nextWords, takenWords, List.headD_eq_head?_getD, List.head?_map, List.head?_range]
      rw [if_neg (by split <;> omega)]
      simp [shown, State.loading, hl, absent]

/-- What a port has put out after its clock edges, by its frame (R167; log entry 5). -/
theorem clockedOut_spec (s : State) (n : Nat) (c : Port) : ClockedOut s c n (clockedOut s n c) := by
  have takes {bytes : List Byte} (h : NextReply s c bytes) :
      putOut (replyBytes s c) (n / 8) c.out = c.out ++ (bytes ++ List.replicate n 0).take (n / 8 - c.out.length) := by
    rw [putOut, replyBytes_next h, List.take_append, List.take_append, List.take_replicate, List.take_replicate]
    congr 3
    omega
  unfold ClockedOut clockedOut
  cases c.frame with
  | none => split <;> simp_all [putOut, resultByte]
  | begun bits => simp [putOut]
  | ignoring => rfl
  | judged bs => intro bytes h; exact takes h
  | implied bs => intro bytes h; exact takes h

/-! ## Timers and slots -/

/-- A timer has run out exactly when it reads 0 ms. -/
@[simp] theorem timerDue_iff (t : Option Nat) : timerDue t = true ↔ t = some 0 := by
  rcases t with _ | _ | n <;> simp [timerDue]

/-- The spread timer has run out exactly when it runs and reads 0 ms. -/
@[simp] theorem spreadDue_iff (x : SpreadTimer) : spreadDue x = true ↔ x = .running 0 := by
  cases x <;> simp [spreadDue]

/-- A slot is in progress exactly when the load is over and the round stands at it (R1, R2). -/
@[simp] theorem inSlot_iff (s : State) (n : Fin 96) : inSlot s n = true ↔ s.load = none ∧ s.scanSlot = some n := by
  simp [inSlot, State.loading]

/-! ## Bits and bytes of a frame -/

/-- The bits of a byte, most significant first, make up the byte again (R167). -/
theorem byte_bits (b : Byte) :
    (BitVec.ofBoolListBE [b.getMsbD 0, b.getMsbD 1, b.getMsbD 2, b.getMsbD 3, b.getMsbD 4, b.getMsbD 5,
      b.getMsbD 6, b.getMsbD 7] : BitVec 8) = b := by
  revert b
  decide +kernel

/-- The bits of bytes on the wire are received as the bytes, and bits short of a byte add none (R167, R169). -/
theorem received_wireBits : ∀ (bs : List Byte) (l : List Bool), l.length < 8 → receivedBytes (wireBits bs ++ l) = bs
  | [], l, h => by
    match l, h with
    | [], _ => rfl
    | [_], _ => rfl
    | [_, _], _ => rfl
    | [_, _, _], _ => rfl
    | [_, _, _, _], _ => rfl
    | [_, _, _, _, _], _ => rfl
    | [_, _, _, _, _, _], _ => rfl
    | [_, _, _, _, _, _, _], _ => rfl
  | b :: bs, l, h => by
    have e : wireBits (b :: bs) ++ l = Byte.bits b ++ (wireBits bs ++ l) := by simp [wireBits]
    rw [e]
    simp only [Byte.bits, List.cons_append, List.nil_append, receivedBytes, received_wireBits bs l h]
    exact congrArg (· :: bs) (byte_bits b)

/-- A port outside a frame reads every command. -/
theorem hears_none {s : State} {p : Fin 4} {i : Instr} (h : s.ports[p].frame = .none) : Hears s p i := by
  unfold Hears; rw [h]; rfl

/-! ## The judgement of a command -/

/-- The state that a command's own rule judges: the port has read the command's bytes (R167, R168). -/
def opened (p : Fin 4) (i : Instr) (s : State) : State := s.setPort p (openFrame (Instr.bytes i) s.ports[p])

/-- A command that is read is judged by its own rule on the opened state, and its result becomes the last result. -/
theorem command_heard {p : Fin 4} {i : Instr} {body : State → State × Result} {s : State} (h : Hears s p i) :
    command p (Instr.bytes i) body s = setResult p (body (opened p i s)).2 (body (opened p i s)).1 := by
  exact if_pos h

/-- A command that is not read changes nothing. -/
theorem command_unheard {p : Fin 4} {i : Instr} {body : State → State × Result} {s : State} (h : ¬ Hears s p i) :
    command p (Instr.bytes i) body s = s := by
  exact if_neg h

/-- Reading a command's bytes keeps the port's last result and its table, pointer, window, mask and locator. -/
theorem openFrame_kept (bytes : List Byte) (c : Port) :
    ContextKept c (openFrame bytes c) ∧ (openFrame bytes c).lastResult = c.lastResult := by
  unfold openFrame endReply ContextKept
  cases c.frame <;> cases c.reply <;>
    simp [recordKinds, judgeAttention] <;> split <;> simp

/-- The opened state differs in the sender's port only. -/
theorem opened_other {p q : Fin 4} (i : Instr) (s : State) (h : q ≠ p) :
    (opened p i s).ports[q] = s.ports[q] := by
  have hv : p.val ≠ q.val := fun e => h (Fin.ext e.symm)
  simp [opened, hv]

/-- A command whose own rule refuses it is refused: nothing but the sender's port changes, and it holds the code. -/
theorem command_refused {p : Fin 4} {i : Instr} {body : State → State × Result} {s : State} {r : Result}
    (h : Hears s p i) (hb : body (opened p i s) = refuse r (opened p i s)) :
    RefusedAs p r s (command p (Instr.bytes i) body s) := by
  rw [command_heard h, hb]
  obtain ⟨k, _⟩ := openFrame_kept (Instr.bytes i) s.ports[p]
  refine ⟨by simp [refuse, setResult, opened, State.setPort], fun q hq => ?_, ?_, ?_⟩
  · have hv : p.val ≠ q.val := fun e => hq (Fin.ext e.symm)
    simp [refuse, setResult, opened, hv]
  · simp [refuse, setResult, opened]
  · simpa [refuse, setResult, opened, ContextKept] using k

/-- During the load a command is refused with STARTING before its own rule (R170). -/
theorem afterLoad_loading {body : State → State × Result} {s : State} (h : s.load ≠ none) :
    afterLoad body s = refuse .starting s := by
  obtain ⟨n, hn⟩ := Option.ne_none_iff_exists'.mp h
  simp [afterLoad, State.loading, hn]

/-- After the load a command is judged by its own rule. -/
theorem afterLoad_ready {body : State → State × Result} {s : State} (h : s.load = none) :
    afterLoad body s = body s := by
  simp [afterLoad, State.loading, h]

/-- A controlled command from another port than the holder's is refused with CONTROL (R48). -/
theorem controlled_other {p : Fin 4} {body : State → State × Result} {s : State} (h : s.load = none)
    (hp : s.regime.holder ≠ some p) : controlled p body s = refuse .control s := by
  simp [controlled, afterLoad_ready h, hp]

/-- A controlled command from the holder is judged by its own rule (R48). -/
theorem controlled_holder {p : Fin 4} {body : State → State × Result} {s : State} (h : s.load = none)
    (hp : s.regime.holder = some p) : controlled p body s = body s := by
  simp [controlled, afterLoad_ready h, hp]

end Sys2Proof.Machine
end

