-- ==== Sys2Proof/Laws/PerInstr.lean ====
section
/-! SUPPORT. Laws stated per step of the table. FrameCodec: the frame that carries a command reads back as that command (section 11.2). -/

set_option Elab.async false

namespace Sys2Proof.Laws

/-- The two bytes of a word give the word back (R194). -/
theorem word_bytes (w : Word) : Word.ofBytes (w.extractLsb' 8 8) (w.extractLsb' 0 8) = w := by
  apply BitVec.eq_of_getLsbD_eq
  intro i hi
  show ((w.extractLsb' 8 8) ++ (w.extractLsb' 0 8)).getLsbD i = w.getLsbD i
  rw [BitVec.getLsbD_append, BitVec.getLsbD_extractLsb', BitVec.getLsbD_extractLsb']
  split
  · simp [*]
  · have h : i - 8 < 8 := by omega
    have h2 : 8 + (i - 8) = i := by omega
    simp [h, h2]

/-- The bytes of words read back as the words (R194). -/
theorem words_bytes : ∀ ws : List Word, bytesToWords (wordBytes ws) = some ws
  | [] => rfl
  | w :: ws => by simp [wordBytes, Word.bytes, bytesToWords, words_bytes ws, word_bytes]

/-- The three words of a floor set give the set back (section 11.1). -/
theorem floors_words (fs : FloorSet) :
    FloorSet.ofWords (fs.extractLsb' 0 16) (fs.extractLsb' 16 16) (fs.extractLsb' 32 16) = fs := by
  apply BitVec.eq_of_getLsbD_eq
  intro i hi
  show ((fs.extractLsb' 32 16) ++ ((fs.extractLsb' 16 16) ++ (fs.extractLsb' 0 16))).getLsbD i = fs.getLsbD i
  rw [BitVec.getLsbD_append, BitVec.getLsbD_append, BitVec.getLsbD_extractLsb', BitVec.getLsbD_extractLsb',
    BitVec.getLsbD_extractLsb']
  split
  · split
    · simp [*]
    · have h : i - 16 < 16 := by omega
      have h2 : 16 + (i - 16) = i := by omega
      simp [h, h2]
  · have h : i - (16 + 16) < 16 := by omega
    have h2 : 32 + (i - (16 + 16)) = i := by omega
    rw [h2]
    simp [h]

/-- A byte that names no command differs from every command byte (section 11.2). -/
theorem readFrame_unknown (p : Fin 4) (b : Byte) (h : namesCommand b = false) :
    readFrame p [b] = some (.unknownCommand p b) := by
  have h' : ∀ x ∈ commandTable, b ≠ x.1 := by
    intro x hx e
    simp only [namesCommand, argCount, Option.isSome_map, Option.isSome_eq_false_iff, Option.isNone_iff_eq_none,
      List.find?_eq_none, beq_iff_eq] at h
    exact h x hx e.symm
  simp [commandTable] at h'
  simp [readFrame, h']

namespace FrameCodec

/-- A well-formed command's frame, read back, is the command. -/
def Statement (i : Instr) : Prop :=
  i.wellFormed = true → ∀ p bs, commandBytes i = some (p, bs) → readFrame p bs = some i

theorem powerOnReset :
    Statement (.powerOnReset) := by
  intro _ p bs e
  simp [commandBytes] at e

theorem startUpLoadEnd :
    Statement (.startUpLoadEnd) := by
  intro _ p bs e
  simp [commandBytes] at e

theorem zoneLineSlotCompletion (line : Fin 64) (code : BitVec 10) :
    Statement (.zoneLineSlotCompletion line code) := by
  intro _ p bs e
  simp [commandBytes] at e

theorem doorSenseSlotCompletion (circuit : Fin 32) (code : BitVec 10) :
    Statement (.doorSenseSlotCompletion circuit code) := by
  intro _ p bs e
  simp [commandBytes] at e

theorem resetExpiry (group : Fin 8) :
    Statement (.resetExpiry group) := by
  intro _ p bs e
  simp [commandBytes] at e

theorem settleExpiry (group : Fin 8) :
    Statement (.settleExpiry group) := by
  intro _ p bs e
  simp [commandBytes] at e

theorem windowExpiry (group : Fin 8) :
    Statement (.windowExpiry group) := by
  intro _ p bs e
  simp [commandBytes] at e

theorem retardExpiry (line : Fin 64) :
    Statement (.retardExpiry line) := by
  intro _ p bs e
  simp [commandBytes] at e

theorem holdTimerExpiry :
    Statement (.holdTimerExpiry) := by
  intro _ p bs e
  simp [commandBytes] at e

theorem silenceInhibitExpiry :
    Statement (.silenceInhibitExpiry) := by
  intro _ p bs e
  simp [commandBytes] at e

theorem spreadExpiry :
    Statement (.spreadExpiry) := by
  intro _ p bs e
  simp [commandBytes] at e

theorem carReportTimeout (car : Fin 12) :
    Statement (.carReportTimeout car) := by
  intro _ p bs e
  simp [commandBytes] at e

theorem staggerExpiry :
    Statement (.staggerExpiry) := by
  intro _ p bs e
  simp [commandBytes] at e

theorem openWaitExpiry (group : Fin 16) :
    Statement (.openWaitExpiry group) := by
  intro _ p bs e
  simp [commandBytes] at e

theorem coolDownExpiry (circuit : Fin 32) :
    Statement (.coolDownExpiry circuit) := by
  intro _ p bs e
  simp [commandBytes] at e

theorem stopTimerExpiry (channel : Fin 4) :
    Statement (.stopTimerExpiry channel) := by
  intro _ p bs e
  simp [commandBytes] at e

theorem playTimerExpiry (channel : Fin 4) :
    Statement (.playTimerExpiry channel) := by
  intro _ p bs e
  simp [commandBytes] at e

theorem chainRefreshExpiry :
    Statement (.chainRefreshExpiry) := by
  intro _ p bs e
  simp [commandBytes] at e

theorem routingShiftComplete :
    Statement (.routingShiftComplete) := by
  intro _ p bs e
  simp [commandBytes] at e

theorem storeWriteCompletion :
    Statement (.storeWriteCompletion) := by
  intro _ p bs e
  simp [commandBytes] at e

theorem enableInputDrop :
    Statement (.enableInputDrop) := by
  intro _ p bs e
  simp [commandBytes] at e

theorem enableInputAssert :
    Statement (.enableInputAssert) := by
  intro _ p bs e
  simp [commandBytes] at e

theorem frameBegin (start : FrameStart) :
    Statement (.frameBegin start) := by
  intro _ p bs e
  simp [commandBytes] at e

theorem frameEnd (port : Fin 4) (edges : Nat) :
    Statement (.frameEnd port edges) := by
  intro _ p bs e
  simp [commandBytes] at e

theorem unknownCommand (port : Fin 4) (byte : Byte) :
    Statement (.unknownCommand port byte) := by
  intro h p bs e
  simp only [commandBytes, Option.some.injEq, Prod.mk.injEq] at e
  obtain ⟨rfl, rfl⟩ := e
  exact readFrame_unknown _ _ (by simpa [Instr.wellFormed] using h)

theorem portReset (hold : PortHold) :
    Statement (.portReset hold) := by
  intro _ p bs e
  simp [commandBytes] at e

theorem readWordShifted (shift : WordShift) :
    Statement (.readWordShifted shift) := by
  intro _ p bs e
  simp [commandBytes] at e

theorem noticesReplyComplete (port : Fin 4) :
    Statement (.noticesReplyComplete port) := by
  intro _ p bs e
  simp [commandBytes] at e

theorem select (port : Fin 4) (table record field : Byte) :
    Statement (.select port table record field) := by
  intro _ p bs e
  simp only [commandBytes, Option.some.injEq, Prod.mk.injEq] at e
  obtain ⟨rfl, rfl⟩ := e
  simp [readFrame]

theorem window (port : Fin 4) (firstRecord lastRecord firstField lastField order : Byte) :
    Statement (.window port firstRecord lastRecord firstField lastField order) := by
  intro _ p bs e
  simp only [commandBytes, Option.some.injEq, Prod.mk.injEq] at e
  obtain ⟨rfl, rfl⟩ := e
  simp [readFrame]

theorem read (port : Fin 4) :
    Statement (.read port) := by
  intro _ p bs e
  simp only [commandBytes, Option.some.injEq, Prod.mk.injEq] at e
  obtain ⟨rfl, rfl⟩ := e
  simp [readFrame, takeNone]

theorem notices (port : Fin 4) :
    Statement (.notices port) := by
  intro _ p bs e
  simp only [commandBytes, Option.some.injEq, Prod.mk.injEq] at e
  obtain ⟨rfl, rfl⟩ := e
  simp [readFrame, takeNone]

theorem mask (port : Fin 4) (kinds : Word) :
    Statement (.mask port kinds) := by
  intro _ p bs e
  simp only [commandBytes, Option.some.injEq, Prod.mk.injEq] at e
  obtain ⟨rfl, rfl⟩ := e
  simp [readFrame, takeTwo, Word.bytes, word_bytes]

theorem status (port : Fin 4) :
    Statement (.status port) := by
  intro _ p bs e
  simp only [commandBytes, Option.some.injEq, Prod.mk.injEq] at e
  obtain ⟨rfl, rfl⟩ := e
  simp [readFrame, takeNone]

theorem takeControl (port : Fin 4) :
    Statement (.takeControl port) := by
  intro _ p bs e
  simp only [commandBytes, Option.some.injEq, Prod.mk.injEq] at e
  obtain ⟨rfl, rfl⟩ := e
  simp [readFrame, takeNone]

theorem releaseControl (port : Fin 4) :
    Statement (.releaseControl port) := by
  intro _ p bs e
  simp only [commandBytes, Option.some.injEq, Prod.mk.injEq] at e
  obtain ⟨rfl, rfl⟩ := e
  simp [readFrame, takeNone]

theorem acknowledge (port : Fin 4) :
    Statement (.acknowledge port) := by
  intro _ p bs e
  simp only [commandBytes, Option.some.injEq, Prod.mk.injEq] at e
  obtain ⟨rfl, rfl⟩ := e
  simp [readFrame, takeNone]

theorem silence (port : Fin 4) :
    Statement (.silence port) := by
  intro _ p bs e
  simp only [commandBytes, Option.some.injEq, Prod.mk.injEq] at e
  obtain ⟨rfl, rfl⟩ := e
  simp [readFrame, takeNone]

theorem resound (port : Fin 4) :
    Statement (.resound port) := by
  intro _ p bs e
  simp only [commandBytes, Option.some.injEq, Prod.mk.injEq] at e
  obtain ⟨rfl, rfl⟩ := e
  simp [readFrame, takeNone]

theorem evacuateAll (port : Fin 4) :
    Statement (.evacuateAll port) := by
  intro _ p bs e
  simp only [commandBytes, Option.some.injEq, Prod.mk.injEq] at e
  obtain ⟨rfl, rfl⟩ := e
  simp [readFrame, takeNone]

theorem spreadHold (port : Fin 4) :
    Statement (.spreadHold port) := by
  intro _ p bs e
  simp only [commandBytes, Option.some.injEq, Prod.mk.injEq] at e
  obtain ⟨rfl, rfl⟩ := e
  simp [readFrame, takeNone]

theorem spreadResume (port : Fin 4) :
    Statement (.spreadResume port) := by
  intro _ p bs e
  simp only [commandBytes, Option.some.injEq, Prod.mk.injEq] at e
  obtain ⟨rfl, rfl⟩ := e
  simp [readFrame, takeNone]

theorem resetRegime (port : Fin 4) :
    Statement (.resetRegime port) := by
  intro _ p bs e
  simp only [commandBytes, Option.some.injEq, Prod.mk.injEq] at e
  obtain ⟨rfl, rfl⟩ := e
  simp [readFrame, takeNone]

theorem isolateLine (port : Fin 4) (line : Byte) :
    Statement (.isolateLine port line) := by
  intro _ p bs e
  simp only [commandBytes, Option.some.injEq, Prod.mk.injEq] at e
  obtain ⟨rfl, rfl⟩ := e
  simp [readFrame, takeOne]

theorem restoreLine (port : Fin 4) (line : Byte) :
    Statement (.restoreLine port line) := by
  intro _ p bs e
  simp only [commandBytes, Option.some.injEq, Prod.mk.injEq] at e
  obtain ⟨rfl, rfl⟩ := e
  simp [readFrame, takeOne]

theorem recallGroup (port : Fin 4) (group : Byte) :
    Statement (.recallGroup port group) := by
  intro _ p bs e
  simp only [commandBytes, Option.some.injEq, Prod.mk.injEq] at e
  obtain ⟨rfl, rfl⟩ := e
  simp [readFrame, takeOne]

theorem releaseGroup (port : Fin 4) (group : Byte) :
    Statement (.releaseGroup port group) := by
  intro _ p bs e
  simp only [commandBytes, Option.some.injEq, Prod.mk.injEq] at e
  obtain ⟨rfl, rfl⟩ := e
  simp [readFrame, takeOne]

theorem carReport (port : Fin 4) (car position motion doors mode : Byte) :
    Statement (.carReport port car position motion doors mode) := by
  intro _ p bs e
  simp only [commandBytes, Option.some.injEq, Prod.mk.injEq] at e
  obtain ⟨rfl, rfl⟩ := e
  simp [readFrame]

theorem doorOverride (port : Fin 4) (group override : Byte) :
    Statement (.doorOverride port group override) := by
  intro _ p bs e
  simp only [commandBytes, Option.some.injEq, Prod.mk.injEq] at e
  obtain ⟨rfl, rfl⟩ := e
  simp [readFrame, takeTwo]

theorem clearDoorFault (port : Fin 4) (circuit : Byte) :
    Statement (.clearDoorFault port circuit) := by
  intro _ p bs e
  simp only [commandBytes, Option.some.injEq, Prod.mk.injEq] at e
  obtain ⟨rfl, rfl⟩ := e
  simp [readFrame, takeOne]

theorem postAnnouncement (port : Fin 4) (cls message : Byte) (floors : FloorSet) (rpt : Byte) :
    Statement (.postAnnouncement port cls message floors rpt) := by
  intro _ p bs e
  simp only [commandBytes, Option.some.injEq, Prod.mk.injEq] at e
  obtain ⟨rfl, rfl⟩ := e
  have h1 := word_bytes (floors.extractLsb' 0 16)
  have h2 := word_bytes (floors.extractLsb' 16 16)
  have h3 := word_bytes (floors.extractLsb' 32 16)
  have h : takePost port (cls :: message :: (wordBytes (FloorSet.words floors) ++ [rpt])) =
      some (.postAnnouncement port cls message floors rpt) := by
    simp only [FloorSet.words, wordBytes, Word.bytes, List.cons_append, List.nil_append, takePost, h1, h2, h3,
      floors_words]
  exact h

theorem cancelAnnouncement (port : Fin 4) (slot message : Byte) :
    Statement (.cancelAnnouncement port slot message) := by
  intro _ p bs e
  simp only [commandBytes, Option.some.injEq, Prod.mk.injEq] at e
  obtain ⟨rfl, rfl⟩ := e
  simp [readFrame, takeTwo]

theorem playEnd (port : Fin 4) (channel message : Byte) :
    Statement (.playEnd port channel message) := by
  intro _ p bs e
  simp only [commandBytes, Option.some.injEq, Prod.mk.injEq] at e
  obtain ⟨rfl, rfl⟩ := e
  simp [readFrame, takeTwo]

theorem storeWrite (port : Fin 4) (kind index expected : Byte) (image : Image) :
    Statement (.storeWrite port kind index expected image) := by
  intro _ p bs e
  simp only [commandBytes, Option.some.injEq, Prod.mk.injEq] at e
  obtain ⟨rfl, rfl⟩ := e
  simp [readFrame, takeStoreWrite, words_bytes]
  rfl

theorem checkConfig (port : Fin 4) :
    Statement (.checkConfig port) := by
  intro _ p bs e
  simp only [commandBytes, Option.some.injEq, Prod.mk.injEq] at e
  obtain ⟨rfl, rfl⟩ := e
  simp [readFrame, takeNone]

theorem restart (port : Fin 4) :
    Statement (.restart port) := by
  intro _ p bs e
  simp only [commandBytes, Option.some.injEq, Prod.mk.injEq] at e
  obtain ⟨rfl, rfl⟩ := e
  simp [readFrame, takeNone]

end FrameCodec

end Sys2Proof.Laws
end

