-- ==== Sys2Proof/Certificates/Slice0/Obligations.lean ====
section
/-! DEFINITION. The statements about this model. In each, `s` is the state before a step and `t` the state after it. A clause `t = { s with … := t.… }` says that every field it does not name is as it was. -/

open Sys2Proof Sys2Proof.Machine

/-! ## The machine -/

/-- A step takes the command at the front of the queue and runs it on the state with the queue's rest. The queue is
the model's own (log entry 1). -/
def Obligations.StepRunsFrontCommand : Prop :=
  ∀ (s : State) (c : Instr) (rest : List Instr),
    step { s with pending := c :: rest } = exec c { s with pending := rest }

/-- On an empty queue one millisecond passes (the model's choice, log entry 2): running timers lose 1 ms, a frozen
spread timer keeps its time, the steps that are queued are those of the timers that have run out, in a free order (log
entry 3), and nothing else changes. -/
def Obligations.EmptyQueueLetsOneMillisecondPass : Prop :=
  ∀ s : State, s.pending = [] → ∃ t : State, step s = .next t ∧
    t = { tickTimers s with free := t.free, pending := t.pending } ∧ t.pending.Perm (dueSteps t) ∧
    t = { s with
      load := t.load, busy := t.busy, lines := t.lines, pgroups := t.pgroups, regime := t.regime, cars := t.cars
      doors := t.doors, dgroups := t.dgroups, stagger := t.stagger, channels := t.channels, chain := t.chain
      free := t.free, pending := t.pending } ∧
    t.load = s.load.map (· - 1) ∧ t.regime.hold = s.regime.hold.map (· - 1) ∧
    t.regime.inhibit = s.regime.inhibit.map (· - 1) ∧ t.stagger = s.stagger.map (· - 1) ∧
    (∀ n, s.regime.spread = .frozen n → t.regime.spread = .frozen n) ∧
    (∀ n, s.regime.spread = .running n → t.regime.spread = .running (n - 1)) ∧
    (∀ i : Fin 64, t.lines[i] = { s.lines[i] with retard := s.lines[i].retard.map (· - 1) }) ∧
    (∀ c : Fin 12, t.cars[c] = { s.cars[c] with timer := s.cars[c].timer.map (· - 1) }) ∧
    (∀ c : Fin 32, t.doors[c] = { s.doors[c] with cool := s.doors[c].cool.map (· - 1) }) ∧
    (.startUpLoadEnd ∈ t.pending ↔ t.load = some 0) ∧ (.spreadExpiry ∈ t.pending ↔ t.regime.spread = .running 0)

/-- A command's effect does not reach the queue. The queue is the model's own (log entry 1). -/
def Obligations.CommandKeepsTheQueue : Prop :=
  ∀ (c : Instr) (s t : State), exec c s = .next t → t.pending = s.pending

/-- The frame that carries a well-formed command reads back as that command, with every argument (section 11.2). -/
def Obligations.FrameReadsBackAsItsCommand : Prop :=
  ∀ (i : Instr) (p : Fin 4) (bs : List Byte),
    i.wellFormed = true → commandBytes i = some (p, bs) → readFrame p bs = some i

/-- A port that does not read command bytes judges no command: after a judgement in the same frame, and while it
ignores clock edges after a reset. That such a command changes nothing is the model's reading (log entry 20). -/
def Obligations.UnheardCommandChangesNothing : Prop :=
  ∀ (i : Instr) (p : Fin 4) (bs : List Byte) (s : State),
    commandBytes i = some (p, bs) → ¬ Hears s p i → exec i s = .next s

/-- During the start-up load every command but SELECT, WINDOW, READ and STATUS is refused with STARTING. -/
def Obligations.LoadRefusesWithStarting : Prop :=
  ∀ (i : Instr) (p : Fin 4) (bs : List Byte) (s : State),
    commandBytes i = some (p, bs) → i.wellFormed = true → answeredInLoad i = false → s.load ≠ none → Hears s p i →
    ∃ t : State, exec i s = .next t ∧ RefusedAs p .starting s t

/-- After the load a command that needs console control is refused with CONTROL from a port that does not hold it, and a
command from a port whose role may not send it is refused with ROLE. -/
def Obligations.RoleAndControlAreJudgedFirst : Prop :=
  (∀ (i : Instr) (p : Fin 4) (bs : List Byte) (s : State),
    commandBytes i = some (p, bs) → needsControl i = true → Ready s p i → s.regime.holder ≠ some p →
    ∃ t : State, exec i s = .next t ∧ RefusedAs p .control s t) ∧
  ∀ (i : Instr) (p : Fin 4) (bs : List Byte) (s : State),
    commandBytes i = some (p, bs) → Ready s p i → roleMaySend s.config.ports[p].role i = false →
    ∃ t : State, exec i s = .next t ∧ RefusedAs p .role s t

/-- A command byte that names no command leaves UNKNOWN, during the load as well. -/
def Obligations.UnknownByteLeavesUnknown : Prop :=
  ∀ (p : Fin 4) (b : Byte) (s : State), namesCommand b = false → Hears s p (.unknownCommand p b) →
    ∃ t : State, exec (.unknownCommand p b) s = .next t ∧ RefusedAs p .unknown s t

/-! ## Standing laws -/

/-- The state after reset meets every standing law. The values of the pins in State.reset are the model's (log
entries 9 and 23), and so is that the zone selectors hold none at once (log entry 16). -/
def Obligations.ResetMeetsTheLaws : Prop :=
  PortInv State.reset ∧ HolderInv State.reset ∧ RegimeInv State.reset ∧ ScannerInv State.reset ∧
    CountInv State.reset ∧ FloorInv State.reset ∧ SpreadInv State.reset ∧ LiftInv State.reset ∧
    DoorInv State.reset ∧ QueueInv State.reset ∧ DemandInv State.reset ∧ OverrideInv State.reset ∧ EntryInv State.reset ∧
    ChannelInv State.reset ∧ StoreInv State.reset ∧ TroubleInv State.reset ∧ LoadInv State.reset ∧
    NoticeInv State.reset ∧ AgeInv State.reset ∧ RouteInv State.reset ∧ AssignInv State.reset

/-- Every step keeps the law of the port contexts: pointer in window, window in table, attention line as judged; and
after the load no port's notice set, and no NOTICES reply, holds a kind that its role does not receive. -/
def Obligations.StepKeepsPortLaw : Prop :=
  (∀ s t : State, PortInv s → step s = .next t → PortInv t) ∧
  (∀ s t : State, LoadInv s → NoticeInv s → step s = .next t → NoticeInv t) ∧
  ∀ r : Role, receives r = match r with
    | .console => 0x7FF
    | .lift => 0x029
    | .voice => 0x189
    | .observer => 0x3FF

/-- Every step keeps the law of the regime record, and console control with a CONSOLE port or with none. -/
def Obligations.StepKeepsRegimeAndHolderLaws : Prop :=
  ∀ s t : State, step s = .next t → (RegimeInv s → RegimeInv t) ∧ (HolderInv s → HolderInv t)

/-- Every step keeps the ranges of the line scanner's fields. -/
def Obligations.StepKeepsScannerLaw : Prop :=
  ∀ s t : State, ScannerInv s → step s = .next t → ScannerInv t

/-- Every step keeps each floor's alarm and trouble counts equal to the counts of its lines. -/
def Obligations.StepKeepsFloorCounts : Prop :=
  ∀ s t : State, LoadInv s → CountInv s → step s = .next t → CountInv t

/-- Every step keeps each floor's ring and status as R72 and R73 give them, and the spread timer stopped, or run out
with its expiry still to come (log entry 27), while every present floor is EVACUATE in ACTIVE. -/
def Obligations.StepKeepsFloorLaw : Prop :=
  ∀ s t : State, step s = .next t → (FloorInv s → FloorInv t) ∧ (SpreadInv s → SpreadInv t)

/-- Every step keeps the triggers, the targets, the FREE cars, and the directive, target, no-stop set and warning of
every other car as the lift rules give them; and at a step that raises or drops a group's trigger, or changes a
triggered group's target, the group's cars move as their tables say. That no automatic cause stands in QUIET is read
from R105 (log entry 10). -/
def Obligations.StepKeepsLiftLaw : Prop :=
  ∀ s t : State, LoadInv s → LiftInv s → step s = .next t →
    LiftInv t ∧
      (s.load = none → t.load = none → ∀ c : Fin 12, s.config.cars[c].present = true → CarMoves s t c)

/-- Every step keeps a circuit energised or cooling only in a SECURED group, and LATCHED_OFF only at trip count 7. -/
def Obligations.StepKeepsDoorLaw : Prop :=
  ∀ s t : State, DoorInv s → step s = .next t → DoorInv t

/-- Every step keeps the re-secure queue equal to the groups that wait, each once, and releases exactly the groups with
demand; and every step keeps FORCE_SECURE to QUIET: outside it no group has that override. The second is said of states
that meet the law of the regime record, which every step keeps: no hold timer runs in QUIET. -/
def Obligations.StepKeepsQueueAndDemandLaws : Prop :=
  (∀ s t : State, LoadInv s → QueueInv s → DemandInv s → step s = .next t → QueueInv t ∧ DemandInv t) ∧
  ∀ s t : State, RegimeInv s → OverrideInv s → step s = .next t → OverrideInv t

/-- Every step keeps the announcement queue's law: reserved slots, no regime entry outside an ACTIVE regime that is not
silenced, and no TENANT entry on a floor under the regime. -/
def Obligations.StepKeepsEntryLaw : Prop :=
  ∀ s t : State, EntryInv s → step s = .next t → EntryInv t

/-- Every step keeps the channels and the entries naming each other, the age order, the routing of every floor and
what the assignment leaves: no entry waits for an IDLE channel, and no more WAITING entries outrank a PLAYING one than
channels are in STOPPING. A step that changes the routing pattern after the load begins a shift of it, or makes one
due. -/
def Obligations.StepKeepsChannelLaw : Prop :=
  (∀ s t : State, ChannelInv s → step s = .next t → ChannelInv t) ∧
  (∀ s t : State, ChannelInv s → AgeInv s → step s = .next t → AgeInv t) ∧
  (∀ s t : State, LoadInv s → ChannelInv s → EntryInv s → AgeInv s → RouteInv s → AssignInv s →
    step s = .next t → RouteInv t ∧ AssignInv t) ∧
  ∀ s t : State, s.load = none → t.load = none → pattern t ≠ pattern s → step s = .next t →
    match s.chain.shift with
    | none => t.chain.shift = some ⟨pattern t, 2⟩
    | some x => t.chain.shift = some x ∧ t.chain.due = true

/-- Every step keeps every write count at or below 32 and every programmed record in range. The range of a LINE link
is the model's reading (log entry 11). -/
def Obligations.StepKeepsStoreLaw : Prop :=
  ∀ s t : State, StoreInv s → step s = .next t → StoreInv t

/-- Every step keeps each trouble summary flag set exactly while its unit has a standing trouble. -/
def Obligations.StepKeepsTroubleFlags : Prop :=
  ∀ s t : State, TroubleInv s → step s = .next t → TroubleInv t

/-- Every step keeps the reset values of every block during the load. That the zone selectors hold none at once, and
that a shift in progress is abandoned, is the model's reading (log entry 16). -/
def Obligations.StepKeepsLoadLaw : Prop :=
  ∀ s t : State, LoadInv s → step s = .next t → LoadInv t

/-! ## Power, load and store -/

/-- A power-on reset: the blocks take their reset values, the 200 ms load begins, a write in progress ends damaged with
its count raised, and the store's contents are kept. That the enable input keeps its level is the model's choice (log
entry 9), and that the routing chain holds none at once its reading (log entry 16). -/
def Obligations.PowerOnResetBeginsTheLoad : Prop :=
  ∀ s : State, ∃ t : State, exec .powerOnReset s = .next t ∧
    t.load = some 200 ∧ LoadInv t ∧ t.busy = none ∧ t.enable = s.enable ∧ t.pending = s.pending ∧
    t.regime.trouble.store = anyStoreTrouble t.store ∧
    (∀ n : Fin 136,
      t.store[n].contents = s.store[n].contents ∧ t.store[n].programmed = s.store[n].programmed ∧
      (t.store[n].damaged = true → t.store[n].substituted = true) ∧
      if s.busy.map (·.record) = some n then
        t.store[n].writes = s.store[n].writes + 1 ∧ t.store[n].damaged = true
      else t.store[n].writes = s.store[n].writes ∧ t.store[n].damaged = s.store[n].damaged) ∧
    ∀ p : Fin 4, ContextReset t.ports[p] ∧ t.ports[p].lastResult = .ok ∧ t.ports[p].conflict = none

/-- The configuration that the load builds meets every configuration check. Each of its records is the stored one,
which for an unprogrammed or damaged record is the factory default, unless the record is substituted; it is the
factory default where the record is. Every damaged record is substituted, and so is the first record that offends in
the stored configuration; where none offends, that configuration is loaded and no other record is substituted. -/
def Obligations.LoadedConfigurationMeetsEveryCheck : Prop :=
  ∀ s : State, ∃ t : State, exec .powerOnReset s = .next t ∧ (∀ n : Fin 136, offends t.config n = false) ∧
    (∀ n : Fin 136, t.store[n].substituted = false → SameRecord t.config (storedConfig t.store) n) ∧
    (∀ n : Fin 136, t.store[n].substituted = true → SameRecord t.config factoryConfig n) ∧
    (∀ n : Fin 136, t.store[n].damaged = true → t.store[n].substituted = true) ∧
    (∀ n : Fin 136, offends (storedConfig t.store) n = true →
      (∀ m : Fin 136, m < n → offends (storedConfig t.store) m = false) → t.store[n].substituted = true) ∧
    ((∀ n : Fin 136, offends (storedConfig t.store) n = false) →
      t.config = storedConfig t.store ∧ ∀ n : Fin 136, t.store[n].substituted = t.store[n].damaged)

/-- The end of the load: each block's start-up state, and STARTED for every port. An end whose time has not come changes
nothing (log entry 2). -/
def Obligations.LoadEndStartsTheBlocks : Prop :=
  (∀ s : State, s.load ≠ some 0 → exec .startUpLoadEnd s = .next s) ∧
  ∀ s : State, s.load = some 0 → LoadInv s → ∃ t : State, exec .startUpLoadEnd s = .next t ∧
    t = { s with
      load := none, scanSlot := some 0, lines := t.lines, lgroups := t.lgroups, cars := t.cars
      dgroups := t.dgroups, resecure := t.resecure, stagger := some 2000, chain := t.chain, ports := t.ports } ∧
    (∀ i : Fin 64, t.lines[i] =
      { lineReset with state := if s.config.lines[i].mode = .unused then .unused else .normal }) ∧
    (∀ g : Fin 3, t.lgroups[g] =
      { lgroupReset with
        target := if s.config.lgroups[g].present then some s.config.lgroups[g].designated else none }) ∧
    (∀ c : Fin 12, t.cars[c] =
      { carReset with
        timer := if s.config.cars[c].present then some (1000 * s.config.system.carTimeout) else none }) ∧
    (∀ g : Fin 16, t.dgroups[g] =
      { dgroupReset with state := if s.config.dgroups[g].present then .resecureWait else .secured }) ∧
    t.resecure = (List.finRange 16).filter (fun g => s.config.dgroups[g].present) ∧
    t.chain = { chainReset with shift := some ⟨patternNone, 2⟩, refresh := some 100 } ∧
    QuietPorts s t ∧ (∀ p : Fin 4, t.ports[p].notices &&& Notice.bit .started ≠ 0) ∧
    (s.regime.trouble.store = true → Raised .trouble s t)

/-- The end of a store write by completion, and what the enable input does to a write and to an idle store. A completion
whose time has not come changes nothing (log entry 2). -/
def Obligations.StoreWriteEnds : Prop :=
  (∀ s : State, s.busy.map (·.remaining) ≠ some 0 → exec .storeWriteCompletion s = .next s) ∧
  (∀ (s : State) (b : StoreBusy), s.busy = some b → b.remaining = 0 → ∃ t : State, exec .storeWriteCompletion s = .next t ∧
    t = { s with store := t.store, busy := none, regime := t.regime, ports := t.ports } ∧
    t.regime = { s.regime with trouble := { s.regime.trouble with store := t.regime.trouble.store } } ∧
    t.store[b.record] =
      { contents := b.image, writes := s.store[b.record].writes + 1, programmed := true, damaged := false
        substituted := s.store[b.record].substituted } ∧
    (∀ n : Fin 136, n ≠ b.record → t.store[n] = s.store[n]) ∧ QuietPorts s t ∧
    (s.load = none → Raised .store s t)) ∧
  (∀ (s : State) (b : StoreBusy), s.busy = some b → ∃ t : State, exec .enableInputDrop s = .next t ∧
    t = { s with enable := false, store := t.store, busy := none, regime := t.regime, ports := t.ports } ∧
    t.regime = { s.regime with trouble := { s.regime.trouble with store := t.regime.trouble.store } } ∧
    t.store[b.record] = { s.store[b.record] with writes := s.store[b.record].writes + 1, damaged := true } ∧
    (∀ n : Fin 136, n ≠ b.record → t.store[n] = s.store[n]) ∧ QuietPorts s t ∧
    (s.load = none → Raised .store s t)) ∧
  (∀ s : State, s.busy = none → exec .enableInputDrop s = .next { s with enable := false }) ∧
  ∀ s : State, exec .enableInputAssert s = .next { s with enable := true }

/-! ## The line scanner -/

/-- The resistance estimate: the formula, its cap, and that an accepted sample of a SUPERVISED line joins it to the
history as the newest entry. -/
def Obligations.EstimateOfACode : Prop :=
  (∀ c : BitVec 10, estimate c = min 65535 (3300 * c.toNat / (1024 - c.toNat))) ∧
    estimate 0 = 0 ∧
    (∀ c d : BitVec 10, c.toNat ≤ d.toNat → estimate c ≤ estimate d) ∧
    (∀ c : BitVec 10, 975 ≤ c.toNat → estimate c = 65535) ∧
    ∀ (s : State) (i : Fin 64) (c : BitVec 10), s.load = none → s.config.lines[i].mode = .supervised →
      s.lines[i].state ≠ .isolated → (groupOf s i).state ≠ .reset → (groupOf s i).state ≠ .settle →
      s.scanSlot = some (lineSlot i) →
      ∃ t : State, exec (.zoneLineSlotCompletion i c) s = .next t ∧
        t.lines[i].history.getLast? = some (estimate c)

/-- A code that is discarded is stored as the last code and changes nothing else. A code that is taken gives the
line's history, raw band, candidate and agree count; no other line changes, and neither do the configuration and the
store. Line i is slot i of the round, and its completion opens slot i + 1. A completion out of its turn changes nothing
(log entry 4). -/
def Obligations.CodeIsDiscardedOrMeasured : Prop :=
  (∀ (s : State) (i : Fin 64) (c : BitVec 10), s.load ≠ none ∨ s.scanSlot ≠ some ⟨i.val, by omega⟩ →
    exec (.zoneLineSlotCompletion i c) s = .next s) ∧
  (∀ (s : State) (i : Fin 64) (c : BitVec 10), s.load = none → s.scanSlot = some (lineSlot i) →
    (s.config.lines[i].mode = .unused ∨ s.lines[i].state = .isolated ∨
      (s.config.lines[i].mode = .supervised ∧
        ((groupOf s i).state = .reset ∨ (groupOf s i).state = .settle))) →
    exec (.zoneLineSlotCompletion i c) s = .next
      { s.setLine i { s.lines[i] with lastCode := c } with scanSlot := some (Fin.ofNat 96 (i.val + 1)) }) ∧
  ∀ (s : State) (i : Fin 64) (c : BitVec 10), s.load = none → s.scanSlot = some (lineSlot i) →
    s.config.lines[i].mode ≠ .unused →
    s.lines[i].state ≠ .isolated →
    (s.config.lines[i].mode = .supervised → (groupOf s i).state ≠ .reset ∧ (groupOf s i).state ≠ .settle) →
    ∃ t : State, exec (.zoneLineSlotCompletion i c) s = .next t ∧
      t.scanSlot = some (Fin.ofNat 96 (i.val + 1)) ∧ (∀ j : Fin 64, j ≠ i → t.lines[j] = s.lines[j]) ∧
      t = { s with
        scanSlot := t.scanSlot, lines := t.lines, pgroups := t.pgroups, regime := t.regime, floors := t.floors
        lgroups := t.lgroups, cars := t.cars, doors := t.doors, dgroups := t.dgroups, resecure := t.resecure
        stagger := t.stagger, entries := t.entries, channels := t.channels, chain := t.chain, ports := t.ports } ∧
      QuietPorts s t ∧
      let l := s.lines[i]
      let b := s.config.bandSets[s.config.lines[i].bandSet]
      let h := if l.history.length < 4 then l.history ++ [estimate c] else l.history.tail ++ [estimate c]
      let a := h.sum / h.length
      let k : Band :=
        if s.config.lines[i].mode = .contact then (if c.toNat < 512 then .alarm else .normal)
        else if a < b.tShort then .short
        else if a < b.tAlarm then .alarm
        else if a ≤ b.tOpen then .normal
        else .openLoop
      t.lines[i].lastCode = c ∧
        t.lines[i].history = (if s.config.lines[i].mode = .contact then l.history else h) ∧
        t.lines[i].rawBand = some k ∧ t.lines[i].candidate = some k ∧
        t.lines[i].agree =
          (if l.candidate = some k then min (l.agree + 1) (if k = .alarm ∨ k = .normal then 3 else 42) else 1)

/-- What a newly qualified band makes of a line. A fire line that is NORMAL or in trouble goes to ACTIVE at ALARM, its
floor's count rises, and the regime leaves QUIET for the hold or for ACTIVE, ends its hold in ACTIVE, or is
unsilenced; at the exit from QUIET the FORCE_SECURE groups revert. A verified SMOKE line outside ACTIVE is in the next
statement. A FLOW line starts its retard, and its end takes the line to ACTIVE. The other bands move a line between
NORMAL and its two trouble states, and stop a retard. A latched ACTIVE line stays; one that is not returns. That an
unstable line raises TROUBLE at a trouble state is the model's reading (log entry 18), and so is that a spread timer
which has run out waits for its expiry (log entry 27). An expiry whose timer has not run out changes nothing (log
entry 2). -/
def Obligations.FireLineEntersActive : Prop :=
  (∀ (s : State) (i : Fin 64) (c : BitVec 10), Qualifies s i c .alarm →
    (s.lines[i].state = .normal ∨ s.lines[i].state = .troubleOpen ∨ s.lines[i].state = .troubleShort) →
    LineKind.fire s.config.lines[i].kind = true →
    (s.config.lines[i].kind ≠ .flow ∨ s.config.system.flowRetard = 0) →
    (s.config.lines[i].verification = false ∨ s.config.lines[i].kind ≠ .smoke ∨
      s.config.lines[i].mode ≠ .supervised ∨ s.regime.state = .active) →
    ∃ t : State, exec (.zoneLineSlotCompletion i c) s = .next t ∧
      t.lines[i].state = .active ∧ t.lines[i].qualified = some .alarm ∧ FireEntry i s t ∧
      (s.lines[i].state ≠ .normal → Raised .trouble s t)) ∧
  (∀ (s : State) (i : Fin 64) (c : BitVec 10), Qualifies s i c .alarm →
    (s.lines[i].state = .normal ∨ s.lines[i].state = .troubleOpen ∨ s.lines[i].state = .troubleShort) →
    s.config.lines[i].kind = .flow → 0 < s.config.system.flowRetard →
    ¬(s.config.lines[i].mode = .supervised ∧ (groupOf s i).state = .window) →
    ∃ t : State, exec (.zoneLineSlotCompletion i c) s = .next t ∧
      t.lines[i].state = .normal ∧ t.lines[i].qualified = some .alarm ∧
      t.lines[i].retard = some (1000 * s.config.system.flowRetard) ∧
      (s.lines[i].state ≠ .normal → Raised .trouble s t) ∧ LineWide i s t) ∧
  (∀ (s : State) (i : Fin 64) (c : BitVec 10) (b : Band), b ≠ .alarm → Qualifies s i c b →
    (s.lines[i].state = .normal ∨ s.lines[i].state = .troubleOpen ∨ s.lines[i].state = .troubleShort) →
    ∃ t : State, exec (.zoneLineSlotCompletion i c) s = .next t ∧
      t.lines[i].qualified = some b ∧ t.lines[i].retard = none ∧
      t.lines[i].state =
        (match b with
          | .openLoop => .troubleOpen
          | .short => .troubleShort
          | _ => .normal) ∧
      (t.lines[i].state ≠ s.lines[i].state → Raised .trouble s t) ∧ LineWide i s t) ∧
  (∀ (s : State) (i : Fin 64) (c : BitVec 10) (b : Band), Qualifies s i c b → s.lines[i].state = .active →
    (LineKind.fire s.config.lines[i].kind = true ∨ b ≠ .normal) →
    ∃ t : State, exec (.zoneLineSlotCompletion i c) s = .next t ∧
      t.lines[i].state = .active ∧ t.lines[i].qualified = some b ∧
      (∀ j : Fin 64, j ≠ i → t.lines[j] = s.lines[j]) ∧
      t = { s with scanSlot := t.scanSlot, lines := t.lines }) ∧
  (∀ (s : State) (i : Fin 64) (c : BitVec 10) (b : Band), Qualifies s i c b →
    s.config.lines[i].kind = .panelTrouble ∨ s.config.lines[i].kind = .doorPosition →
    (s.lines[i].state = .active ∧ b = .normal ∨ s.lines[i].state = .normal ∧ b = .alarm) →
    ∃ t : State, exec (.zoneLineSlotCompletion i c) s = .next t ∧
      t.lines[i].state = (if b = .normal then .normal else .active) ∧ t.lines[i].qualified = some b ∧
      (s.config.lines[i].kind = .panelTrouble → s.lines[i].unstable = false → Raised .trouble s t) ∧
      LineWide i s t) ∧
  (∀ (s : State) (i : Fin 64), s.lines[i].retard ≠ some 0 → exec (.retardExpiry i) s = .next s) ∧
  ∀ (s : State) (i : Fin 64), s.load = none → s.lines[i].retard = some 0 → s.config.lines[i].kind = .flow →
    s.lines[i].state = .normal → ∃ t : State, exec (.retardExpiry i) s = .next t ∧
      t.lines[i] = { s.lines[i] with state := .active, retard := none } ∧ FireEntry i s t ∧
      t.regime.state = .active ∧ t.scanSlot = s.scanSlot

/-- The stages of verification: its start by a SMOKE line, the loop power's return, the confirm window and its end;
and what a band that qualifies in the window makes of a member. That an unstable line raises TROUBLE at a move into or
out of a trouble state is the model's reading (log entry 18), and so is that a spread timer which has run out waits
for its expiry (log entry 27). An expiry whose timer has not run out changes nothing (log entry 2). -/
def Obligations.VerificationRunsItsStages : Prop :=
  (∀ (s : State) (i : Fin 64) (c : BitVec 10), Qualifies s i c .alarm →
    s.config.lines[i].mode = .supervised → s.config.lines[i].kind = .smoke →
    s.config.lines[i].verification = true →
    (s.lines[i].state = .normal ∨ s.lines[i].state = .troubleOpen ∨ s.lines[i].state = .troubleShort) →
    (groupOf s i).state = .idle → s.regime.state ≠ .active →
    ∃ t : State, exec (.zoneLineSlotCompletion i c) s = .next t ∧ t.lines[i].state = .verifying ∧
      t.pgroups = s.pgroups.set s.config.lines[i].powerGroup ⟨.reset, some 4000⟩ ∧
      t.regime.state = s.regime.state ∧
      (∀ f : Fin 48, t.floors[f].alarmCount = s.floors[f].alarmCount) ∧ Raised .alarm s t ∧
      (s.lines[i].state ≠ .normal → Raised .trouble s t)) ∧
  (∀ (s : State) (i : Fin 64) (c : BitVec 10), Qualifies s i c .alarm →
    s.config.lines[i].mode = .supervised → (groupOf s i).state = .window →
    (s.lines[i].state = .normal ∨ s.lines[i].state = .verifying ∨ s.lines[i].state = .troubleOpen ∨
      s.lines[i].state = .troubleShort) →
    ∃ t : State, exec (.zoneLineSlotCompletion i c) s = .next t ∧ t.lines[i].state = .active ∧
      t.lines[i].qualified = some .alarm ∧ t.lines[i].retard = none ∧ FireWide s t ∧
      (∀ j : Fin 64, j ≠ i → t.lines[j] = s.lines[j]) ∧
      (LineKind.fire s.config.lines[i].kind = true → FireEntry i s t) ∧
      (LineKind.fire s.config.lines[i].kind = false → LineWide i s t)) ∧
  (∀ (s : State) (i : Fin 64) (c : BitVec 10) (b : Band), b ≠ .alarm → Qualifies s i c b →
    s.config.lines[i].mode = .supervised → (groupOf s i).state = .window → s.lines[i].state = .verifying →
    ∃ t : State, exec (.zoneLineSlotCompletion i c) s = .next t ∧
      t.lines[i].state =
        (match b with
          | .openLoop => .troubleOpen
          | .short => .troubleShort
          | _ => .verifying) ∧
      t.lines[i].qualified = some b ∧ t.lines[i].clearCount = s.lines[i].clearCount ∧
      (b ≠ .normal → Raised .trouble s t) ∧ LineWide i s t) ∧
  (∀ (s : State) (g : Fin 8), s.pgroups[g].timer ≠ some 0 →
    exec (.resetExpiry g) s = .next s ∧ exec (.settleExpiry g) s = .next s ∧
      exec (.windowExpiry g) s = .next s) ∧
  (∀ (s : State) (g : Fin 8), s.pgroups[g].state = .reset → s.pgroups[g].timer = some 0 →
    ∃ t : State, exec (.resetExpiry g) s = .next t ∧
    t = { s with pgroups := s.pgroups.set g ⟨.settle, some 6000⟩, lines := t.lines } ∧
    ∀ i : Fin 64, t.lines[i] =
      if s.config.lines[i].mode = .supervised ∧ s.config.lines[i].powerGroup = g then
        { s.lines[i] with history := [], rawBand := none, candidate := none, agree := 0, qualified := none }
      else s.lines[i]) ∧
  (∀ (s : State) (g : Fin 8), s.pgroups[g].state = .settle → s.pgroups[g].timer = some 0 →
    exec (.settleExpiry g) s = .next
      { s with pgroups := s.pgroups.set g ⟨.window, some (1000 * s.config.system.confirmWindow)⟩ }) ∧
  ∀ (s : State) (g : Fin 8), s.pgroups[g].state = .window → s.pgroups[g].timer = some 0 →
    ∃ t : State, exec (.windowExpiry g) s = .next t ∧
    t = { s with
      pgroups := s.pgroups.set g ⟨.idle, none⟩, lines := t.lines, floors := t.floors, regime := t.regime
      ports := t.ports } ∧
    t.regime = { s.regime with trouble := { s.regime.trouble with lines := t.regime.trouble.lines } } ∧
    (∀ f : Fin 48, t.floors[f] = { s.floors[f] with troubleCount := t.floors[f].troubleCount }) ∧ QuietPorts s t ∧
    ∀ i : Fin 64,
      let n := min 255 (s.lines[i].clearCount + 1)
      t.lines[i] =
        if s.config.lines[i].mode = .supervised ∧ s.config.lines[i].powerGroup = g ∧
            s.lines[i].state = .verifying then
          { s.lines[i] with
            state := .normal, clearCount := n
            unstable := s.lines[i].unstable || decide (s.config.system.clearLimit ≤ n) }
        else s.lines[i]

/-- ISOLATE LINE and RESTORE LINE: which lines they take, and what becomes of the line. -/
def Obligations.LinesAreIsolatedAndRestored : Prop :=
  (∀ (s : State) (p : Fin 4) (b : Byte), InControl s p (.isolateLine p b) → 64 ≤ b.toNat →
    ∃ t : State, exec (.isolateLine p b) s = .next t ∧ RefusedAs p .range s t) ∧
  (∀ (s : State) (p : Fin 4) (b : Byte), InControl s p (.restoreLine p b) → 64 ≤ b.toNat →
    ∃ t : State, exec (.restoreLine p b) s = .next t ∧ RefusedAs p .range s t) ∧
  (∀ (s : State) (p : Fin 4) (i : Fin 64), InControl s p (.isolateLine p (BitVec.ofNat 8 i.val)) →
    ∃ t : State, exec (.isolateLine p (BitVec.ofNat 8 i.val)) s = .next t ∧
      if s.lines[i].state = .unused ∨ s.lines[i].state = .isolated ∨
          (s.lines[i].state = .active ∧ LineKind.latched s.config.lines[i].kind = true) then
        RefusedAs p .state s t
      else
        t = { s with
          lines := s.lines.set i { s.lines[i] with state := .isolated, retard := none }, pgroups := t.pgroups
          floors := t.floors, regime := t.regime, ports := t.ports } ∧
        t.pgroups =
          (if s.lines[i].state = .verifying then s.pgroups.set s.config.lines[i].powerGroup ⟨.idle, none⟩
            else s.pgroups) ∧
        t.regime = { s.regime with trouble := { s.regime.trouble with lines := t.regime.trouble.lines } } ∧
        (∀ f : Fin 48, t.floors[f] = { s.floors[f] with troubleCount := t.floors[f].troubleCount }) ∧
        Accepted p s t) ∧
  ∀ (s : State) (p : Fin 4) (i : Fin 64), InControl s p (.restoreLine p (BitVec.ofNat 8 i.val)) →
    ∃ t : State, exec (.restoreLine p (BitVec.ofNat 8 i.val)) s = .next t ∧
      if s.lines[i].state ≠ .isolated ∨
          (s.config.lines[i].mode = .supervised ∧
            ((groupOf s i).state = .reset ∨ (groupOf s i).state = .settle)) then
        RefusedAs p .state s t
      else
        t = { s with
          lines := s.lines.set i
            { s.lines[i] with
              state := .normal, history := [], rawBand := none, candidate := none, agree := 0, qualified := none
              clearCount := 0, unstable := false }
          floors := t.floors, regime := t.regime, ports := t.ports } ∧
        t.regime = { s.regime with trouble := { s.regime.trouble with lines := t.regime.trouble.lines } } ∧
        (∀ f : Fin 48, t.floors[f] = { s.floors[f] with troubleCount := t.floors[f].troubleCount }) ∧ Accepted p s t

/-! ## The regime -/

/-- TAKE CONTROL, judged in the order of its rule, and RELEASE CONTROL. -/
def Obligations.ConsoleControlIsTakenAndReleased : Prop :=
  (∀ (s : State) (p : Fin 4), Hears s p (.takeControl p) → ∃ t : State, exec (.takeControl p) s = .next t ∧
    ForRole p .console s t (match s.regime.holder with
      | none =>
        t = { s with regime := { s.regime with holder := some p }, ports := t.ports } ∧ Accepted p s t ∧
          Raised .control s t
      | some h =>
        if h = p then
          t = { s with ports := t.ports } ∧ Answers p .ok s t ∧ ∀ q : Fin 4, q ≠ p → t.ports[q] = s.ports[q]
        else if s.config.ports[h].rank < s.config.ports[p].rank then
          t = { s with regime := { s.regime with holder := some p }, ports := t.ports } ∧ Accepted p s t ∧
            Raised .control s t
        else RefusedAs p .held s t)) ∧
  ∀ (s : State) (p : Fin 4), Hears s p (.releaseControl p) → ∃ t : State, exec (.releaseControl p) s = .next t ∧
    Controlled p s t
      (t = { s with regime := { s.regime with holder := none }, ports := t.ports } ∧ Accepted p s t ∧
        Raised .control s t)

/-- ACKNOWLEDGE: accepted in HOLD_ACK, where it starts the investigate time or, with 0 s, ends the hold in ACTIVE. The
expiry of the acknowledge window no longer exists after it. -/
def Obligations.AcknowledgeStartsTheInvestigation : Prop :=
  ∀ (s : State) (p : Fin 4), InControl s p (.acknowledge p) → ∃ t : State, exec (.acknowledge p) s = .next t ∧
    if s.regime.state = .holdAck then
      Accepted p s t ∧ Raised .regime s t ∧
      if s.config.system.investigateTime = 0 then
        EntersActive s t ∧ t.regime.firstAlarm = s.regime.firstAlarm ∧
          t.regime.evacuateAll = s.regime.evacuateAll ∧ RegimeWide s t ∧
          ∀ g : Fin 16, t.dgroups[g].override = s.dgroups[g].override
      else
        t = { s with
          regime := { s.regime with
            state := .holdInvestigate, hold := some (1000 * s.config.system.investigateTime) }
          ports := t.ports } ∧
        exec .holdTimerExpiry t = .next t
    else RefusedAs p .state s t

/-- The three timers of the regime: the hold ends in ACTIVE, where the silence inhibit and the spread timer start; the
silence inhibit reads none; and a spread expiry grows r by 1, up to 47, and starts its timer again until every floor
evacuates. With a new fire line of the moment of a spread expiry, r, the statuses and the spread timer are the same
whichever is taken first; that the timer waits for its expiry where the fire line comes first is the model's reading
(log entry 27). An expiry whose timer has not run out, or was stopped or restarted, changes nothing (log entry 2). -/
def Obligations.RegimeTimersExpire : Prop :=
  (∀ s : State, s.regime.hold ≠ some 0 → exec .holdTimerExpiry s = .next s) ∧
  (∀ s : State, s.regime.inhibit ≠ some 0 → exec .silenceInhibitExpiry s = .next s) ∧
  (∀ s : State, s.regime.spread ≠ .running 0 → exec .spreadExpiry s = .next s) ∧
  (∀ s : State, s.load = none → s.regime.hold = some 0 → s.regime.state ≠ .active → ∃ t : State,
    exec .holdTimerExpiry s = .next t ∧ EntersActive s t ∧ t.regime.firstAlarm = s.regime.firstAlarm ∧
      t.regime.evacuateAll = s.regime.evacuateAll ∧ RegimeWide s t ∧ QuietPorts s t ∧
      ∀ g : Fin 16, t.dgroups[g].override = s.dgroups[g].override) ∧
  (∀ s : State, s.regime.inhibit = some 0 →
    exec .silenceInhibitExpiry s = .next { s with regime := { s.regime with inhibit := none } }) ∧
  (∀ s : State, s.regime.spread = .running 0 → s.regime.state = .active →
    0 < s.config.system.spreadInterval → ∃ t : State, exec .spreadExpiry s = .next t ∧
      t.regime =
        { s.regime with
          r := min 47 (s.regime.r + 1), spread := t.regime.spread, spreadHeld := t.regime.spreadHeld
          trouble := t.regime.trouble } ∧
      (EveryFloorEvacuates t → t.regime.spread = .stopped ∧ t.regime.spreadHeld = false) ∧
      (¬ EveryFloorEvacuates t →
        t.regime.spread = .running (1000 * s.config.system.spreadInterval) ∧
        t.regime.spreadHeld = s.regime.spreadHeld) ∧
      (s.load = none → t.regime.r ≠ s.regime.r → Raised .regime s t) ∧ RegimeWide s t ∧ QuietPorts s t ∧
      ∀ g : Fin 16, t.dgroups[g].override = s.dgroups[g].override) ∧
  ∀ (s : State) (i : Fin 64) (e : Instr), s.load = none → s.regime.spread = .running 0 → s.regime.state = .active →
    0 < s.config.system.spreadInterval →
    (e = .retardExpiry i ∧ s.lines[i].retard = some 0 ∧ s.config.lines[i].kind = .flow ∧
        s.lines[i].state = .normal ∨
      ∃ c : BitVec 10, e = .zoneLineSlotCompletion i c ∧ Qualifies s i c .alarm ∧
        (s.lines[i].state = .normal ∨ s.lines[i].state = .troubleOpen ∨ s.lines[i].state = .troubleShort) ∧
        LineKind.fire s.config.lines[i].kind = true ∧
        (s.config.lines[i].kind ≠ .flow ∨ s.config.system.flowRetard = 0)) →
    ∃ x y t u : State, exec e s = .next x ∧ exec .spreadExpiry x = .next t ∧
      exec .spreadExpiry s = .next y ∧ exec e y = .next u ∧
      t.lines[i].state = .active ∧ t.lines = u.lines ∧ t.regime.r = min 47 (s.regime.r + 1) ∧
      t.regime.spread = u.regime.spread ∧ t.regime.r = u.regime.r ∧
      (EveryFloorEvacuates t → t.regime.spread = .stopped) ∧
      (¬ EveryFloorEvacuates t → t.regime.spread = .running (1000 * s.config.system.spreadInterval)) ∧
      ∀ f : Fin 48, t.floors[f].status = u.floors[f].status

/-- SILENCE and RESOUND. -/
def Obligations.SilenceAndResound : Prop :=
  (∀ (s : State) (p : Fin 4), InControl s p (.silence p) → ∃ t : State, exec (.silence p) s = .next t ∧
    if s.regime.state ≠ .active then RefusedAs p .state s t
    else if s.regime.inhibit ≠ none then RefusedAs p .tooEarly s t
    else
      Accepted p s t ∧ t.regime.silenced = true ∧ t.regime.r = s.regime.r ∧ t.regime.state = .active ∧
      (s.regime.silenced = true → t = { s with ports := t.ports }) ∧
      (s.regime.silenced = false →
        Raised .regime s t ∧ t.entries[evacuateSlot] = none ∧ t.entries[alertSlot] = none ∧
        OnlyAnnouncements { s with regime := { s.regime with silenced := true } } t)) ∧
  ∀ (s : State) (p : Fin 4), InControl s p (.resound p) → ∃ t : State, exec (.resound p) s = .next t ∧
    if s.regime.state = .active ∧ s.regime.silenced = true then
      Accepted p s t ∧ Raised .regime s t ∧ t.regime.silenced = false ∧ t.regime.r = s.regime.r ∧
      t.regime.inhibit = s.regime.inhibit ∧
      (t.entries[evacuateSlot] = none ↔ ∀ f : Fin 48, s.present f = true → s.floors[f].status ≠ .evacuate) ∧
      (t.entries[alertSlot] = none ↔ ∀ f : Fin 48, s.present f = true → s.floors[f].status ≠ .alert) ∧
      OnlyAnnouncements { s with regime := { s.regime with silenced := false } } t
    else RefusedAs p .state s t

/-- EVACUATE ALL: evacuate-all is set, the regime is ACTIVE, the spread timer stopped, and every present floor
evacuates; at the exit from QUIET the FORCE_SECURE groups revert. -/
def Obligations.EvacuateAllEvacuatesEveryFloor : Prop :=
  ∀ (s : State) (p : Fin 4), InControl s p (.evacuateAll p) → ∃ t : State, exec (.evacuateAll p) s = .next t ∧
    Accepted p s t ∧ t.regime.evacuateAll = true ∧ t.regime.state = .active ∧
    t.regime.firstAlarm = s.regime.firstAlarm ∧ RegimeWide s t ∧ OverridesFollow s t ∧
    (s.regime.evacuateAll = true ∧ s.regime.state = .active → t = { s with ports := t.ports }) ∧
    (¬(s.regime.evacuateAll = true ∧ s.regime.state = .active) →
      EveryFloorEvacuates t ∧ Raised .regime s t ∧
      (s.regime.state = .active →
        t.regime =
          { s.regime with
            evacuateAll := true, spread := .stopped, spreadHeld := false, trouble := t.regime.trouble }) ∧
      (s.regime.state ≠ .active → EntersActive s t))

/-- SPREAD HOLD freezes a running spread timer in ACTIVE unless every present floor is EVACUATE, and SPREAD RESUME
lets it run on from there. That a timer which has run out is not frozen once every floor is EVACUATE is the model's
reading (log entry 27). -/
def Obligations.SpreadIsHeldAndResumed : Prop :=
  (∀ (s : State) (p : Fin 4), InControl s p (.spreadHold p) → ∃ t : State, exec (.spreadHold p) s = .next t ∧
    match s.regime.spread with
    | .running n =>
      if s.regime.state = .active ∧ ¬ EveryFloorEvacuates s then
        t = { s with regime := { s.regime with spread := .frozen n, spreadHeld := true }, ports := t.ports } ∧
          Accepted p s t
      else RefusedAs p .state s t
    | .frozen _ => RefusedAs p .state s t
    | .stopped => RefusedAs p .state s t) ∧
  ∀ (s : State) (p : Fin 4), InControl s p (.spreadResume p) → ∃ t : State, exec (.spreadResume p) s = .next t ∧
    if s.regime.state = .active ∧ s.regime.spreadHeld = true then
      Accepted p s t ∧ Raised .regime s t ∧ t.regime.spreadHeld = false ∧
      t = { s with regime := t.regime, ports := t.ports } ∧
      t.regime = { s.regime with spread := t.regime.spread, spreadHeld := false } ∧
      ∀ n, s.regime.spread = .frozen n → t.regime.spread = .running n
    else RefusedAs p .state s t

/-- RESET REGIME by the regime state: nothing in QUIET, refused in HOLD_ACK, and otherwise the regime record and the
lines return, the statuses fall and the regime's entries go. -/
def Obligations.ResetRegimeReturnsToQuiet : Prop :=
  ∀ (s : State) (p : Fin 4), InControl s p (.resetRegime p) → ∃ t : State, exec (.resetRegime p) s = .next t ∧
    match s.regime.state with
    | .quiet => t = { s with ports := t.ports } ∧ Accepted p s t
    | .holdAck => RefusedAs p .state s t
    | _ =>
      Accepted p s t ∧ Raised .regime s t ∧ FloorNoticed s t ∧ LiftNoticed s t ∧ DoorNoticed s t ∧
      t = { s with
        lines := t.lines, pgroups := t.pgroups, regime := t.regime, floors := t.floors, lgroups := t.lgroups
        cars := t.cars, doors := t.doors, dgroups := t.dgroups, resecure := t.resecure, stagger := t.stagger
        entries := t.entries, channels := t.channels, chain := t.chain, ports := t.ports } ∧
      (∀ g : Fin 16, t.dgroups[g].override = s.dgroups[g].override) ∧
      t.regime =
        { s.regime with
          state := .quiet, firstAlarm := none, hold := none, silenced := false, inhibit := none, r := 0
          spread := .stopped, spreadHeld := false, evacuateAll := false, trouble := t.regime.trouble } ∧
      (∀ f : Fin 48, s.present f = true → t.floors[f].status = .none) ∧
      (∀ g : Fin 8, t.pgroups[g] = ⟨.idle, none⟩) ∧
      (∀ g : Fin 3, t.lgroups[g].manual = false ∧ t.lgroups[g].triggered = false) ∧
      t.entries[evacuateSlot] = none ∧ t.entries[alertSlot] = none ∧
      ∀ i : Fin 64,
        t.lines[i] =
          match s.lines[i].state with
          | .active =>
            if LineKind.latched s.config.lines[i].kind then
              { s.lines[i] with
                state := .normal, history := [], rawBand := none, candidate := none, agree := 0, qualified := none }
            else s.lines[i]
          | .verifying =>
            { s.lines[i] with
              state := .normal, history := [], rawBand := none, candidate := none, agree := 0, qualified := none }
          | .normal =>
            if s.lines[i].retard = none then s.lines[i]
            else { s.lines[i] with retard := none, candidate := none, agree := 0, qualified := none }
          | _ => s.lines[i]

/-! ## Lifts -/

/-- CAR REPORT from a LIFT port. It is refused for an absent or unknown car, another LIFT port, and an unknown motion,
doors or service mode value. An accepted report is stored with a floor outside the served set as UNKNOWN, the timer
restarts, and the car is judged by its recall state. -/
def Obligations.CarReportIsJudged : Prop :=
  (∀ (s : State) (p : Fin 4) (c pos m d v : Byte), Ready s p (.carReport p c pos m d v) → HasRole s p .lift →
    ∃ t : State, exec (.carReport p c pos m d v) s = .next t ∧
      match argIndex 12 c with
      | none => RefusedAs p .range s t
      | some k =>
        if s.config.cars[k].present = false then RefusedAs p .range s t
        else if s.config.lgroups[s.config.cars[k].group].reportPort ≠ p then RefusedAs p .role s t
        else if 3 ≤ m.toNat ∨ 3 ≤ d.toNat ∨ 4 ≤ v.toNat then RefusedAs p .range s t
        else Accepted p s t) ∧
  ∀ (s : State) (p : Fin 4) (c : Fin 12) (pos : Byte) (m : Motion) (d : CarDoors) (v : ServiceMode) (i : Instr),
    i = .carReport p (BitVec.ofNat 8 c.val) pos (BitVec.ofNat 8 (codeIn Motion.list m))
      (BitVec.ofNat 8 (codeIn CarDoors.list d)) (BitVec.ofNat 8 (codeIn ServiceMode.list v)) →
    Ready s p i → HasRole s p .lift → s.config.cars[c].present = true →
    s.config.lgroups[s.config.cars[c].group].reportPort = p →
    ∃ t : State, exec i s = .next t ∧
      Accepted p s t ∧ LiftNoticed s t ∧ t = { s with cars := t.cars, regime := t.regime, ports := t.ports } ∧
      t.regime = { s.regime with trouble := { s.regime.trouble with lifts := t.regime.trouble.lifts } } ∧
      (∀ j : Fin 12, j ≠ c → t.cars[j] = s.cars[j]) ∧
      let x := t.cars[c]
      let target := s.lgroups[s.config.cars[c].group].target
      let floor : Option (Fin 48) :=
        if h : pos.toNat < 48 then (if s.config.cars[c].served.has pos.toNat then some ⟨pos.toNat, h⟩ else none)
        else none
      x.report = some ⟨floor, m, d, v⟩ ∧ x.reported = true ∧ x.lapsed = false ∧
        x.timer = some (1000 * s.config.system.carTimeout) ∧ x.noStop = s.cars[c].noStop ∧
        x.warning = s.cars[c].warning ∧
        if s.cars[c].phase = .free then x.phase = .free ∧ x.directive = s.cars[c].directive
        else if v = .firefighter ∨ v = .outOfService then
          x.phase = .exempt ∧ x.directive = .none ∧ x.target = none
        else if floor ≠ none ∧ floor = target ∧ (s.cars[c].phase = .parked ∨ (m = .stopped ∧ d = .opened)) then
          x.phase = .parked ∧ x.directive = .park ∧ x.target = target
        else x.phase = .recalling ∧ x.directive = .recall ∧ x.target = target

/-- A report timeout: reported is cleared, report lapsed set, and the car is LOST unless it is FREE. An expiry whose
timer has not run out changes nothing (log entry 2). -/
def Obligations.ReportTimeoutLosesTheCar : Prop :=
  (∀ (s : State) (c : Fin 12), s.cars[c].timer ≠ some 0 → exec (.carReportTimeout c) s = .next s) ∧
  ∀ (s : State) (c : Fin 12), s.cars[c].timer = some 0 → ∃ t : State, exec (.carReportTimeout c) s = .next t ∧
    t = { s with
      cars := s.cars.set c
        { s.cars[c] with
          timer := none, reported := false, lapsed := true
          phase := if s.cars[c].phase = .free then .free else .lost }
      regime := t.regime, ports := t.ports } ∧
    t.regime = { s.regime with trouble := { s.regime.trouble with lifts := t.regime.trouble.lifts } } ∧
    QuietPorts s t ∧ LiftNoticed s t ∧
    (s.load = none → s.config.cars[c].present = true → s.cars[c].lapsed = false → Raised .trouble s t)

/-- RECALL GROUP and RELEASE GROUP on a group number: RANGE for an absent or unknown group, STATE for a release while
an automatic cause stands, and otherwise the manual recall flag with the trigger judged anew, and the cars of a group
that it raises or drops moved, with their no-stop sets and warnings. That no automatic cause stands in QUIET is read
from R105 (log entry 10). -/
def Obligations.ManualRecallIsSetAndCleared : Prop :=
  (∀ (s : State) (p : Fin 4) (b : Byte), InControl s p (.recallGroup p b) → ∃ t : State, exec (.recallGroup p b) s = .next t ∧
    match argIndex 3 b with
    | none => RefusedAs p .range s t
    | some g =>
      if s.config.lgroups[g].present = false then RefusedAs p .range s t
      else
        Accepted p s t ∧ t.lgroups[g].manual = true ∧
        t = { s with lgroups := t.lgroups, cars := t.cars, regime := t.regime, ports := t.ports } ∧
        t.regime = { s.regime with trouble := { s.regime.trouble with lifts := t.regime.trouble.lifts } } ∧
        LiftNoticed s t ∧
        (s.lgroups[g].manual = true → t = { s with ports := t.ports }) ∧
        (s.lgroups[g].manual = false →
          (∀ k : Fin 3, t.lgroups[k].triggered = trigger t k ∧ t.lgroups[k].target = targetOf s k) ∧
          (s.regime.state ≠ .quiet → t.lgroups[g].triggered = true) ∧
          ∀ c : Fin 12, s.config.cars[c].present = true →
            CarMoves s t c ∧ (t.cars[c].phase ≠ .free → NoStopGood t c))) ∧
  ∀ (s : State) (p : Fin 4) (b : Byte), InControl s p (.releaseGroup p b) → ∃ t : State, exec (.releaseGroup p b) s = .next t ∧
    match argIndex 3 b with
    | none => RefusedAs p .range s t
    | some g =>
      if s.config.lgroups[g].present = false then RefusedAs p .range s t
      else if automaticCause s g = true then RefusedAs p .state s t
      else
        Accepted p s t ∧ t.lgroups[g].manual = false ∧
        t = { s with lgroups := t.lgroups, cars := t.cars, regime := t.regime, ports := t.ports } ∧
        t.regime = { s.regime with trouble := { s.regime.trouble with lifts := t.regime.trouble.lifts } } ∧
        LiftNoticed s t ∧
        (s.lgroups[g].manual = false → t = { s with ports := t.ports }) ∧
        (s.lgroups[g].manual = true →
          (∀ k : Fin 3, t.lgroups[k].triggered = trigger t k ∧ t.lgroups[k].target = targetOf s k) ∧
          t.lgroups[g].triggered = false ∧
          ∀ c : Fin 12, s.config.cars[c].present = true →
            CarMoves s t c ∧ (t.cars[c].phase ≠ .free → NoStopGood t c))

/-! ## Doors -/

/-- A door reading is discarded unless its circuit is present and ON; one that is taken is the circuit's current, and
the second OVER reading in a row trips the circuit, to LATCHED_OFF at the seventh trip. Any other reading becomes the
supervision candidate or raises its count; the 42nd OPEN in a row sets open-fault, and the third NORMAL clears it.
Circuit c is slot 64 + c of the round, and its completion opens the next slot, slot 0 after the last. A completion out
of its turn changes nothing (log entry 4). -/
def Obligations.DoorReadingIsTakenOrDiscarded : Prop :=
  (∀ (s : State) (c : Fin 32) (code : BitVec 10), s.load ≠ none ∨ s.scanSlot ≠ some ⟨64 + c.val, by omega⟩ →
    exec (.doorSenseSlotCompletion c code) s = .next s) ∧
  (∀ (s : State) (c : Fin 32) (code : BitVec 10), s.load = none → s.scanSlot = some (doorSlot c) →
    s.config.doors[c].present = false ∨ s.doors[c].state ≠ .on →
    exec (.doorSenseSlotCompletion c code) s = .next { s with scanSlot := some (Fin.ofNat 96 (65 + c.val)) }) ∧
  ∀ (s : State) (c : Fin 32) (code : BitVec 10), s.load = none → s.scanSlot = some (doorSlot c) →
    s.config.doors[c].present = true →
    s.doors[c].state = .on → ∃ t : State, exec (.doorSenseSlotCompletion c code) s = .next t ∧
      t = { s with
        scanSlot := some (Fin.ofNat 96 (65 + c.val)), doors := t.doors, regime := t.regime, ports := t.ports } ∧
      t.regime = { s.regime with trouble := { s.regime.trouble with doors := t.regime.trouble.doors } } ∧
      (∀ j : Fin 32, j ≠ c → t.doors[j] = s.doors[j]) ∧ QuietPorts s t ∧
      DoorNoticed s t ∧
      let d := s.doors[c]
      let i := code.toNat * 1000 / 512
      let k : CurrentClass :=
        if s.config.system.overCurrent ≤ i then .over
        else if i < s.config.system.openCurrent then .openCircuit
        else .normal
      let q := match k with
        | .over => 2
        | .openCircuit => 42
        | .normal => 3
      (k = .over → d.candidate = some .over → d.count = 1 → d.trips < 7 →
        t.doors[c] =
          { d with
            current := i, candidate := none, count := 0, trips := d.trips + 1
            state := if d.trips = 6 then .latchedOff else .tripped
            cool := if d.trips = 6 then none else some 5000 } ∧
        (d.trips = 6 → Raised .trouble s t)) ∧
      (¬(k = .over ∧ d.candidate = some .over ∧ d.count = 1) →
        t.doors[c] =
          { d with
            current := i, candidate := some k
            count := if d.candidate = some k then min (d.count + 1) q else 1
            openFault :=
              if k = .openCircuit ∧ d.candidate = some .openCircuit ∧ d.count = 41 then true
              else if k = .normal ∧ d.candidate = some .normal ∧ d.count = 2 then false
              else d.openFault } ∧
        (t.doors[c].openFault ≠ d.openFault → Raised .trouble s t))

/-- The door unit's timers: the head of the queue is secured when its doors read closed and rejoins the tail otherwise;
the open-wait sets not-secured; the cool-down puts the circuit back ON. An expiry whose timer has not run out changes
nothing (log entry 2). -/
def Obligations.DoorTimersExpire : Prop :=
  (∀ s : State, s.stagger ≠ some 0 → exec .staggerExpiry s = .next s) ∧
  (∀ (s : State) (g : Fin 16), s.dgroups[g].openWait ≠ some 0 → exec (.openWaitExpiry g) s = .next s) ∧
  (∀ (s : State) (c : Fin 32), s.doors[c].cool ≠ some 0 → exec (.coolDownExpiry c) s = .next s) ∧
  (∀ s : State, s.stagger = some 0 → s.resecure = [] →
    exec .staggerExpiry s = .next { s with stagger := none }) ∧
  (∀ (s : State) (g : Fin 16) (rest : List (Fin 16)), s.stagger = some 0 → s.resecure = g :: rest →
    ∃ t : State, exec .staggerExpiry s = .next t ∧
      t = { s with
        doors := t.doors, dgroups := t.dgroups, resecure := t.resecure, stagger := some 2000, regime := t.regime
        ports := t.ports } ∧
      t.regime = { s.regime with trouble := { s.regime.trouble with doors := t.regime.trouble.doors } } ∧
      (∀ k : Fin 16, k ≠ g → t.dgroups[k] = s.dgroups[k]) ∧ QuietPorts s t ∧ DoorNoticed s t ∧
      if (∀ c : Fin 32, memberOf s g c = true → readsClosed s c = true) ∨ s.dgroups[g].override = .forceSecure then
        t.resecure = rest ∧ t.dgroups[g].state = .secured ∧ t.dgroups[g].openWait = none ∧
        t.dgroups[g].notSecured = false ∧
        ∀ c : Fin 32, t.doors[c] =
          if memberOf s g c = true ∧ s.doors[c].state = .off then { s.doors[c] with state := .on } else s.doors[c]
      else
        t.resecure = rest ++ [g] ∧ t.dgroups[g].state = s.dgroups[g].state ∧ t.doors = s.doors ∧
        t.dgroups[g].openWait =
          (match s.dgroups[g].openWait with
            | some n => some n
            | none => if s.dgroups[g].notSecured = true then none else some 30000)) ∧
  (∀ (s : State) (g : Fin 16), s.dgroups[g].openWait = some 0 → ∃ t : State, exec (.openWaitExpiry g) s = .next t ∧
    t = { s with
      dgroups := s.dgroups.set g { s.dgroups[g] with openWait := none, notSecured := true }, regime := t.regime
      ports := t.ports } ∧
    t.regime = { s.regime with trouble := { s.regime.trouble with doors := t.regime.trouble.doors } } ∧
    QuietPorts s t ∧ DoorNoticed s t ∧
    (s.load = none → s.config.dgroups[g].present = true → s.dgroups[g].notSecured = false →
      Raised .trouble s t)) ∧
  ∀ (s : State) (c : Fin 32), s.doors[c].cool = some 0 → ∃ t : State, exec (.coolDownExpiry c) s = .next t ∧
    t = { s with
      doors := s.doors.set c { s.doors[c] with state := .on, cool := none }, regime := t.regime, ports := t.ports } ∧
    t.regime = { s.regime with trouble := { s.regime.trouble with doors := t.regime.trouble.doors } } ∧
    QuietPorts s t ∧ DoorNoticed s t

/-- DOOR OVERRIDE: RANGE and STATE as the rule gives them; otherwise the group's override is the one named, and a group
whose demand changes is released or queued; back in AUTO the demand is that of its policy. -/
def Obligations.DoorOverrideIsSet : Prop :=
  ∀ (s : State) (p : Fin 4) (b o : Byte), InControl s p (.doorOverride p b o) → ∃ t : State, exec (.doorOverride p b o) s = .next t ∧
    match argIndex 16 b, argIn Override.list o with
    | some g, some x =>
      if s.config.dgroups[g].present = false then RefusedAs p .range s t
      else if x = .forceSecure ∧ s.regime.state ≠ .quiet then RefusedAs p .state s t
      else
        Accepted p s t ∧ t.dgroups[g].override = x ∧
        t = { s with
          doors := t.doors, dgroups := t.dgroups, resecure := t.resecure, stagger := t.stagger, regime := t.regime
          ports := t.ports } ∧
        t.regime = { s.regime with trouble := { s.regime.trouble with doors := t.regime.trouble.doors } } ∧
        (∀ k : Fin 16, k ≠ g → t.dgroups[k] = s.dgroups[k]) ∧
        (s.dgroups[g].override = x → t = { s with ports := t.ports }) ∧
        (s.dgroups[g].override ≠ x → Raised .door s t ∧
          (x = .forceRelease →
            t.dgroups[g].state = .released ∧
            (s.dgroups[g].state ≠ .released → g ∉ t.resecure ∧
              ∀ c : Fin 32, memberOf s g c = true → t.doors[c].state = .off ∨ t.doors[c].state = .latchedOff)) ∧
          (x = .forceSecure → s.dgroups[g].state = .released →
            t.dgroups[g].state = .resecureWait ∧ t.resecure = s.resecure ++ [g]) ∧
          (x = .auto → AutoDemand s g →
            t.dgroups[g].state = .released ∧
            (s.dgroups[g].state = .released → t.resecure = s.resecure ∧ t.doors = s.doors) ∧
            (s.dgroups[g].state ≠ .released → g ∉ t.resecure ∧
              ∀ c : Fin 32, memberOf s g c = true → t.doors[c].state = .off ∨ t.doors[c].state = .latchedOff)) ∧
          (x = .auto → ¬ AutoDemand s g → t.doors = s.doors ∧
            if s.dgroups[g].state = .released then
              t.dgroups[g].state = .resecureWait ∧ t.resecure = s.resecure ++ [g] ∧
                t.stagger = some (s.stagger.getD 2000)
            else
              t.dgroups[g].state = s.dgroups[g].state ∧ t.resecure = s.resecure ∧ t.stagger = s.stagger))
    | _, _ => RefusedAs p .range s t

/-- CLEAR DOOR FAULT, judged in the order of its rule; an accepted one clears the circuit's history, and LATCHED_OFF
goes to ON or OFF by its group. -/
def Obligations.DoorFaultIsCleared : Prop :=
  ∀ (s : State) (p : Fin 4) (b : Byte), Hears s p (.clearDoorFault p b) → ∃ t : State, exec (.clearDoorFault p b) s = .next t ∧
    Controlled p s t (match argIndex 32 b with
      | none => RefusedAs p .range s t
      | some c =>
        if s.config.doors[c].present = false then RefusedAs p .range s t
        else
          Accepted p s t ∧
          t = { s with
            doors := s.doors.set c
              { s.doors[c] with
                trips := 0, openFault := false, candidate := none, count := 0
                state :=
                  if s.doors[c].state = .latchedOff then
                    (if s.dgroups[s.config.doors[c].group].state = .secured then .on else .off)
                  else s.doors[c].state }
            regime := t.regime, ports := t.ports } ∧
          t.regime = { s.regime with trouble := { s.regime.trouble with doors := t.regime.trouble.doors } } ∧
          latchTrouble t c = false ∧ openTrouble t c = false ∧
          (latchTrouble s c = true ∨ openTrouble s c = true → Raised .trouble s t) ∧
          (s.doors[c].trips ≠ 0 ∨ s.doors[c].state = .latchedOff → Raised .door s t))

/-! ## Announcements -/

/-- An accepted POST ANNOUNCEMENT creates an entry, the youngest, with the floors that it may reach: in the lowest
free slot, or for a CONSOLE post into a full queue in the slot of the youngest TENANT entry, which is removed. Where
nothing waits, the entry goes to the lowest-numbered IDLE channel; where no channel is IDLE or STOPPING, a CONSOLE
entry waits, and the channel of the lowest-ranked PLAYING entry that it outranks stops. -/
def Obligations.PostCreatesAnEntry : Prop :=
  (∀ (s : State) (p : Fin 4) (k : AnnClass) (m : Byte) (fs : FloorSet) (r : Byte) (sl : Fin 16),
    Ready s p (.postAnnouncement p (BitVec.ofNat 8 (codeIn AnnClass.list k)) m fs r) → (s.config.ports[p].role = .console ∨ s.config.ports[p].role = .voice) →
    (k = .tenant ∧ m ≠ 0 ∨ k = .console ∧ s.regime.holder = some p) → r.toNat ≤ 15 → postedCount s < 14 →
    sl.val < 14 → s.entries[sl] = none → (∀ j : Fin 16, j < sl → s.entries[j] ≠ none) →
    keptFloors s k fs ≠ 0 →
    ∃ t : State, exec (.postAnnouncement p (BitVec.ofNat 8 (codeIn AnnClass.list k)) m fs r) s = .next t ∧
      Accepted p s t ∧ Raised .queue s t ∧ OnlyAnnouncements s t ∧
      (∃ e : Entry, t.entries[sl] = some e ∧ e.cls = k ∧ e.message = m ∧ e.floors = keptFloors s k fs ∧
        e.rpt = r.toNat ∧ e.plays = 0 ∧ e.origin = some p ∧ e.age = entryCount s) ∧
      ∀ j : Fin 16, j ≠ sl → (t.entries[j] = none ↔ s.entries[j] = none)) ∧
  (∀ (s : State) (p : Fin 4) (m : Byte) (fs : FloorSet) (r : Byte) (sl : Fin 16) (x : Entry),
    Ready s p (.postAnnouncement p 0 m fs r) → (s.config.ports[p].role = .console ∨ s.config.ports[p].role = .voice) →
    s.regime.holder = some p → r.toNat ≤ 15 → (∀ j : Fin 16, j.val < 14 → s.entries[j] ≠ none) →
    14 ≤ postedCount s → s.entries[sl] = some x → x.cls = .tenant → sl.val < 14 →
    (∀ j : Fin 16, j ≠ sl → ∀ e ∈ s.entries[j], e.cls = .tenant → e.age < x.age) →
    keptFloors s .console fs ≠ 0 →
    ∃ t : State, exec (.postAnnouncement p 0 m fs r) s = .next t ∧
      Accepted p s t ∧ Raised .queue s t ∧ OnlyAnnouncements s t ∧
      (∃ e : Entry, t.entries[sl] = some e ∧ e.cls = .console ∧ e.message = m ∧
        e.floors = keptFloors s .console fs ∧ e.rpt = r.toNat ∧ e.plays = 0 ∧ e.origin = some p ∧
        e.age = entryCount s - 1) ∧
      ∀ j : Fin 16, j ≠ sl → (t.entries[j] = none ↔ s.entries[j] = none)) ∧
  (∀ (s : State) (p : Fin 4) (k : AnnClass) (m : Byte) (fs : FloorSet) (r : Byte) (sl : Fin 16) (c : Fin 4)
    (i : Instr),
    i = .postAnnouncement p (BitVec.ofNat 8 (codeIn AnnClass.list k)) m fs r →
    Ready s p i → (s.config.ports[p].role = .console ∨ s.config.ports[p].role = .voice) →
    (k = .tenant ∧ m ≠ 0 ∨ k = .console ∧ s.regime.holder = some p) → r.toNat ≤ 15 → postedCount s < 14 →
    sl.val < 14 → s.entries[sl] = none → (∀ j : Fin 16, j < sl → s.entries[j] ≠ none) →
    keptFloors s k fs ≠ 0 → ChannelInv s → (∀ (j : Fin 16) (e : Entry), ¬ Waits s j e) →
    s.channels[c].state = .idle → (∀ d : Fin 4, d < c → s.channels[d].state ≠ .idle) →
    ∃ t : State, exec i s = .next t ∧ (∃ e : Entry, t.entries[sl] = some e ∧ e.channel = some c) ∧
      t.channels =
        s.channels.set c
          { s.channels[c] with
            state := .playing, entry := some sl, message := some m
            play := some (1000 * s.config.system.playTimeout), stop := none }) ∧
  ∀ (s : State) (p : Fin 4) (m : Byte) (fs : FloorSet) (r : Byte) (sl : Fin 16) (c : Fin 4) (e : Entry)
    (i : Instr),
    i = .postAnnouncement p 0 m fs r →
    Ready s p i → (s.config.ports[p].role = .console ∨ s.config.ports[p].role = .voice) →
    s.regime.holder = some p → r.toNat ≤ 15 → postedCount s < 14 →
    sl.val < 14 → s.entries[sl] = none → (∀ j : Fin 16, j < sl → s.entries[j] ≠ none) →
    keptFloors s .console fs ≠ 0 → ChannelInv s → (∀ (j : Fin 16) (x : Entry), ¬ Waits s j x) →
    (∀ d : Fin 4, s.channels[d].state = .playing) → Plays s c e → e.cls ≠ .console →
    (∀ (d : Fin 4) (x : Entry), d ≠ c → Plays s d x → RanksOver x e) →
    ∃ t : State, exec i s = .next t ∧
      t.channels =
        s.channels.set c
          { s.channels[c] with state := .stopping, entry := none, play := none, stop := some 5000 } ∧
      (∃ x : Entry, t.entries[sl] = some x ∧ x.channel = none) ∧
      ∀ j : Fin 16, s.entries[j] = some e → t.entries[j] = some { e with channel := none }

/-- What POST ANNOUNCEMENT refuses, in the order of its rule. -/
def Obligations.PostIsRefused : Prop :=
  ∀ (s : State) (p : Fin 4) (k m : Byte) (fs : FloorSet) (r : Byte), Ready s p (.postAnnouncement p k m fs r) →
    (s.config.ports[p].role = .console ∨ s.config.ports[p].role = .voice) →
    ∃ t : State, exec (.postAnnouncement p k m fs r) s = .next t ∧
      let present := FloorSet.ofPred fun f => s.present f && fs.has f
      let free := FloorSet.ofPred fun f => s.present f && fs.has f && s.floors[f].status == .none
      if (k ≠ 0 ∧ k ≠ 3) ∨ (k = 3 ∧ m = 0) ∨ 15 < r.toNat then RefusedAs p .range s t
      else if k = 0 ∧ s.regime.holder ≠ some p then RefusedAs p .control s t
      else if present = 0 then RefusedAs p .range s t
      else if k = 3 ∧ free = 0 then RefusedAs p .suppressed s t
      else if 14 ≤ postedCount s ∧
          (k = 3 ∨ ∀ sl : Fin 16, ∀ e ∈ s.entries[sl], e.cls ≠ .tenant) then RefusedAs p .full s t
      else Accepted p s t

/-- CANCEL ANNOUNCEMENT, in the order of its rule; an accepted cancel removes the entry, and its channel goes to
STOPPING. -/
def Obligations.CancelRemovesTheEntry : Prop :=
  ∀ (s : State) (p : Fin 4) (b m : Byte), Ready s p (.cancelAnnouncement p b m) →
    (s.config.ports[p].role = .console ∨ s.config.ports[p].role = .voice) →
    ∃ t : State, exec (.cancelAnnouncement p b m) s = .next t ∧
      match argIndex 16 b with
      | none => RefusedAs p .range s t
      | some sl =>
        match s.entries[sl] with
        | none => RefusedAs p .state s t
        | some e =>
          if e.message ≠ m then RefusedAs p .stale s t
          else if e.cls = .evacuate ∨ e.cls = .alert then RefusedAs p .role s t
          else if s.regime.holder ≠ some p ∧ (e.cls = .console ∨ e.origin ≠ some p) then RefusedAs p .control s t
          else
            Accepted p s t ∧ Raised .queue s t ∧ t.entries[sl] = none ∧
            OnlyAnnouncements s t ∧
            (∀ c ∈ e.channel, t.channels[c].state = .stopping ∧ t.channels[c].stop = some 5000 ∧
              t.channels[c].entry = none) ∧
            ∀ j : Fin 16, j ≠ sl → (t.entries[j] = none ↔ s.entries[j] = none)

/-- PLAY END from a VOICE port: STALE for an IDLE channel and for another message; otherwise the lapse is cleared, and
a play is counted or the channel leaves STOPPING. -/
def Obligations.PlayEndIsJudged : Prop :=
  ∀ (s : State) (p : Fin 4) (b m : Byte), Ready s p (.playEnd p b m) → HasRole s p .voice →
    ∃ t : State, exec (.playEnd p b m) s = .next t ∧
      match argIndex 4 b with
      | none => RefusedAs p .range s t
      | some c =>
        match s.channels[c].state with
        | .idle => RefusedAs p .stale s t
        | .stopping =>
          Accepted p s t ∧ Raised .channel s t ∧ t.channels[c].lapse = false ∧ t.channels[c].state ≠ .stopping ∧
          OnlyAnnouncements s t
        | .playing =>
          if s.channels[c].message ≠ some m then RefusedAs p .stale s t
          else
            Accepted p s t ∧ t.channels[c].lapse = false ∧
            OnlyAnnouncements s t ∧
            ∀ sl : Fin 16, s.channels[c].entry = some sl → ∀ e ∈ s.entries[sl],
              let n := min 255 (e.plays + 1)
              if e.rpt ≠ 0 ∧ e.rpt ≤ n then t.entries[sl] = none
              else ∃ x : Entry, t.entries[sl] = some x ∧ x.plays = n ∧ x.floors = e.floors ∧ x.age = e.age

/-- The channel timers: a stop timeout frees the channel and sets its voice lapse, and the highest-ranked WAITING entry
takes the channel at that event where no other is IDLE; a play timeout counts a play and sets the lapse. An expiry whose
timer has not run out changes nothing (log entry 2). -/
def Obligations.ChannelTimersExpire : Prop :=
  (∀ (s : State) (c : Fin 4), s.channels[c].stop ≠ some 0 → exec (.stopTimerExpiry c) s = .next s) ∧
  (∀ (s : State) (c : Fin 4), s.channels[c].play ≠ some 0 → exec (.playTimerExpiry c) s = .next s) ∧
  (∀ (s : State) (c : Fin 4), s.channels[c].stop = some 0 → s.channels[c].state = .stopping →
    ∃ t : State, exec (.stopTimerExpiry c) s = .next t ∧ t.channels[c].lapse = true ∧
      t.channels[c].state ≠ .stopping ∧ QuietPorts s t ∧ OnlyAnnouncements s t ∧
      (∀ (sl : Fin 16) (w : Entry), ChannelInv s → AgeInv s → (∀ d : Fin 4, s.channels[d].state ≠ .idle) →
        Waits s sl w → (∀ (k : Fin 16) (x : Entry), k ≠ sl → Waits s k x → RanksOver w x) →
        t.channels[c] =
          { s.channels[c] with
            state := .playing, entry := some sl, message := some w.message
            play := some (1000 * s.config.system.playTimeout), stop := none, lapse := true } ∧
        t.entries[sl] = some { w with channel := some c }) ∧
      ((∀ (sl : Fin 16) (w : Entry), ¬ Waits s sl w) → t.channels[c].state = .idle)) ∧
  ∀ (s : State) (c : Fin 4) (sl : Fin 16) (e : Entry), s.channels[c].play = some 0 →
    s.channels[c].entry = some sl → s.entries[sl] = some e →
    ∃ t : State, exec (.playTimerExpiry c) s = .next t ∧ t.channels[c].lapse = true ∧ QuietPorts s t ∧
      OnlyAnnouncements s t ∧
      let n := min 255 (e.plays + 1)
      if e.rpt ≠ 0 ∧ e.rpt ≤ n then t.entries[sl] = none
      else ∃ x : Entry, t.entries[sl] = some x ∧ x.plays = n ∧ x.floors = e.floors ∧ x.age = e.age

/-- The routing chain: a refresh restarts its timer and begins a shift, or makes one due; at the end of a shift the zone
selectors hold its pattern, and a shift that is due begins with the pattern as it then stands. An expiry or an end whose
time has not come changes nothing (log entry 2). -/
def Obligations.RoutingChainShifts : Prop :=
  (∀ s : State, s.chain.refresh ≠ some 0 → exec .chainRefreshExpiry s = .next s) ∧
  (∀ s : State, s.chain.shift.map (·.remaining) ≠ some 0 → exec .routingShiftComplete s = .next s) ∧
  (∀ s : State, s.chain.refresh = some 0 → ∃ t : State, exec .chainRefreshExpiry s = .next t ∧
    t = { s with chain := t.chain } ∧ t.chain.refresh = some 100 ∧ t.chain.selectors = s.chain.selectors ∧
    match s.chain.shift with
    | none => t.chain.shift = some ⟨pattern s, 2⟩
    | some x => t.chain.shift = some x ∧ t.chain.due = true) ∧
  ∀ (s : State) (x : Shift), s.chain.shift = some x → x.remaining = 0 → ∃ t : State, exec .routingShiftComplete s = .next t ∧
    t = { s with chain := t.chain } ∧ t.chain.selectors = x.pattern ∧ t.chain.due = false ∧
    t.chain.refresh = s.chain.refresh ∧
    t.chain.shift = if s.chain.due = true then some ⟨pattern s, 2⟩ else none

/-! ## Ports -/

/-- A frame's bits travel most significant bit first, and a byte that is not whole is not received. A frame begins
with the last result as the byte put out, and holds the bits received so far; a command that is judged in it leaves
its bytes there, with bytes of value 0 put out during the arguments. The end leaves SHORT when bits were clocked and
no command was judged; the clock edges up to it have put out bytes of value 0 before the judgement, and after it the
reply and then bytes of value 0; the kinds of a NOTICES reply that is cut short rejoin the set. That the bits come
with the frame's beginning, and that ones which complete a command change nothing, is the model's choice (log entries
7 and 22). A frame of which only the end is told follows log entry 5, and that the bytes put out stay in the state
after it log entry 23. That a word of a READ stream whose first bit was not told is taken at the release that cuts it,
and that only that one word is put out before bytes of value 0 unless the words before it were told, is the model's
choice too (log entry 6). So is that a beginning takes a frame whose end was not told as ended without SHORT (log entry
29), that a NOTICES reply whose completion was not told counts as cut short however many edges came (log entry 30), and
that the first byte counts as put out from the frame's beginning on, every later byte once it is whole (log entry
31). -/
def Obligations.FramesBeginAndEnd : Prop :=
  (∀ (b : Byte) (k : Fin 8), (Byte.bits b)[k.val]? = some (b.getLsbD (7 - k.val))) ∧
  (∀ (bs : List Byte) (l : List Bool), l.length < 8 → receivedBytes (wireBits bs ++ l) = bs) ∧
  (∀ (s : State) (f : FrameStart), frameOpen (receivedBytes f.bits) = false → exec (.frameBegin f) s = .next s) ∧
  (∀ (s : State) (p : Fin 4) (bits : List Bool), frameOpen (receivedBytes bits) = true →
    ∃ t : State, exec (.frameBegin ⟨p, bits⟩) s = .next t ∧ t = { s with ports := t.ports } ∧
    (∀ q : Fin 4, q ≠ p → t.ports[q] = s.ports[q]) ∧ t.ports[p].frame = .begun bits ∧
    Frame.received t.ports[p].frame = receivedBytes bits ∧ t.ports[p].reply = .none ∧
    t.ports[p].out =
      BitVec.ofNat 8 (codeIn Result.list s.ports[p].lastResult) ::
        List.replicate ((receivedBytes bits).length - 1) 0 ∧
    Answers p s.ports[p].lastResult s t ∧
    t.ports[p].notices =
      match s.ports[p].reply with
      | .notices taken => s.ports[p].notices ||| taken
      | _ => s.ports[p].notices) ∧
  (∀ (i : Instr) (p : Fin 4) (bs : List Byte) (s t : State), commandBytes i = some (p, bs) →
    i.wellFormed = true → Hears s p i → exec i s = .next t → t.load = s.load →
    Frame.received t.ports[p].frame = bs ∧
    t.ports[p].out =
      match s.ports[p].frame with
      | .begun _ => s.ports[p].out ++ List.replicate (bs.length - s.ports[p].out.length) 0
      | _ =>
        BitVec.ofNat 8 (codeIn Result.list s.ports[p].lastResult) :: List.replicate (bs.length - 1) 0) ∧
  ∀ (s : State) (p : Fin 4) (n : Nat), ∃ t : State, exec (.frameEnd p n) s = .next t ∧
    t = { s with free := t.free, ports := t.ports } ∧ (s.load = none → t.free = s.free) ∧
    (∀ q : Fin 4, q ≠ p → t.ports[q] = s.ports[q]) ∧ ClockedOut s s.ports[p] n t.ports[p].out ∧
    let c := s.ports[p]
    t.ports[p] =
      { c with
        frame := .none, reply := .none, out := t.ports[p].out
        lastResult :=
          match c.frame with
          | .none => if n = 0 then c.lastResult else .short
          | .begun bits => if n = 0 ∧ bits = [] then c.lastResult else .short
          | _ => c.lastResult
        notices :=
          match c.reply with
          | .notices taken => c.notices ||| taken
          | _ => c.notices
        attention :=
          match c.reply with
          | .notices taken =>
            if taken = 0 then c.attention else ((c.notices ||| taken) &&& ~~~c.mask) != 0
          | _ => c.attention }

/-- A port reset returns the context to its default, keeps the notice set with the kinds of a cut reply and the
conflict locator, and releases console control. The clock edges of its frame until then have put out bytes as in any
frame, and after it edges are ignored until the frame's end; a frame of which nothing was told leaves nothing to end
(log entries 5 and 19); the bytes stay in the state after it (log entry 23). That a word of a READ stream whose first
bit was not told is taken at the port reset that cuts it, and that only that one word is put out before bytes of value
0 unless the words before it were told, is the model's choice (log entry 6). So is that a NOTICES reply whose
completion was not told counts as cut short however many edges came (log entry 30), and that the first byte counts as
put out from the frame's beginning on, every later byte once it is whole (log entry 31). -/
def Obligations.PortResetReturnsTheContext : Prop :=
  ∀ (s : State) (p : Fin 4) (n : Nat), ∃ t : State, exec (.portReset ⟨p, n⟩) s = .next t ∧
    t = { s with free := t.free, regime := t.regime, ports := t.ports } ∧ (s.load = none → t.free = s.free) ∧
    t.regime =
      { s.regime with holder := if s.regime.holder = some p then none else s.regime.holder } ∧
    QuietOthers p s t ∧ (s.load = none → s.regime.holder = some p → Raised .control s t) ∧
    let c := t.ports[p]
    ContextReset c ∧ c.lastResult = .ok ∧ c.conflict = s.ports[p].conflict ∧
      s.ports[p].notices &&& ~~~c.notices = 0 ∧
      (∀ taken, s.ports[p].reply = .notices taken → taken &&& ~~~c.notices = 0) ∧
      c.attention = (c.notices != 0) ∧ ClockedOut s s.ports[p] n c.out ∧
      c.frame =
        match s.ports[p].frame with
        | .none => .none
        | .implied _ => .none
        | _ => .ignoring

/-- SELECT and WINDOW: BAD_ADDRESS and RANGE as their rules give them; otherwise the window and the pointer are as the
command names them. -/
def Obligations.SelectAndWindowSetThePointer : Prop :=
  (∀ (s : State) (p : Fin 4) (tb r f : Byte), Hears s p (.select p tb r f) → ∃ t : State, exec (.select p tb r f) s = .next t ∧
    match argIn Table.list tb with
    | none => RefusedAs p .badAddress s t
    | some x =>
      if r.toNat < Table.records x ∧ f.toNat < Table.fields x then
        t = { s with ports := t.ports } ∧ (∀ q : Fin 4, q ≠ p → t.ports[q] = s.ports[q]) ∧
        let c := t.ports[p]
        c.lastResult = .ok ∧ c.table = x ∧ c.record = r.toNat ∧ c.field = f.toNat ∧ c.firstRecord = 0 ∧
          c.lastRecord = Table.records x - 1 ∧ c.firstField = 0 ∧ c.lastField = Table.fields x - 1 ∧
          c.order = s.ports[p].order ∧ c.mask = s.ports[p].mask ∧ c.conflict = s.ports[p].conflict
      else RefusedAs p .badAddress s t) ∧
  ∀ (s : State) (p : Fin 4) (fr lr ff lf o : Byte), Hears s p (.window p fr lr ff lf o) →
    ∃ t : State, exec (.window p fr lr ff lf o) s = .next t ∧
      let x := s.ports[p].table
      if lr.toNat < fr.toNat ∨ lf.toNat < ff.toNat ∨ Table.records x ≤ lr.toNat ∨ Table.fields x ≤ lf.toNat then
        RefusedAs p .badAddress s t
      else if 2 ≤ o.toNat then RefusedAs p .range s t
      else
        t = { s with ports := t.ports } ∧ (∀ q : Fin 4, q ≠ p → t.ports[q] = s.ports[q]) ∧
        let c := t.ports[p]
        c.lastResult = .ok ∧ c.table = x ∧ c.firstRecord = fr.toNat ∧ c.lastRecord = lr.toNat ∧
          c.firstField = ff.toNat ∧ c.lastField = lf.toNat ∧ c.record = fr.toNat ∧ c.field = ff.toNat ∧
          c.order = (if o.toNat = 0 then .fieldFirst else .recordFirst) ∧ c.mask = s.ports[p].mask ∧
          c.conflict = s.ports[p].conflict

/-- READ begins a stream, whose first word is a dummy of value 0 that leaves the pointer. Every later word is taken at
its first bit: it is the word captured with its value, or the table's word at the pointer as it then stands; after its
last bit the pointer advances by the walk order. Where the walk shifts a whole value, its remaining words are captured
with its first. Every record of every table has the fields of section 11.3, and every field reads as section 11.3 and
R195 give. That a word whose first bit was not told is taken with its last is the model's choice (log entry 6), and so
are the capture in a window of one record under RECORD_FIRST (log entry 24) and of a stored served set (log entry 17),
the automatic cause in QUIET (log entry 10), and the last field of an absent circuit (log entry 28). -/
def Obligations.ReadStreamsTheWindow : Prop :=
  (∀ (s : State) (p : Fin 4), Hears s p (.read p) → ∃ t : State, exec (.read p) s = .next t ∧
    t = { s with ports := t.ports } ∧ (∀ q : Fin 4, q ≠ p → t.ports[q] = s.ports[q]) ∧
    t.ports[p].reply = .dummy ∧ Answers p .ok s t) ∧
  (∀ (s : State) (p : Fin 4), s.ports[p].reply = .dummy →
    exec (.readWordShifted ⟨p, .first⟩) s = .next s) ∧
  (∀ (s : State) (p : Fin 4), s.ports[p].reply = .dummy →
    exec (.readWordShifted ⟨p, .last⟩) s = .next
      (s.setPort p { s.ports[p] with out := s.ports[p].out ++ [0, 0], reply := .stream [] })) ∧
  (∀ (s : State) (p : Fin 4) (ws : List Word), s.ports[p].reply = .stream ws →
    ∃ t : State, exec (.readWordShifted ⟨p, .first⟩) s = .next t ∧ t = { s with free := t.free, ports := t.ports } ∧
      (∀ q : Fin 4, q ≠ p → t.ports[q] = s.ports[q]) ∧ (s.load = none → t.free = s.free) ∧
      t.ports[p] = { s.ports[p] with reply := t.ports[p].reply } ∧ (ws ≠ [] → t = s) ∧
      (∃ w rest, t.ports[p].reply = .stream (w :: rest)) ∧
      let c := s.ports[p]
      (ws = [] → s.load = none →
        t.ports[p].reply =
          .stream ((tableRecord s c.table c.record).getD c.field 0xFFFF :: valueRest s c))) ∧
  (∀ (s : State) (p : Fin 4) (ws : List Word), s.ports[p].reply = .stream ws →
    ∃ t : State, exec (.readWordShifted ⟨p, .last⟩) s = .next t ∧ t = { s with free := t.free, ports := t.ports } ∧
      (∀ q : Fin 4, q ≠ p → t.ports[q] = s.ports[q]) ∧ (s.load = none → t.free = s.free) ∧
      let c := s.ports[p]
      let d := t.ports[p]
      (ws = [] → s.load = none →
        d.out = c.out ++ Word.bytes ((tableRecord s c.table c.record).getD c.field 0xFFFF) ∧
        d.reply = .stream (valueRest s c)) ∧
      (∀ w rest, ws = w :: rest → d.out = c.out ++ Word.bytes w ∧ d.reply = .stream rest) ∧
      (∃ w rest, d.out = c.out ++ Word.bytes w ∧ d.reply = .stream rest) ∧
      d.frame = c.frame ∧ d.notices = c.notices ∧ d.mask = c.mask ∧
      d.attention = c.attention ∧ d.conflict = c.conflict ∧ d.lastResult = c.lastResult ∧ d.table = c.table ∧
      d.firstRecord = c.firstRecord ∧ d.lastRecord = c.lastRecord ∧ d.firstField = c.firstField ∧
      d.lastField = c.lastField ∧ d.order = c.order ∧
      match c.order with
      | .fieldFirst =>
        if c.field < c.lastField then d.field = c.field + 1 ∧ d.record = c.record
        else d.field = c.firstField ∧ d.record = if c.record < c.lastRecord then c.record + 1 else c.firstRecord
      | .recordFirst =>
        if c.record < c.lastRecord then d.record = c.record + 1 ∧ d.field = c.field
        else d.record = c.firstRecord ∧ d.field = if c.field < c.lastField then c.field + 1 else c.firstField) ∧
  TableSizes ∧ ValueSpans ∧ ∀ s : State, TablesLaidOut s

/-- NOTICES takes and empties the set, its whole reply leaves the taken kinds with the master, and MASK decides which
kinds assert the attention line. -/
def Obligations.NoticesAreTakenAndMasked : Prop :=
  (∀ (s : State) (p : Fin 4), Ready s p (.notices p) → s.ports[p].reply = .none → ∃ t : State, exec (.notices p) s = .next t ∧
    t = { s with ports := t.ports } ∧ (∀ q : Fin 4, q ≠ p → t.ports[q] = s.ports[q]) ∧
    t.ports[p].notices = 0 ∧ t.ports[p].reply = .notices s.ports[p].notices ∧ t.ports[p].attention = false ∧
    Answers p .ok s t) ∧
  (∀ (s : State) (p : Fin 4) (k : NoticeSet), s.ports[p].reply = .notices k →
    exec (.noticesReplyComplete p) s = .next
      (s.setPort p { s.ports[p] with reply := .none, out := s.ports[p].out ++ Word.bytes (k.zeroExtend 16) })) ∧
  ∀ (s : State) (p : Fin 4) (w : Word), Ready s p (.mask p w) → s.ports[p].reply = .none →
    ∃ t : State, exec (.mask p w) s = .next t ∧
      if 2 ^ 11 ≤ w.toNat then RefusedAs p .range s t
      else
        t = { s with ports := t.ports } ∧ (∀ q : Fin 4, q ≠ p → t.ports[q] = s.ports[q]) ∧
        t.ports[p].mask.toNat = w.toNat ∧ t.ports[p].notices = s.ports[p].notices ∧
        t.ports[p].attention = ((s.ports[p].notices &&& ~~~t.ports[p].mask) != 0) ∧
        t.ports[p].lastResult = .ok ∧ t.ports[p].conflict = s.ports[p].conflict

/-- STATUS answers its eight words from every port, during the load as well, and leaves the notice set as it stands. -/
def Obligations.StatusAnswersEightWords : Prop :=
  ∀ (s : State) (p : Fin 4), Hears s p (.status p) → ∃ t : State, exec (.status p) s = .next t ∧
    t = { s with ports := t.ports } ∧ (∀ q : Fin 4, q ≠ p → t.ports[q] = s.ports[q]) ∧ Answers p .ok s t ∧
    (s.ports[p].reply = .none → t.ports[p].notices = s.ports[p].notices) ∧
    ∃ ws : List Word, t.ports[p].reply = .status ws ∧ ws.length = 8 ∧
      ws[0]? =
        some (match s.ports[p].frame with
          | .begun _ => (s.ports[p].out.headD 0).zeroExtend 16
          | _ => num (codeIn Result.list s.ports[p].lastResult)) ∧
      ws[1]? = some (if s.load = none then 0 else 1) ∧
      ws[2]? =
        some (if s.load = none then num (codeIn Role.list s.config.ports[p].role) else 0xFFFF) ∧
      ws[3]? = some (if s.load = none then num s.config.ports[p].rank else 0xFFFF) ∧
      ws[4]? = some (if s.regime.holder = some p then 1 else 0) ∧
      ws[5]? = some (num (codeIn RegimeState.list s.regime.state)) ∧
      ws[6]? = some (troubleWord s.regime.trouble) ∧
      ws[7]? = some (match s.ports[p].conflict with | none => 0xFFFF | some n => num n.val)

/-! ## Commands of the store -/

/-- STORE WRITE, in the order of its rule; an accepted write makes the store busy for 12 ms and changes no record.
The ranges of a link and of an empty served set are the model's reading (log entries 11 and 12). -/
def Obligations.StoreWriteIsJudged : Prop :=
  ∀ (s : State) (p : Fin 4) (k i e : Byte) (im : Image), Ready s p (.storeWrite p k i e im) → HasRole s p .console →
    ∃ t : State, exec (.storeWrite p k i e im) s = .next t ∧
      match argIn StoreKind.list k with
      | none => RefusedAs p .range s t
      | some x =>
        match storeNumber x i.toNat with
        | none => RefusedAs p .range s t
        | some n =>
          if s.enable = false then RefusedAs p .enable s t
          else if s.busy ≠ none then RefusedAs p .busy s t
          else if e.toNat ≠ s.store[n].writes then RefusedAs p .mismatch s t
          else if 32 ≤ s.store[n].writes then RefusedAs p .worn s t
          else if imageInRange x im = false then RefusedAs p .range s t
          else
            t = { s with busy := some ⟨n, p, im, 12⟩, ports := t.ports } ∧
              (∀ q : Fin 4, q ≠ p → t.ports[q] = s.ports[q]) ∧ Answers p .ok s t

/-- CHECK CONFIG: STARTING, ROLE and BUSY as its rule gives them; otherwise OK with the locator none, or CONFLICT with
the first record that offends. -/
def Obligations.CheckConfigFindsTheFirstOffender : Prop :=
  ∀ (s : State) (p : Fin 4), Hears s p (.checkConfig p) → ∃ t : State, exec (.checkConfig p) s = .next t ∧
    ForRole p .console s t
      (if s.busy ≠ none then RefusedAs p .busy s t
      else
        t = { s with ports := t.ports } ∧ (∀ q : Fin 4, q ≠ p → t.ports[q] = s.ports[q]) ∧
        ((∀ n : Fin 136, offends (storedConfig s.store) n = false) →
          t.ports[p].lastResult = .ok ∧ t.ports[p].conflict = none) ∧
        ∀ n : Fin 136, offends (storedConfig s.store) n = true →
          (∀ m : Fin 136, m < n → offends (storedConfig s.store) m = false) →
          t.ports[p].lastResult = .conflict ∧ t.ports[p].conflict = some n)

/-- RESTART, judged in the order of its rule; one that begins a power-on reset leaves OK and every port context at its
start-up values. That the enable input keeps its level is the model's choice (log entry 9), and that the routing chain
holds none at once its reading (log entry 16). -/
def Obligations.RestartBeginsAPowerOnReset : Prop :=
  ∀ (s : State) (p : Fin 4), Hears s p (.restart p) → ∃ t : State, exec (.restart p) s = .next t ∧
    Controlled p s t
      (if s.regime.state ≠ .quiet then RefusedAs p .state s t
      else if s.enable = false then RefusedAs p .enable s t
      else if s.busy ≠ none then RefusedAs p .busy s t
      else
        ((∀ n : Fin 136, offends (storedConfig s.store) n = false) →
          t.load = some 200 ∧ LoadInv t ∧ t.busy = none ∧ t.enable = s.enable ∧ t.pending = s.pending ∧
          (∀ n : Fin 136,
            t.store[n].contents = s.store[n].contents ∧ t.store[n].writes = s.store[n].writes ∧
            t.store[n].programmed = s.store[n].programmed ∧ t.store[n].damaged = s.store[n].damaged) ∧
          ∀ q : Fin 4, ContextReset t.ports[q] ∧ t.ports[q].lastResult = .ok ∧ t.ports[q].conflict = none) ∧
        ∀ n : Fin 136, offends (storedConfig s.store) n = true →
          (∀ m : Fin 136, m < n → offends (storedConfig s.store) m = false) →
          t = { s with ports := t.ports } ∧ (∀ q : Fin 4, q ≠ p → t.ports[q] = s.ports[q]) ∧
          t.ports[p].lastResult = .conflict ∧ t.ports[p].conflict = some n)
end

