-- ==== Sys2Proof/Tests/Slice0.lean ====
section
/-! SUPPORT. Tests: well-formedness, frames, one step of each kind of command on a small part, and for every statement a state and operands that meet its hypotheses. -/

set_option Elab.async false

open Sys2Proof Sys2Proof.Machine

namespace Sys2Proof.Tests

/-! ## A small part -/

/-- Whether a step answers a next state that satisfies a test. -/
def answers (P : State → Bool) (o : Host.Outcome State Fault Refusal) : Bool :=
  match o with
  | .next t => P t
  | .fault _ => false
  | .refused _ => false

/-- A small tower of 8 floors: ports CONSOLE, CONSOLE, LIFT, VOICE; line 3 SMOKE, line 4 FLOW, line 5 SMOKE verified, line
6 a door position; one lift group with car 0; a door group with circuits 0 and 1. -/
def town : WorkConfig :=
  { factoryConfig with
    system := { factoryConfig.system with nfloor := 8, alertMargin := 1 }
    ports := tabulate fun p => [⟨.console, 1⟩, ⟨.console, 2⟩, ⟨.lift, 0⟩, ⟨.voice, 0⟩].getD p.val ⟨.observer, 0⟩
    lines := tabulate fun i =>
      if i.val = 3 then ⟨.supervised, .smoke, 5, 0, 1, false, none⟩
      else if i.val = 4 then ⟨.contact, .flow, 2, 0, 0, false, none⟩
      else if i.val = 5 then ⟨.supervised, .smoke, 6, 0, 2, true, none⟩
      else if i.val = 6 then ⟨.contact, .doorPosition, 5, 0, 0, false, some 1⟩
      else factoryConfig.lines[i]
    lgroups := tabulate fun g => if g.val = 0 then ⟨true, 0, 1, false, 2⟩ else factoryConfig.lgroups[g]
    cars := tabulate fun c => if c.val = 0 then ⟨true, 0, 0x3F⟩ else factoryConfig.cars[c]
    dgroups := tabulate fun g => if g.val = 0 then ⟨true, .onEvacuate⟩ else factoryConfig.dgroups[g]
    doors := tabulate fun c => if c.val < 2 then ⟨true, 5, 0, 0⟩ else factoryConfig.doors[c] }

/-- The small part after its load, with port 0 in control, STARTED pending at every port and the stagger timer run out. -/
def up : State :=
  { State.reset with
    load := none
    config := town
    scanSlot := some 0
    lines := tabulate fun i => if 3 ≤ i.val ∧ i.val ≤ 6 then { lineReset with state := .normal } else lineReset
    lgroups := tabulate fun g => if g.val = 0 then { lgroupReset with target := some 0 } else lgroupReset
    cars := tabulate fun c => if c.val = 0 then { carReset with timer := some 3000 } else carReset
    dgroups := tabulate fun g =>
      if g.val = 0 then { dgroupReset with state := .resecureWait } else { dgroupReset with state := .secured }
    resecure := [0]
    stagger := some 0
    regime := { regimeReset false with holder := some 0 }
    ports := tabulate fun _ => { portReset .none with notices := 1, attention := true } }

/-- The round at a slot; line 3 one agreeing sample before its alarm, line 4 in a retard that has run out, line 5 one
sample before verification, line 6 isolated. -/
def smoky (slot : Fin 96) : State :=
  { up with
    scanSlot := some slot
    lines := tabulate fun i =>
      let l := { up.lines[i] with history := [602], candidate := some .alarm, agree := 2 }
      if i.val = 4 then { l with retard := some 0 } else if i.val = 6 then { l with state := .isolated } else l }

/-- The round at the slot of line 3 or 6, with what the line needs for one more sample to qualify a band: its state,
qualified band, candidate and count. -/
def nearly (slot : Fin 96) (st : LineState) (q : Option Band) (k : Band) (n : Nat) (h : List Nat) : State :=
  { up with
    scanSlot := some slot
    lines := tabulate fun i =>
      { up.lines[i] with state := st, qualified := q, candidate := some k, agree := n, history := h }
    pgroups := tabulate fun _ => ⟨.window, some 0⟩ }

/-- Line 3 in ACTIVE: floor 5 is the fire floor. -/
def alarmed : State :=
  { up with
    lines := up.lines.set 3 { up.lines[3] with state := .active }
    floors := tabulate fun f =>
      if f.val < 8 then
        { floorReset with
          alarmCount := if f.val = 5 then 1 else 0
          ring := some (floorDistance f.val 5) }
      else floorReset }

/-- The small part under a held first alarm whose acknowledge window has run out. -/
def held : State :=
  { alarmed with
    regime := { up.regime with state := .holdAck, firstAlarm := some 3, hold := some 0 } }

/-- The small part ACTIVE under its first alarm, with the spread timer and the silence inhibit run out. -/
def spread : State :=
  { alarmed with
    regime :=
      { up.regime with
        state := .active, firstAlarm := some 3, inhibit := some 0, r := 1, spread := .running 0 }
    dgroups := tabulate fun g =>
      if g.val = 0 then { dgroupReset with state := .released } else { dgroupReset with state := .secured }
    resecure := []
    floors := tabulate fun f =>
      let k := floorDistance f.val 5
      if f.val < 8 then
        { floorReset with
          alarmCount := if f.val = 5 then 1 else 0
          ring := some k
          status := if k ≤ 1 then .evacuate else if k = 2 then .alert else .none
          routed := if k ≤ 1 then some 0 else if k = 2 then some 1 else none }
      else floorReset
    entries := tabulate fun sl =>
      if sl.val = 14 then some ⟨.evacuate, 1, 0x70, 0, 0, none, 0, some 0⟩
      else if sl.val = 15 then some ⟨.alert, 2, 0x88, 0, 0, none, 1, some 1⟩ else none
    channels := tabulate fun c =>
      if c.val = 0 then ⟨.playing, some 14, some 1, some 90000, none, false⟩
      else if c.val = 1 then ⟨.playing, some 15, some 2, some 90000, none, false⟩ else channelReset }

/-- The lift group recalled by hand, its car LOST on its way to floor 0, with its report timer run out. -/
def recalled : State :=
  { spread with
    lgroups := up.lgroups.set 0 ⟨true, true, some 0⟩
    cars := up.cars.set 0
      { up.cars[0] with
        phase := .lost, directive := .recall, target := some 0, timer := some 0, noStop := 0x20 } }

/-- A TENANT and a CONSOLE announcement in the queue, each on a channel, the TENANT's play timer run out. -/
def talk : State :=
  { up with
    entries := tabulate fun sl =>
      if sl.val = 0 then some ⟨.tenant, 7, 0xFF, 1, 0, some 3, 0, some 0⟩
      else if sl.val = 1 then some ⟨.console, 9, 0x0F, 0, 0, some 0, 1, some 1⟩ else none
    channels := tabulate fun c =>
      if c.val = 0 then ⟨.playing, some 0, some 7, some 0, none, false⟩
      else if c.val = 1 then ⟨.playing, some 1, some 9, some 90000, none, false⟩
      else if c.val = 2 then ⟨.stopping, none, some 5, none, some 0, false⟩ else channelReset }

/-- A queue with TENANT entries in all its 14 slots. -/
def full : State :=
  { up with entries := tabulate fun sl =>
      if sl.val < 14 then some ⟨.tenant, 7, 0xFF, 1, 0, some 3, sl.val, none⟩ else none }

/-- A store write of band set 0 whose 12 ms have run out. -/
def writing : State :=
  { up with enable := true, busy := some ⟨69, 0, imageOf [150, 2200, 12000], 0⟩ }

/-- The power groups in RESET, SETTLE and WINDOW, their timers run out; the round at a slot. -/
def powered (slot : Fin 96) : State :=
  { up with scanSlot := some slot, pgroups := tabulate fun g =>
      if g.val = 0 then ⟨.reset, some 0⟩ else if g.val = 1 then ⟨.settle, some 0⟩ else ⟨.window, some 0⟩ }

/-- Circuit 0 ON one reading before its first trip, circuit 1 one before its seventh, a group's open-wait and a
cool-down run out; the round at a slot. -/
def wired (slot : Fin 96) : State :=
  { up with
    scanSlot := some slot
    doors := tabulate fun c =>
      if c.val = 0 then { doorReset with state := .on, candidate := some .over, count := 1 }
      else if c.val = 1 then { doorReset with state := .on, candidate := some .over, count := 1, trips := 6 }
      else { doorReset with state := .tripped, cool := some 0 }
    dgroups := tabulate fun _ => { dgroupReset with openWait := some 0 } }

/-! ## Form of a command -/

theorem test_wf_unknown_byte : (Instr.unknownCommand 0 0x16).wellFormed = true := by decide
theorem test_illformed_unknown_byte : (Instr.unknownCommand 0 0x10).wellFormed = false := by decide
theorem test_illformed_last_byte : (Instr.unknownCommand 3 0x52).wellFormed = false := by decide

theorem test_no_row_has_bits : decodeTableWord 8 0x10 = none := rfl
theorem test_withFetchWord : (State.withFetchWord State.reset 8 0x10).pending = [] := rfl

theorem test_frame_select : readFrame 1 [0x10, 0x0B, 0x07, 0x1C] = some (.select 1 0x0B 0x07 0x1C) := by
  decide +kernel
theorem test_frame_mask : readFrame 0 [0x14, 0x04, 0x02] = some (.mask 0 0x0402) := by decide +kernel
theorem test_frame_post :
    readFrame 3 [0x48, 0x03, 0x07, 0x00, 0x81, 0x00, 0x00, 0x80, 0x00, 0x01] =
      some (.postAnnouncement 3 3 7 0x800000000081 1) := by decide +kernel
theorem test_frame_unknown : readFrame 2 [0x16] = some (.unknownCommand 2 0x16) := by decide +kernel
theorem test_frame_cut_short : readFrame 0 [0x10, 0x00] = none := by decide +kernel
theorem test_frame_restart : commandBytes (.restart 1) = some (1, [0x52]) := rfl

/-! ## Arithmetic of chapter 1 -/

theorem test_loop_codes :
    loopCode (some 0) = 0 ∧ loopCode (some 150) = 45 ∧ loopCode (some 600) = 158 ∧ loopCode (some 2200) = 410 ∧
      loopCode (some 3300) = 512 ∧ loopCode (some 4700) = 602 ∧ loopCode (some 12000) = 803 ∧
      loopCode none = 1023 := by decide +kernel
theorem test_lock_codes : lockCode 0 = 0 ∧ lockCode 900 = 461 ∧ lockCode 2500 = 1023 := by decide +kernel
theorem test_estimates :
    estimate 0 = 0 ∧ estimate 158 = 602 ∧ estimate 410 = 2203 ∧ estimate 602 = 4707 ∧ estimate 974 = 64284 ∧
      estimate 975 = 65535 ∧ estimate 1023 = 65535 := by decide +kernel
theorem test_bands :
    bandOf ⟨150, 2200, 12000⟩ 148 = .short ∧ bandOf ⟨150, 2200, 12000⟩ 150 = .alarm ∧
      bandOf ⟨150, 2200, 12000⟩ 2194 = .alarm ∧ bandOf ⟨150, 2200, 12000⟩ 2200 = .normal ∧
      bandOf ⟨150, 2200, 12000⟩ 12000 = .normal ∧ bandOf ⟨150, 2200, 12000⟩ 12001 = .openLoop := by
  decide +kernel
theorem test_currents :
    currentOf 20 = 39 ∧ currentOf 21 = 41 ∧ currentOf 460 = 898 ∧ currentOf 461 = 900 ∧ currentOf 1023 = 1998 := by
  decide +kernel

/-! ## Steps -/

theorem test_reset_loads : State.reset.load = some 200 ∧ State.reset.config = factoryConfig := ⟨rfl, rfl⟩
theorem test_power_on :
    answers (fun t => t.load == some 200 && t.busy == none && t.store[(69 : Fin 136)].writes == 1 &&
      t.store[(69 : Fin 136)].substituted) (exec .powerOnReset writing) = true := by decide +kernel
theorem test_load_end :
    answers (fun t => t.load == none && t.resecure == [0] && t.lines[(3 : Fin 64)].state == .normal &&
      t.cars[(0 : Fin 12)].timer == some 3000) (exec .startUpLoadEnd { State.reset with load := some 0, config := town }) =
      true := by decide +kernel
theorem test_hold_begins :
    answers (fun t => t.regime.state == .holdAck && t.regime.hold == some 15000 &&
      t.floors[(5 : Fin 48)].ring == some 0 && t.floors[(5 : Fin 48)].status == .none)
      (exec (.zoneLineSlotCompletion 3 158) (smoky 3)) = true := by decide +kernel
theorem test_verification_begins :
    answers (fun t => t.lines[(5 : Fin 64)].state == .verifying &&
      t.pgroups[(2 : Fin 8)] == ⟨.reset, some 4000⟩ && t.regime.state == .quiet)
      (exec (.zoneLineSlotCompletion 5 158) (smoky 5)) = true := by decide +kernel
theorem test_retard_ends :
    answers (fun t => t.lines[(4 : Fin 64)].state == .active && t.regime.state == .active)
      (exec (.retardExpiry 4) (smoky 0)) = true := by decide +kernel
theorem test_hold_ends :
    answers (fun t => t.regime.state == .active && t.regime.spread == .running 180000 &&
      t.floors[(4 : Fin 48)].status == .evacuate &&
      t.floors[(7 : Fin 48)].status == .alert && t.dgroups[(0 : Fin 16)].state == .released)
      (exec .holdTimerExpiry held) = true := by decide +kernel
theorem test_acknowledge :
    answers (fun t => t.regime.state == .holdInvestigate && t.regime.hold == some 120000)
      (exec (.acknowledge 0) held) = true := by decide +kernel
theorem test_evacuate_all :
    answers (fun t => t.regime.evacuateAll && t.floors[(7 : Fin 48)].status == .evacuate &&
      t.entries[evacuateSlot].isSome && t.channels[(0 : Fin 4)].state == .playing)
      (exec (.evacuateAll 0) up) = true := by decide +kernel
theorem test_silence_too_early :
    answers (fun t => t.ports[(0 : Fin 4)].lastResult == .tooEarly) (exec (.silence 0) spread) = true := by
  decide +kernel
theorem test_spread_grows :
    answers (fun t => t.regime.r == 2 && t.floors[(7 : Fin 48)].status == .evacuate)
      (exec .spreadExpiry spread) = true := by decide +kernel
theorem test_spread_hold :
    answers (fun t => t.regime.spread == .frozen 0 && t.regime.spreadHeld)
      (exec (.spreadHold 0) spread) = true := by decide +kernel
/-- ACTIVE at r 2 with the spread timer run out, and a retard run out on floor 2, whose fire lets every floor evacuate. -/
def closing : State :=
  { spread with
    lines := spread.lines.set 4 { spread.lines[4] with retard := some 0 }
    regime := { spread.regime with r := 2 } }

/-- Every floor EVACUATE around fires on floors 2 and 5, with the spread timer run out. -/
def closed : State :=
  { spread with
    regime := { spread.regime with r := 2 }
    floors := tabulate fun f =>
      if f.val < 8 then
        { floorReset with
          alarmCount := if f.val = 2 ∨ f.val = 5 then 1 else 0
          ring := some (min (floorDistance f.val 2) (floorDistance f.val 5))
          status := .evacuate }
      else floorReset }

theorem test_fire_floor_leaves_the_expiry :
    answers (fun t => t.regime.r == 2 && t.regime.spread == .running 0 && allEvacuate t)
      (exec (.retardExpiry 4) closing) = true := by decide +kernel
theorem test_expiry_after_fire_floor :
    answers (fun t => t.regime.r == 3 && t.regime.spread == .stopped) (exec .spreadExpiry closed) = true := by
  decide +kernel
theorem test_expiry_before_fire_floor :
    answers (fun t => t.regime.r == 3 && t.regime.spread == .running 180000 && !allEvacuate t)
      (exec .spreadExpiry closing) = true := by decide +kernel
theorem test_no_hold_when_every_floor_evacuates :
    answers (fun t => t.regime.spread == .running 0 && t.ports[(0 : Fin 4)].lastResult == .state)
      (exec (.spreadHold 0) closed) = true := by decide +kernel
theorem test_reset_regime :
    answers (fun t => t.regime.state == .quiet && t.lines[(3 : Fin 64)].state == .normal &&
      t.dgroups[(0 : Fin 16)].state == .resecureWait) (exec (.resetRegime 0) spread) = true := by decide +kernel
theorem test_isolate_active_fire_line :
    answers (fun t => t.ports[(0 : Fin 4)].lastResult == .state) (exec (.isolateLine 0 3) held) = true := by
  decide +kernel
theorem test_take_control_by_rank :
    answers (fun t => t.regime.holder == some 1) (exec (.takeControl 1) up) = true := by decide +kernel
theorem test_recall_group :
    answers (fun t => t.lgroups[(0 : Fin 3)].triggered && t.cars[(0 : Fin 12)].phase == .lost &&
      t.cars[(0 : Fin 12)].directive == .recall) (exec (.recallGroup 0 0) spread) = true := by decide +kernel
theorem test_car_parks :
    answers (fun t => t.cars[(0 : Fin 12)].phase == .parked && t.cars[(0 : Fin 12)].directive == .park)
      (exec (.carReport 2 0 0 0 0 0) recalled) = true := by decide +kernel
theorem test_first_trip :
    answers (fun t => t.doors[(0 : Fin 32)].state == .tripped && t.doors[(0 : Fin 32)].cool == some 5000)
      (exec (.doorSenseSlotCompletion 0 461) (wired 64)) = true := by decide +kernel
/-- Circuit 0 ON with a supervision candidate and count, its slot in progress. -/
def sensed (k : CurrentClass) (n : Nat) (fault : Bool) : State :=
  { wired 64 with
    doors := (wired 64).doors.set 0
      { doorReset with state := .on, candidate := some k, count := n, openFault := fault } }

theorem test_open_fault_set :
    answers (fun t => t.doors[(0 : Fin 32)].openFault && t.doors[(0 : Fin 32)].count == 42 && t.regime.trouble.doors)
      (exec (.doorSenseSlotCompletion 0 3) (sensed .openCircuit 41 false)) = true := by decide +kernel
theorem test_open_fault_cleared :
    answers (fun t => !t.doors[(0 : Fin 32)].openFault && t.doors[(0 : Fin 32)].count == 3)
      (exec (.doorSenseSlotCompletion 0 100) (sensed .normal 2 true)) = true := by decide +kernel
theorem test_seventh_trip :
    answers (fun t => t.doors[(1 : Fin 32)].state == .latchedOff && t.regime.trouble.doors)
      (exec (.doorSenseSlotCompletion 1 461) (wired 65)) = true := by decide +kernel
theorem test_take_head :
    answers (fun t => t.dgroups[(0 : Fin 16)].state == .secured && t.doors[(1 : Fin 32)].state == .on)
      (exec .staggerExpiry up) = true := by decide +kernel
theorem test_force_secure_in_regime :
    answers (fun t => t.ports[(0 : Fin 4)].lastResult == .state) (exec (.doorOverride 0 0 2) held) = true := by
  decide +kernel
/-- A part whose door group 0 has an override and a state. -/
def overridden (x : Override) (y : DGroupState) (s : State) : State :=
  { s with dgroups := s.dgroups.set 0 { s.dgroups[0] with override := x, state := y } }

theorem test_force_secure_reverts :
    answers (fun t => t.dgroups[(0 : Fin 16)].override == .auto &&
      t.ports[(0 : Fin 4)].notices &&& Notice.bit .door != 0)
      (exec (.evacuateAll 0) (overridden .forceSecure .secured up)) = true := by decide +kernel
theorem test_post_plays :
    answers (fun t => t.channels[(0 : Fin 4)].state == .playing && t.floors[(7 : Fin 48)].routed == some 0)
      (exec (.postAnnouncement 3 3 7 0xFF 1) up) = true := by decide +kernel
theorem test_play_end_removes :
    answers (fun t => t.entries[(0 : Fin 16)] == none && t.channels[(0 : Fin 4)].state == .idle)
      (exec (.playEnd 3 0 7) talk) = true := by decide +kernel
theorem test_cancel_stops :
    answers (fun t => t.entries[(1 : Fin 16)] == none && t.channels[(1 : Fin 4)].state == .stopping)
      (exec (.cancelAnnouncement 0 1 9) talk) = true := by decide +kernel
theorem test_store_write_ends :
    answers (fun t => t.busy == none && t.store[(69 : Fin 136)].writes == 1 && t.store[(69 : Fin 136)].programmed)
      (exec .storeWriteCompletion writing) = true := by decide +kernel
theorem test_enable_drop_cuts :
    answers (fun t => t.store[(69 : Fin 136)].damaged && t.regime.trouble.store)
      (exec .enableInputDrop writing) = true := by decide +kernel
theorem test_check_factory_store :
    answers (fun t => t.ports[(1 : Fin 4)].lastResult == .ok) (exec (.checkConfig 1) up) = true := by decide +kernel
theorem test_restart_without_enable :
    answers (fun t => t.ports[(0 : Fin 4)].lastResult == .enable) (exec (.restart 0) up) = true := by decide +kernel
theorem test_started_notice :
    answers (fun t => t.ports[(2 : Fin 4)].notices == 0 && t.ports[(2 : Fin 4)].attention == false)
      (exec (.notices 2) up) = true ∧ up.ports[(2 : Fin 4)].notices &&& 1 = 1 := by decide +kernel
theorem test_read_word :
    answers (fun t => t.ports[(0 : Fin 4)].out == [0, 3] && t.ports[(0 : Fin 4)].field == 1)
      (exec (.readWordShifted ⟨0, .last⟩)
        { spread with ports := spread.ports.set 0 { spread.ports[0] with reply := .stream [] } }) = true := by
  decide +kernel
theorem test_dummy_word :
    answers (fun t => t.ports[(0 : Fin 4)].out == [0, 0] && t.ports[(0 : Fin 4)].field == 0)
      (exec (.readWordShifted ⟨0, .last⟩)
        { spread with ports := spread.ports.set 0 { spread.ports[0] with reply := .dummy } }) = true := by
  decide +kernel
theorem test_word_taken_at_its_first_bit :
    answers (fun t => t.ports[(0 : Fin 4)].reply == .stream [3] && t.ports[(0 : Fin 4)].out == [])
      (exec (.readWordShifted ⟨0, .first⟩)
        { spread with ports := spread.ports.set 0 { spread.ports[0] with reply := .stream [] } }) = true ∧
    answers (fun t => t.ports[(0 : Fin 4)].out == [0, 3] && t.ports[(0 : Fin 4)].field == 1)
      (exec (.readWordShifted ⟨0, .last⟩)
        { up with ports := up.ports.set 0 { up.ports[0] with reply := .stream [3] } }) = true := by
  decide +kernel
theorem test_out_of_turn :
    answers (fun t => t == smoky 3) (exec (.zoneLineSlotCompletion 5 158) (smoky 3)) = true := by decide +kernel
theorem test_early_expiry :
    answers (fun t => t == up)
      (exec (.carReportTimeout 0) up) = true := by decide +kernel
theorem test_partial_frame :
    answers (fun t => t.ports[(2 : Fin 4)].frame.received == [0x10] && t.ports[(2 : Fin 4)].out == [0])
      (exec (.frameBegin ⟨2, [false, false, false, true, false, false, false, false, true]⟩) up) = true := by
  decide +kernel
theorem test_status_out :
    answers (fun t => t.ports[(2 : Fin 4)].out == [0, 0, 5, 0, 0, 0] && t.ports[(2 : Fin 4)].lastResult == .ok)
      (exec (.frameEnd 2 49)
        { up with
          ports := up.ports.set 2 { up.ports[2] with frame := .judged [0x15], out := [0], reply := .status [5] } }) =
      true := by
  decide +kernel
theorem test_port_reset_out :
    answers (fun t => t.ports[(2 : Fin 4)].out == [0, 0, 5] && t.ports[(2 : Fin 4)].frame == .ignoring)
      (exec (.portReset ⟨2, 25⟩)
        { up with
          ports := up.ports.set 2 { up.ports[2] with frame := .judged [0x15], out := [0], reply := .status [5] } }) =
      true := by
  decide +kernel
theorem test_starting :
    answers (fun t => t.ports[(0 : Fin 4)].lastResult == .starting) (exec (.mask 0 0) State.reset) = true := by
  decide +kernel
theorem test_tick_ends_load :
    answers (fun t => t.load == some 0 && t.pending == [.startUpLoadEnd])
      (step { State.reset with load := some 1 }) = true := by decide +kernel

/-! ## Witnesses: for each statement with hypotheses, a state and operands that meet them, clause by clause -/

/-- A port in the middle of a frame. -/
def framed (f : Frame) (r : Reply) : State :=
  { up with ports := up.ports.set 2 { up.ports[2] with frame := f, reply := r } }

/-- The bits of STATUS up to its last one. -/
def statusBits : List Bool := [false, false, false, true, false, true, false]

theorem test_hyp_ready :
    Ready up 1 (.status 1) ∧ Hears State.reset 2 (.read 2) ∧ InControl up 0 (.restart 0) ∧
      Hears (framed (.begun statusBits) .none) 2 (.status 2) ∧
      ¬ Hears (framed (.begun statusBits) .none) 2 (.read 2) :=
  ⟨⟨rfl, rfl⟩, rfl, ⟨⟨rfl, rfl⟩, rfl⟩, by unfold Hears; decide +kernel, by unfold Hears; decide +kernel⟩

theorem test_hyp_EmptyQueueLetsOneMillisecondPass :
    State.reset.pending = [] ∧ (spread.pending = [] ∧ spread.regime.spread = .running 0) ∧
      ({ spread with regime := { spread.regime with spread := .frozen 7 } } : State).regime.spread = .frozen 7 :=
  ⟨rfl, ⟨rfl, rfl⟩, rfl⟩
theorem test_hyp_CommandKeepsTheQueue :
    exec .enableInputAssert up = .next { up with enable := true } := rfl
theorem test_hyp_FrameReadsBackAsItsCommand :
    (Instr.storeWrite 3 1 2 32 (imageOf [3])).wellFormed = true ∧
      (commandBytes (.storeWrite 3 1 2 32 (imageOf [3]))).isSome = true ∧
      (Instr.unknownCommand 0 0xFF).wellFormed = true ∧
      commandBytes (.unknownCommand 0 0xFF) = some (0, [0xFF]) := by decide +kernel
theorem test_hyp_UnheardCommandChangesNothing :
    commandBytes (.read 0) = some (0, [0x12]) ∧
      ¬ Hears { up with ports := up.ports.set 0 { up.ports[0] with frame := .ignoring } } 0 (.read 0) ∧
      ¬ Hears { up with ports := up.ports.set 0 { up.ports[0] with frame := .judged [0x12] } } 0 (.read 0) ∧
      ¬ Hears { up with ports := up.ports.set 0 { up.ports[0] with frame := .begun statusBits } } 0 (.read 0) :=
  ⟨rfl, by simp [Hears, Frame.reads], by simp [Hears, Frame.reads], by unfold Hears; decide +kernel⟩
theorem test_hyp_LoadRefusesWithStarting :
    commandBytes (.notices 3) = some (3, [0x13]) ∧ (Instr.notices 3).wellFormed = true ∧
      answeredInLoad (.notices 3) = false ∧ State.reset.load ≠ none ∧ Hears State.reset 3 (.notices 3) :=
  ⟨rfl, rfl, rfl, by decide +kernel, rfl⟩
theorem test_hyp_RoleAndControlAreJudgedFirst :
    (commandBytes (.restart 1) = some (1, [0x52]) ∧ needsControl (.restart 1) = true ∧ Ready up 1 (.restart 1) ∧
      up.regime.holder ≠ some 1) ∧
    commandBytes (.takeControl 2) = some (2, [0x20]) ∧ Ready up 2 (.takeControl 2) ∧
      roleMaySend up.config.ports[(2 : Fin 4)].role (.takeControl 2) = false :=
  ⟨⟨rfl, rfl, ⟨rfl, rfl⟩, by decide +kernel⟩, rfl, ⟨rfl, rfl⟩, by decide +kernel⟩
theorem test_hyp_UnknownByteLeavesUnknown :
    namesCommand 0x16 = false ∧ namesCommand 0x53 = false ∧ Hears State.reset 0 (.unknownCommand 0 0x16) :=
  ⟨by decide, by decide, rfl⟩

/-! The standing laws hold at a state with entries, channels and an evacuation, and a step from it goes on. -/

theorem test_steps_go_on : (∃ t, step spread = .next t) ∧ ∃ t, step talk = .next t := ⟨⟨_, rfl⟩, ⟨_, rfl⟩⟩
theorem test_hyp_StepKeepsPortLaw :
    PortInv spread ∧ LoadInv up ∧ NoticeInv (framed (.judged [0x13]) (.notices 1)) := by
  refine ⟨fun p => ?_, fun h => absurd rfl h, fun _ p => ?_⟩
  · fin_cases p <;> exact ⟨by unfold PointerGood; decide +kernel, rfl, rfl⟩
  · fin_cases p
    · exact ⟨by decide +kernel, fun _ h => nomatch h⟩
    · exact ⟨by decide +kernel, fun _ h => nomatch h⟩
    · exact ⟨by decide +kernel, fun _ h => by cases h; decide +kernel⟩
    · exact ⟨by decide +kernel, fun _ h => nomatch h⟩
theorem test_hyp_StepKeepsRegimeAndHolderLaws : RegimeInv spread ∧ HolderInv spread := by
  unfold RegimeInv HolderInv; decide +kernel
theorem test_hyp_StepKeepsScannerLaw : ScannerInv spread := by
  unfold ScannerInv LineRanges RetardGood GroupTimerGood; decide +kernel
theorem test_hyp_StepKeepsLoadLaw : LoadInv spread ∧ LoadInv talk ∧ LoadInv recalled :=
  ⟨fun h => absurd rfl h, fun h => absurd rfl h, fun h => absurd rfl h⟩
theorem test_hyp_StepKeepsFloorCounts : LoadInv spread ∧ CountInv spread :=
  ⟨test_hyp_StepKeepsLoadLaw.1, by unfold CountInv; decide +kernel⟩
theorem test_hyp_StepKeepsFloorLaw :
    FloorInv spread ∧ SpreadInv spread ∧
      SpreadInv closed ∧ closed.regime.state = .active ∧ EveryFloorEvacuates closed := by
  unfold FloorInv SpreadInv; decide +kernel

/-- The directive and target of a car by its state are decidable. -/
def directiveDec (s : State) (c : Fin 12) : Decidable (DirectiveGood s c) := by
  unfold DirectiveGood; dsimp only; split <;> infer_instance

/-- The no-stop set and warning of a car are decidable. -/
def noStopDec (s : State) (c : Fin 12) : Decidable (NoStopGood s c) := by
  unfold NoStopGood FireFloor HoistwayActive; infer_instance

/-- The lift law as a test. -/
def liftGood (s : State) : Bool :=
  (s.load.isSome || decide (∀ g : Fin 3, s.lgroups[g].triggered = trigger s g ∧ s.lgroups[g].target = targetOf s g)) &&
  (List.finRange 12).all fun c =>
    decide (s.cars[c].phase = .free ↔
      ¬(s.config.cars[c].present = true ∧ s.lgroups[s.config.cars[c].group].triggered = true)) &&
    (if s.cars[c].phase = .free then
      decide (s.cars[c].directive = .none ∧ s.cars[c].target = none ∧ s.cars[c].noStop = 0 ∧
        s.cars[c].warning = false)
    else @decide _ (noStopDec s c) && @decide _ (directiveDec s c))

theorem liftInv_of_good {s : State} (h : liftGood s = true) : LiftInv s := by
  unfold liftGood at h
  simp only [Bool.and_eq_true, Bool.or_eq_true, List.all_eq_true, decide_eq_true_eq] at h
  refine ⟨fun hl => h.1.resolve_left (by simp [hl]), fun c => ?_⟩
  have hc := h.2 c (List.mem_finRange c)
  refine ⟨hc.1, fun hf => ?_, fun hf => ?_⟩
  · have h2 := hc.2
    rw [if_pos hf] at h2
    exact of_decide_eq_true h2
  · have h2 := hc.2
    rw [if_neg hf, Bool.and_eq_true] at h2
    exact ⟨@of_decide_eq_true _ (noStopDec s c) h2.1, @of_decide_eq_true _ (directiveDec s c) h2.2⟩

theorem test_hyp_StepKeepsLiftLaw :
    LiftInv spread ∧ LiftInv recalled ∧ recalled.cars[(0 : Fin 12)].phase ≠ .free ∧
      recalled.config.cars[(0 : Fin 12)].present = true ∧
      answers (fun t => t.load.isNone && t.lgroups[(0 : Fin 3)].triggered)
        (step { spread with pending := [.recallGroup 0 0] }) = true ∧
      answers (fun t => t.load.isNone && !t.lgroups[(0 : Fin 3)].triggered)
        (step { recalled with pending := [.releaseGroup 0 0] }) = true :=
  ⟨liftInv_of_good (by decide +kernel), liftInv_of_good (by decide +kernel), by decide +kernel⟩
theorem test_hyp_StepKeepsDoorLaw : DoorInv spread := by unfold DoorInv CircuitGood; decide +kernel
theorem test_hyp_StepKeepsQueueAndDemandLaws : LoadInv spread ∧ QueueInv spread ∧ DemandInv spread :=
  ⟨test_hyp_StepKeepsLoadLaw.1, by unfold QueueInv; decide +kernel, by unfold DemandInv; decide +kernel⟩
theorem test_hyp_OverrideInv :
    (RegimeInv spread ∧ OverrideInv spread ∧ spread.regime.state ≠ .quiet) ∧
      RegimeInv (overridden .forceSecure .secured up) ∧ OverrideInv (overridden .forceSecure .secured up) :=
  ⟨⟨test_hyp_StepKeepsRegimeAndHolderLaws.1, fun _ => by decide +kernel, by decide +kernel⟩,
    by unfold RegimeInv; decide +kernel, fun h => absurd rfl h⟩
/-- The law of an entry is decidable. -/
def entryDec (s : State) (sl : Fin 16) (e : Entry) : Decidable (EntryGood s sl e) := by
  unfold EntryGood; infer_instance

/-- The law of an entry as a test. -/
def entryGood (s : State) (sl : Fin 16) (e : Entry) : Bool := @decide _ (entryDec s sl e)

theorem entryInv_of_all {s : State} (h : ∀ sl : Fin 16, s.entries[sl].all (entryGood s sl) = true) : EntryInv s :=
  fun sl e he => @of_decide_eq_true _ (entryDec s sl e) ((Option.all_eq_true _ _).mp (h sl) e he)

theorem test_hyp_StepKeepsEntryLaw : EntryInv spread ∧ EntryInv talk :=
  ⟨entryInv_of_all (by decide +kernel), entryInv_of_all (by decide +kernel)⟩
theorem test_hyp_StepKeepsStoreLaw : StoreInv spread ∧ StoreInv writing := by unfold StoreInv; decide +kernel
theorem test_hyp_StepKeepsTroubleFlags : TroubleInv spread := by unfold TroubleInv; decide +kernel

/-! The entries on the channels, as data, make the laws of the announcement router decidable. -/

/-- The entry that a channel plays, if it plays one. -/
def playsAt (s : State) (c : Fin 4) : Option Entry :=
  if s.channels[c].state = .playing then s.channels[c].entry.bind fun sl => s.entries[sl] else none

theorem plays_iff (s : State) (c : Fin 4) (e : Entry) : Plays s c e ↔ e ∈ playsAt s c := by
  unfold Plays playsAt
  split <;> simp_all [Option.bind_eq_some_iff]

/-- One entry ranks above another, as a test. -/
def ranksOver (e x : Entry) : Bool :=
  decide (codeIn AnnClass.list e.cls < codeIn AnnClass.list x.cls ∨ (e.cls = x.cls ∧ e.age < x.age))

theorem ranksOver_iff (e x : Entry) : ranksOver e x = true ↔ RanksOver e x := by
  simp [ranksOver, RanksOver]

theorem ageInv_of {s : State} (h : ∀ sl : Fin 16, ∀ e ∈ s.entries[sl], e.age < entryCount s ∧
    ∀ k : Fin 16, ∀ x ∈ s.entries[k], k ≠ sl → x.age ≠ e.age) : AgeInv s :=
  fun sl e he => ⟨(h sl e he).1, fun k x hk hx => (h sl e he).2 k x hx hk⟩

theorem routeInv_of {s : State} (h : ∀ f : Fin 48,
    (s.present f = false → s.floors[f].routed = none) ∧
    (s.present f = true → s.floors[f].routed = none → ∀ c : Fin 4, ∀ e ∈ playsAt s c, e.floors.has f = false) ∧
    ∀ c : Fin 4, s.floors[f].routed = some c → ∃ e ∈ playsAt s c, e.floors.has f = true ∧
      ∀ d : Fin 4, ∀ x ∈ playsAt s d, d ≠ c → x.floors.has f = true → ranksOver e x = true) : RouteInv s := by
  intro f
  obtain ⟨h1, h2, h3⟩ := h f
  refine ⟨h1, fun hp hr c e he => h2 hp hr c e ((plays_iff s c e).mp he), fun c hc => ?_⟩
  obtain ⟨e, he, hf, hx⟩ := h3 c hc
  exact ⟨e, (plays_iff s c e).mpr he, hf, fun d x hd hp hh =>
    (ranksOver_iff e x).mp (hx d x ((plays_iff s d x).mp hp) hd hh)⟩

theorem noWait_of {s : State} (h : ∀ sl : Fin 16, ∀ e ∈ s.entries[sl], e.channel ≠ none) :
    ∀ (sl : Fin 16) (e : Entry), ¬ Waits s sl e := fun sl e hw => h sl e hw.1 hw.2

theorem assignInv_of {s : State}
    (h1 : (∀ c : Fin 4, s.channels[c].state ≠ .idle) ∨ ∀ sl : Fin 16, ∀ e ∈ s.entries[sl], e.channel ≠ none)
    (h2 : ∀ c : Fin 4, ∀ e ∈ playsAt s c,
      outrankers s e ≤ (List.finRange 4).countP fun d => s.channels[d].state == .stopping) : AssignInv s :=
  ⟨fun c hc => h1.elim (fun h => absurd hc (h c)) noWait_of, fun c e he => h2 c e ((plays_iff s c e).mp he)⟩

/-- Four TENANT announcements on the four channels; the stop timer of a channel in STOPPING has run out, and its entry
waits. -/
def crowd (stopping : Option (Fin 4)) : State :=
  { up with
    entries := tabulate fun sl =>
      if h : sl.val < 4 then
        some ⟨.tenant, 7, 0xFF, 1, 0, some 3, sl.val, if stopping = some ⟨sl.val, h⟩ then none else some ⟨sl.val, h⟩⟩
      else none
    channels := tabulate fun c =>
      if stopping = some c then ⟨.stopping, none, some 7, none, some 0, false⟩
      else ⟨.playing, some ⟨c.val, by omega⟩, some 7, some 0, none, false⟩ }

theorem channelInv_crowd : ChannelInv (crowd none) := by
  constructor
  · intro c
    fin_cases c <;> exact ⟨by decide, rfl, _, rfl, rfl, rfl⟩
  · decide +kernel
theorem channelInv_crowd_stopping : ChannelInv (crowd (some 3)) := by
  constructor
  · intro c
    fin_cases c
    · exact ⟨by decide, rfl, _, rfl, rfl, rfl⟩
    · exact ⟨by decide, rfl, _, rfl, rfl, rfl⟩
    · exact ⟨by decide, rfl, _, rfl, rfl, rfl⟩
    · exact ⟨rfl, by decide, rfl, by decide⟩
  · decide +kernel
theorem channelInv_talk : ChannelInv talk := by
  constructor
  · intro c
    fin_cases c
    · exact ⟨by decide, rfl, _, rfl, rfl, rfl⟩
    · exact ⟨by decide, rfl, _, rfl, rfl, rfl⟩
    · exact ⟨rfl, by decide, rfl, by decide⟩
    · exact ⟨rfl, rfl, rfl, rfl⟩
  · decide +kernel
theorem channelInv_spread : ChannelInv spread := by
  constructor
  · intro c
    fin_cases c
    · exact ⟨by decide, rfl, _, rfl, rfl, rfl⟩
    · exact ⟨by decide, rfl, _, rfl, rfl, rfl⟩
    · exact ⟨rfl, rfl, rfl, rfl⟩
    · exact ⟨rfl, rfl, rfl, rfl⟩
  · decide +kernel

theorem test_hyp_StepKeepsChannelLaw :
    (ChannelInv talk ∧ AgeInv talk) ∧
    (LoadInv spread ∧ ChannelInv spread ∧ EntryInv spread ∧ AgeInv spread ∧ RouteInv spread ∧ AssignInv spread) ∧
    AssignInv (crowd (some 3)) ∧
    (spread.chain.shift = none ∧ answers (fun t => t.load.isNone && pattern t != pattern spread)
      (step { spread with pending := [.evacuateAll 0] }) = true) ∧
    answers (fun t => t.load.isNone && pattern t != pattern spread)
      (step { spread with
        pending := [.evacuateAll 0], chain := { spread.chain with shift := some ⟨patternNone, 0⟩ } }) = true :=
  ⟨⟨channelInv_talk, ageInv_of (by decide +kernel)⟩,
    ⟨test_hyp_StepKeepsLoadLaw.1, channelInv_spread, test_hyp_StepKeepsEntryLaw.1, ageInv_of (by decide +kernel),
      routeInv_of (by decide +kernel), assignInv_of (.inr (by decide +kernel)) (by decide +kernel)⟩,
    assignInv_of (.inl (by decide +kernel)) (by decide +kernel), by decide +kernel, by decide +kernel⟩

/-- A store whose record 5 is a line of a mode that its kind does not allow, with an unprogrammed store otherwise. -/
def misfit : State :=
  { State.reset with
    store := State.reset.store.set 5
      { State.reset.store[5] with contents := imageOf [1, 8, 0, 0, 0, 0, 0xFFFF], programmed := true } }

theorem test_hyp_LoadedConfigurationMeetsEveryCheck :
    answers (fun t => (List.finRange 136).all fun n => !offends (storedConfig t.store) n && !t.store[n].substituted)
      (exec .powerOnReset State.reset) = true ∧
    answers (fun t => (List.finRange 6).all (fun n =>
        offends (storedConfig t.store) ⟨n.val, by omega⟩ == (n == 5)) && t.store[(5 : Fin 136)].substituted)
      (exec .powerOnReset misfit) = true ∧
    answers (fun t => t.store[(69 : Fin 136)].damaged) (exec .powerOnReset writing) = true := by decide +kernel
theorem test_hyp_LoadEndStartsTheBlocks :
    State.reset.load ≠ some 0 ∧ ({ State.reset with load := some 0, config := town } : State).load = some 0 ∧
      LoadInv { State.reset with load := some 0, config := town } :=
  ⟨by decide +kernel, rfl, fun _ =>
    ⟨rfl, by decide +kernel, by decide +kernel, rfl, by decide +kernel, by decide +kernel, by decide +kernel,
      by decide +kernel, by decide +kernel, rfl, rfl, by decide +kernel, by decide +kernel, rfl,
      fun p => by fin_cases p <;> exact ⟨rfl, fun _ h => nomatch h⟩⟩⟩
theorem test_hyp_StoreWriteEnds :
    (up.busy.map (·.remaining) ≠ some 0 ∧
      ({ up with busy := some ⟨69, 0, imageOf [], 12⟩ } : State).busy.map (·.remaining) ≠ some 0) ∧
    writing.busy = some ⟨69, 0, imageOf [150, 2200, 12000], 0⟩ ∧ up.busy = none := by decide +kernel
theorem test_hyp_EstimateOfACode :
    (974 : BitVec 10).toNat ≤ (975 : BitVec 10).toNat ∧ 975 ≤ (975 : BitVec 10).toNat ∧ (smoky 3).load = none ∧
      (smoky 3).config.lines[(3 : Fin 64)].mode = .supervised ∧ (smoky 3).lines[(3 : Fin 64)].state ≠ .isolated ∧
      (groupOf (smoky 3) 3).state ≠ .reset ∧ (groupOf (smoky 3) 3).state ≠ .settle ∧
      (smoky 3).scanSlot = some (lineSlot 3) := by decide +kernel
theorem test_hyp_CodeIsDiscardedOrMeasured :
    (State.reset.load ≠ none ∧ (smoky 3).scanSlot ≠ some 5) ∧
      ((smoky 63).load = none ∧ (smoky 63).scanSlot = some (lineSlot 63) ∧
        (smoky 63).config.lines[(63 : Fin 64)].mode = .unused) ∧
      ((smoky 6).scanSlot = some (lineSlot 6) ∧ (smoky 6).lines[(6 : Fin 64)].state = .isolated) ∧
      ((powered 3).load = none ∧ (powered 3).scanSlot = some (lineSlot 3) ∧
        (powered 3).config.lines[(3 : Fin 64)].mode = .supervised ∧ (groupOf (powered 3) 3).state = .settle) ∧
      ((powered 4).scanSlot = some (lineSlot 4) ∧ (groupOf (powered 4) 4).state = .reset ∧
        (powered 4).config.lines[(4 : Fin 64)].mode = .contact ∧
        (powered 4).lines[(4 : Fin 64)].state ≠ .isolated) ∧
      (powered 5).scanSlot = some (lineSlot 5) ∧ (groupOf (powered 5) 5).state = .window ∧
      (powered 5).config.lines[(5 : Fin 64)].mode = .supervised := by decide +kernel

/-- Line 6 as a panel-trouble contact. -/
def panel (s : State) : State :=
  { s with config := { town with lines := town.lines.set 6 ⟨.contact, .panelTrouble, 5, 0, 0, false, none⟩ } }

/-- Line 6 as a member of a power group that is of no fire kind, which no configuration check lets through. -/
def windowed (s : State) : State :=
  { s with config := { town with lines := town.lines.set 6 ⟨.supervised, .panelTrouble, 5, 0, 0, false, none⟩ } }

/-- A code with which a band qualifies on line 3, for each band. -/
theorem test_hyp_qualifies :
    Qualifies (nearly 3 .normal none .alarm 2 [602]) 3 158 .alarm ∧
      Qualifies (nearly 3 .troubleOpen (some .openLoop) .normal 2 []) 3 602 .normal ∧
      Qualifies (nearly 3 .normal (some .normal) .openLoop 41 []) 3 1023 .openLoop ∧
      Qualifies (nearly 3 .troubleOpen (some .openLoop) .short 41 []) 3 0 .short := by
  unfold Qualifies; decide +kernel
theorem test_hyp_FireLineEntersActive :
    (Qualifies (smoky 3) 3 158 .alarm ∧ (smoky 3).lines[(3 : Fin 64)].state = .normal ∧
      LineKind.fire (smoky 3).config.lines[(3 : Fin 64)].kind = true ∧
      (smoky 3).config.lines[(3 : Fin 64)].kind ≠ .flow ∧
      (smoky 3).config.lines[(3 : Fin 64)].verification = false ∧ (smoky 3).regime.state = .quiet) ∧
    (Qualifies { smoky 5 with regime := spread.regime } 5 158 .alarm ∧
      Qualifies { smoky 3 with regime := held.regime } 3 158 .alarm) ∧
    (Qualifies (smoky 4) 4 0 .alarm ∧ (smoky 4).lines[(4 : Fin 64)].state = .normal ∧
      (smoky 4).config.lines[(4 : Fin 64)].kind = .flow ∧ 0 < (smoky 4).config.system.flowRetard ∧
      (smoky 4).config.lines[(4 : Fin 64)].mode ≠ .supervised) ∧
    (Qualifies (nearly 3 .active none .normal 2 []) 3 602 .normal ∧
      (nearly 3 .active none .normal 2 []).lines[(3 : Fin 64)].state = .active) ∧
    (Qualifies (nearly 6 .active (some .normal) .alarm 2 []) 6 0 .alarm ∧
      LineKind.fire town.lines[(6 : Fin 64)].kind = false) ∧
    (Qualifies (nearly 6 .active (some .alarm) .normal 2 []) 6 1023 .normal ∧
      Qualifies (nearly 6 .normal (some .normal) .alarm 2 []) 6 0 .alarm ∧
      town.lines[(6 : Fin 64)].kind = .doorPosition) ∧
    (Qualifies (panel (nearly 6 .normal none .alarm 2 [])) 6 0 .alarm ∧
      (panel up).config.lines[(6 : Fin 64)].kind = .panelTrouble) ∧
    up.lines[(4 : Fin 64)].retard ≠ some 0 ∧
    (smoky 0).lines[(4 : Fin 64)].retard = some 0 ∧ (smoky 0).load = none ∧
      (smoky 0).lines[(4 : Fin 64)].state = .normal := by
  refine ⟨?_, ?_, ?_, ?_, ?_, ?_, ?_, ?_⟩ <;> (try unfold Qualifies) <;> decide +kernel
theorem test_hyp_VerificationRunsItsStages :
    (Qualifies (smoky 5) 5 158 .alarm ∧ (smoky 5).config.lines[(5 : Fin 64)].mode = .supervised ∧
      (smoky 5).config.lines[(5 : Fin 64)].kind = .smoke ∧
      (smoky 5).config.lines[(5 : Fin 64)].verification = true ∧
      (smoky 5).lines[(5 : Fin 64)].state = .normal ∧ (groupOf (smoky 5) 5).state = .idle ∧
      (smoky 5).regime.state ≠ .active) ∧
    (Qualifies (nearly 5 .verifying none .alarm 2 [602]) 5 158 .alarm ∧
      (groupOf (nearly 5 .verifying none .alarm 2 [602]) 5).state = .window ∧
      (nearly 5 .verifying none .alarm 2 [602]).lines[(5 : Fin 64)].state = .verifying ∧
      (Qualifies (windowed (nearly 6 .normal none .alarm 2 [602])) 6 158 .alarm ∧
        LineKind.fire (windowed up).config.lines[(6 : Fin 64)].kind = false ∧
        (groupOf (windowed (nearly 6 .normal none .alarm 2 [602])) 6).state = .window) ∧
      (nearly 3 .troubleOpen none .alarm 2 [602]).lines[(3 : Fin 64)].state = .troubleOpen ∧
      (groupOf (nearly 3 .troubleOpen none .alarm 2 [602]) 3).state = .window) ∧
    (Qualifies (nearly 5 .verifying none .normal 2 []) 5 602 .normal ∧
      Qualifies (nearly 5 .verifying none .openLoop 41 []) 5 1023 .openLoop ∧
      Qualifies (nearly 5 .verifying none .short 41 []) 5 0 .short) ∧
    up.pgroups[(0 : Fin 8)].timer ≠ some 0 ∧
    (∀ g : Fin 8, (powered 0).pgroups[g].timer = some 0) ∧ (powered 0).pgroups[(0 : Fin 8)].state = .reset ∧
      (powered 0).pgroups[(1 : Fin 8)].state = .settle ∧ (powered 0).pgroups[(7 : Fin 8)].state = .window := by
  refine ⟨?_, ?_, ?_, ?_⟩ <;> (try unfold Qualifies) <;> decide +kernel
theorem test_hyp_LinesAreIsolatedAndRestored :
    InControl (smoky 0) 0 (.isolateLine 0 64) ∧ InControl (smoky 0) 0 (.restoreLine 0 64) ∧ 64 ≤ (64 : Byte).toNat ∧
      InControl (smoky 0) 0 (.isolateLine 0 (BitVec.ofNat 8 (3 : Fin 64).val)) ∧
      InControl (smoky 0) 0 (.restoreLine 0 (BitVec.ofNat 8 (6 : Fin 64).val)) ∧
      (smoky 0).lines[(6 : Fin 64)].state = .isolated :=
  ⟨⟨⟨rfl, rfl⟩, rfl⟩, ⟨⟨rfl, rfl⟩, rfl⟩, by decide +kernel, ⟨⟨rfl, rfl⟩, rfl⟩, ⟨⟨rfl, rfl⟩, rfl⟩, by decide +kernel⟩

theorem test_hyp_ConsoleControlIsTakenAndReleased :
    (Hears up 0 (.takeControl 0) ∧ up.regime.holder = some 0) ∧ Hears up 1 (.takeControl 1) ∧
      up.config.ports[(0 : Fin 4)].rank < up.config.ports[(1 : Fin 4)].rank ∧ Hears up 0 (.releaseControl 0) :=
  ⟨⟨rfl, rfl⟩, rfl, by decide +kernel, rfl⟩
theorem test_hyp_AcknowledgeStartsTheInvestigation :
    InControl held 0 (.acknowledge 0) ∧ held.regime.state = .holdAck := ⟨⟨⟨rfl, rfl⟩, rfl⟩, rfl⟩
theorem test_hyp_RegimeTimersExpire :
    (up.regime.hold ≠ some 0 ∧ up.regime.inhibit ≠ some 0 ∧ up.regime.spread ≠ .running 0) ∧
    (held.load = none ∧ held.regime.hold = some 0 ∧ held.regime.state ≠ .active) ∧
      spread.regime.inhibit = some 0 ∧ spread.regime.spread = .running 0 ∧ spread.regime.state = .active ∧
      0 < spread.config.system.spreadInterval ∧
    (closing.load = none ∧ closing.regime.spread = .running 0 ∧ closing.regime.state = .active ∧
      closing.lines[(4 : Fin 64)].retard = some 0 ∧ closing.config.lines[(4 : Fin 64)].kind = .flow ∧
      closing.lines[(4 : Fin 64)].state = .normal) ∧
    (Qualifies { smoky 3 with regime := spread.regime } 3 158 .alarm ∧
      (smoky 3).lines[(3 : Fin 64)].state = .normal ∧ (smoky 3).config.lines[(3 : Fin 64)].kind = .smoke) := by
  refine ⟨?_, ?_, ?_, ?_, ?_, ?_, ?_, ?_⟩ <;> (try unfold Qualifies) <;> decide +kernel
theorem test_hyp_SilenceAndResound :
    (InControl spread 0 (.silence 0) ∧ spread.regime.state = .active) ∧
      InControl { spread with regime := { spread.regime with silenced := true } } 0 (.resound 0) :=
  ⟨⟨⟨⟨rfl, rfl⟩, rfl⟩, rfl⟩, ⟨rfl, rfl⟩, rfl⟩
theorem test_hyp_EvacuateAllEvacuatesEveryFloor :
    InControl up 0 (.evacuateAll 0) ∧ InControl spread 0 (.evacuateAll 0) := ⟨⟨⟨rfl, rfl⟩, rfl⟩, ⟨rfl, rfl⟩, rfl⟩
theorem test_hyp_SpreadIsHeldAndResumed :
    (InControl spread 0 (.spreadHold 0) ∧ ¬ EveryFloorEvacuates spread) ∧
      InControl { spread with regime := { spread.regime with spread := .frozen 0, spreadHeld := true } } 0
        (.spreadResume 0) := ⟨⟨⟨⟨rfl, rfl⟩, rfl⟩, by decide +kernel⟩, ⟨rfl, rfl⟩, rfl⟩
theorem test_hyp_ResetRegimeReturnsToQuiet :
    InControl up 0 (.resetRegime 0) ∧ InControl held 0 (.resetRegime 0) ∧ InControl spread 0 (.resetRegime 0) :=
  ⟨⟨⟨rfl, rfl⟩, rfl⟩, ⟨⟨rfl, rfl⟩, rfl⟩, ⟨rfl, rfl⟩, rfl⟩

theorem test_hyp_CarReportIsJudged :
    Ready recalled 2 (.carReport 2 0 7 0 0 0) ∧ HasRole recalled 2 .lift ∧
      recalled.config.cars[(0 : Fin 12)].present = true ∧
      recalled.config.lgroups[recalled.config.cars[(0 : Fin 12)].group].reportPort = 2 :=
  ⟨⟨rfl, rfl⟩, ⟨rfl, by decide +kernel⟩, by decide +kernel, by decide +kernel⟩
theorem test_hyp_ReportTimeoutLosesTheCar :
    up.cars[(0 : Fin 12)].timer ≠ some 0 ∧ recalled.cars[(0 : Fin 12)].timer = some 0 := by decide +kernel
theorem test_hyp_ManualRecallIsSetAndCleared :
    InControl spread 0 (.recallGroup 0 0) ∧ InControl recalled 0 (.releaseGroup 0 0) ∧
      automaticCause recalled 0 = false ∧ recalled.lgroups[(0 : Fin 3)].manual = true :=
  ⟨⟨⟨rfl, rfl⟩, rfl⟩, ⟨⟨rfl, rfl⟩, rfl⟩, by decide +kernel, by decide +kernel⟩

theorem test_hyp_DoorReadingIsTakenOrDiscarded :
    (State.reset.load ≠ none ∧ (wired 64).scanSlot ≠ some 65) ∧
    ((wired 95).scanSlot = some (doorSlot 31) ∧ (wired 95).load = none ∧
      (wired 95).config.doors[(31 : Fin 32)].present = false) ∧
    ((wired 64).load = none ∧ (wired 64).scanSlot = some (doorSlot 0) ∧
      (wired 64).config.doors[(0 : Fin 32)].present = true ∧ (wired 64).doors[(0 : Fin 32)].state = .on ∧
      (wired 64).doors[(0 : Fin 32)].trips = 0) ∧
    (wired 65).scanSlot = some (doorSlot 1) ∧ (wired 65).config.doors[(1 : Fin 32)].present = true ∧
      (wired 65).doors[(1 : Fin 32)].state = .on ∧
      (wired 65).config.system.overCurrent ≤ (461 : BitVec 10).toNat * 1000 / 512 ∧
      (wired 65).doors[(1 : Fin 32)].candidate = some .over ∧ (wired 65).doors[(1 : Fin 32)].count = 1 ∧
      (wired 65).doors[(1 : Fin 32)].trips = 6 ∧
    ((3 : BitVec 10).toNat * 1000 / 512 < (sensed .openCircuit 41 false).config.system.openCurrent ∧
      (sensed .openCircuit 41 false).doors[(0 : Fin 32)].candidate = some .openCircuit ∧
      (sensed .normal 2 true).doors[(0 : Fin 32)].count = 2 ∧
      (sensed .over 0 true).scanSlot = some (doorSlot 0)) := by decide +kernel
theorem test_hyp_DoorTimersExpire :
    (State.reset.stagger ≠ some 0 ∧ up.dgroups[(0 : Fin 16)].openWait ≠ some 0 ∧
      up.doors[(0 : Fin 32)].cool ≠ some 0) ∧
    (spread.stagger = some 0 ∧ spread.resecure = []) ∧ (up.stagger = some 0 ∧ up.resecure = [0]) ∧
      (wired 0).dgroups[(15 : Fin 16)].openWait = some 0 ∧ (wired 0).doors[(31 : Fin 32)].cool = some 0 := by
  decide +kernel

theorem test_hyp_DoorOverrideIsSet :
    InControl up 0 (.doorOverride 0 0 1) ∧
      (InControl (overridden .forceRelease .released up) 0 (.doorOverride 0 0 0) ∧
        ¬ AutoDemand (overridden .forceRelease .released up) 0) ∧
      (InControl (overridden .forceSecure .secured up) 0 (.doorOverride 0 0 0) ∧
        ¬ AutoDemand (overridden .forceSecure .secured up) 0) ∧
      (InControl (overridden .forceSecure .secured spread) 0 (.doorOverride 0 0 0) ∧
        AutoDemand (overridden .forceSecure .secured spread) 0) ∧
      InControl (overridden .forceRelease .released spread) 0 (.doorOverride 0 0 0) ∧
        AutoDemand (overridden .forceRelease .released spread) 0 := by
  refine ⟨⟨⟨rfl, rfl⟩, rfl⟩, ⟨⟨⟨rfl, rfl⟩, rfl⟩, ?_⟩, ⟨⟨⟨rfl, rfl⟩, rfl⟩, ?_⟩, ⟨⟨⟨rfl, rfl⟩, rfl⟩, 0, ?_⟩,
    ⟨⟨rfl, rfl⟩, rfl⟩, 0, ?_⟩
  · change ¬ ∃ c : Fin 32, _; decide +kernel
  · change ¬ ∃ c : Fin 32, _; decide +kernel
  · decide +kernel
  · decide +kernel
theorem test_hyp_DoorFaultIsCleared :
    Hears (wired 0) 0 (.clearDoorFault 0 1) ∧ Hears State.reset 0 (.clearDoorFault 0 0) := ⟨rfl, rfl⟩

theorem test_hyp_PostCreatesAnEntry :
    (Ready up 3 (.postAnnouncement 3 (BitVec.ofNat 8 (codeIn AnnClass.list .tenant)) 7 0xFF 15) ∧
      up.config.ports[(3 : Fin 4)].role = .voice ∧ (15 : Byte).toNat ≤ 15 ∧ postedCount up < 14 ∧
      up.entries[(0 : Fin 16)] = none ∧ keptFloors up .tenant 0xFF ≠ 0 ∧
      postedCount { full with entries := full.entries.set 13 none } = 13) ∧
    (Ready full 0 (.postAnnouncement 0 0 9 0xFF 0) ∧ full.config.ports[(0 : Fin 4)].role = .console ∧
      full.regime.holder = some 0 ∧
      (∀ j : Fin 16, j.val < 14 → full.entries[j] ≠ none) ∧ 14 ≤ postedCount full ∧
      full.entries[(13 : Fin 16)] = some ⟨.tenant, 7, 0xFF, 1, 0, some 3, 13, none⟩ ∧
      (∀ j : Fin 16, j ≠ 13 → full.entries[j].all (fun e => e.age < 13) = true) ∧
      keptFloors full .console 0xFF ≠ 0) ∧
    ((ChannelInv talk ∧ ∀ (sl : Fin 16) (e : Entry), ¬ Waits talk sl e) ∧
      Ready talk 3 (.postAnnouncement 3 (BitVec.ofNat 8 (codeIn AnnClass.list .tenant)) 7 0xFF 1) ∧
      postedCount talk < 14 ∧ talk.entries[(2 : Fin 16)] = none ∧ (∀ j : Fin 16, j < 2 → talk.entries[j] ≠ none) ∧
      keptFloors talk .tenant 0xFF ≠ 0 ∧ talk.channels[(3 : Fin 4)].state = .idle ∧
      ∀ d : Fin 4, d < 3 → talk.channels[d].state ≠ .idle) ∧
    (ChannelInv (crowd none) ∧ ∀ (sl : Fin 16) (e : Entry), ¬ Waits (crowd none) sl e) ∧
      Ready (crowd none) 0 (.postAnnouncement 0 0 9 0xFF 0) ∧ (crowd none).entries[(4 : Fin 16)] = none ∧
      (∀ j : Fin 16, j < 4 → (crowd none).entries[j] ≠ none) ∧ keptFloors (crowd none) .console 0xFF ≠ 0 ∧
      (∀ d : Fin 4, (crowd none).channels[d].state = .playing) ∧
      playsAt (crowd none) 3 = some ⟨.tenant, 7, 0xFF, 1, 0, some 3, 3, some 3⟩ ∧
      ∀ d : Fin 4, ∀ x ∈ playsAt (crowd none) d, d ≠ 3 →
        ranksOver x ⟨.tenant, 7, 0xFF, 1, 0, some 3, 3, some 3⟩ = true :=
  ⟨⟨⟨rfl, rfl⟩, by decide +kernel⟩, ⟨⟨rfl, rfl⟩, by decide +kernel⟩,
    ⟨⟨channelInv_talk, noWait_of (by decide +kernel)⟩, ⟨rfl, rfl⟩, by decide +kernel⟩,
    ⟨channelInv_crowd, noWait_of (by decide +kernel)⟩, ⟨rfl, rfl⟩, by decide +kernel⟩
theorem test_hyp_PostIsRefused :
    Ready up 0 (.postAnnouncement 0 0 9 0xFF 0) ∧ up.config.ports[(0 : Fin 4)].role = .console ∧
      Ready full 3 (.postAnnouncement 3 3 7 0xFF 1) ∧ full.config.ports[(3 : Fin 4)].role = .voice :=
  ⟨⟨rfl, rfl⟩, by decide +kernel, ⟨rfl, rfl⟩, by decide +kernel⟩
theorem test_hyp_CancelRemovesTheEntry :
    Ready talk 3 (.cancelAnnouncement 3 0 7) ∧ talk.config.ports[(3 : Fin 4)].role = .voice ∧
      talk.entries[(0 : Fin 16)].map (·.origin) = some (some 3) :=
  ⟨⟨rfl, rfl⟩, by decide +kernel, by decide +kernel⟩
theorem test_hyp_PlayEndIsJudged :
    Ready talk 3 (.playEnd 3 0 7) ∧ HasRole talk 3 .voice ∧ talk.channels[(0 : Fin 4)].state = .playing ∧
      talk.channels[(2 : Fin 4)].state = .stopping ∧ talk.channels[(3 : Fin 4)].state = .idle :=
  ⟨⟨rfl, rfl⟩, ⟨rfl, by decide +kernel⟩, by decide +kernel⟩
theorem test_hyp_ChannelTimersExpire :
    (up.channels[(2 : Fin 4)].stop ≠ some 0 ∧ up.channels[(2 : Fin 4)].play ≠ some 0) ∧
    (talk.channels[(2 : Fin 4)].stop = some 0 ∧ talk.channels[(2 : Fin 4)].state = .stopping ∧
      ∀ (sl : Fin 16) (e : Entry), ¬ Waits talk sl e) ∧
    ((crowd (some 3)).channels[(3 : Fin 4)].stop = some 0 ∧ (crowd (some 3)).channels[(3 : Fin 4)].state = .stopping ∧
      (∀ d : Fin 4, (crowd (some 3)).channels[d].state ≠ .idle) ∧ ChannelInv (crowd (some 3)) ∧
      AgeInv (crowd (some 3)) ∧ Waits (crowd (some 3)) 3 ⟨.tenant, 7, 0xFF, 1, 0, some 3, 3, none⟩ ∧
      ∀ k : Fin 16, k ≠ 3 → ∀ e ∈ (crowd (some 3)).entries[k], e.channel ≠ none) ∧
      talk.channels[(0 : Fin 4)].play = some 0 ∧ talk.channels[(0 : Fin 4)].entry = some 0 ∧
      talk.entries[(0 : Fin 16)] = some ⟨.tenant, 7, 0xFF, 1, 0, some 3, 0, some 0⟩ :=
  ⟨by decide +kernel, ⟨rfl, rfl, noWait_of (by decide +kernel)⟩,
    ⟨by decide +kernel, by decide +kernel, by decide +kernel, channelInv_crowd_stopping, ageInv_of (by decide +kernel),
      ⟨by decide +kernel, rfl⟩, by decide +kernel⟩, by decide +kernel⟩
theorem test_hyp_RoutingChainShifts :
    (up.chain.refresh ≠ some 0 ∧ up.chain.shift.map (·.remaining) ≠ some 0) ∧
    ({ up with chain := { chainReset with refresh := some 0 } } : State).chain.refresh = some 0 ∧
      ({ up with chain := { chainReset with shift := some ⟨patternNone, 0⟩, due := true } } : State).chain.shift =
        some ⟨patternNone, 0⟩ := by decide +kernel

theorem test_hyp_FramesBeginAndEnd :
    ([true, false] : List Bool).length < 8 ∧ frameOpen (receivedBytes (wireBits [0x12])) = false ∧
      frameOpen (receivedBytes (wireBits [0x16])) = false ∧
      (frameOpen (receivedBytes []) = true ∧ frameOpen (receivedBytes statusBits) = true ∧
        frameOpen (receivedBytes (wireBits [0x11, 0, 1, 0, 4])) = true) ∧
      (commandBytes (.status 2) = some (2, [0x15]) ∧ Hears (framed (.begun statusBits) .none) 2 (.status 2) ∧
        answers (fun t => t.load == none) (exec (.status 2) (framed (.begun statusBits) .none)) = true ∧
        Hears up 2 (.status 2) ∧ answers (fun t => t.load == none) (exec (.status 2) up) = true) ∧
      (NextReply up { up.ports[2] with reply := .stream [7] } [0, 7] ∧
        NextReply up { up.ports[2] with reply := .stream [] } [0, 0] ∧
        NextReply up { up.ports[2] with reply := .notices 1 } [0, 1]) :=
  ⟨by decide, by decide +kernel, by decide +kernel, by decide +kernel,
    ⟨rfl, by unfold Hears; decide +kernel, by decide +kernel, rfl, by decide +kernel⟩, rfl,
    ⟨rfl, by decide +kernel⟩, rfl⟩
theorem test_hyp_SelectAndWindowSetThePointer :
    Hears up 3 (.select 3 1 7 4) ∧ Hears State.reset 0 (.window 0 0 0 0 14 1) ∧
      Hears (framed (.begun (wireBits [0x10, 1])) .none) 2 (.select 2 1 7 4) :=
  ⟨rfl, rfl, by unfold Hears; decide +kernel⟩
theorem test_hyp_ReadStreamsTheWindow :
    Hears up 2 (.read 2) ∧ (framed (.judged [0x12]) .dummy).ports[(2 : Fin 4)].reply = .dummy ∧
      (framed (.judged [0x12]) (.stream [])).ports[(2 : Fin 4)].reply = .stream [] ∧
      (framed (.judged [0x12]) (.stream [7])).ports[(2 : Fin 4)].reply = .stream [7] ∧
      up.resecure[(0 : Fin 16).val]? = some 0 ∧ (1 : Fin 16) ∉ up.resecure :=
  ⟨rfl, by decide +kernel⟩
theorem test_hyp_NoticesAreTakenAndMasked :
    (Ready up 2 (.notices 2) ∧ Ready up 2 (.mask 2 0x7FF) ∧ up.ports[(2 : Fin 4)].reply = .none) ∧
      (framed (.judged [0x13]) (.notices 1)).ports[(2 : Fin 4)].reply = .notices 1 :=
  ⟨⟨⟨rfl, rfl⟩, ⟨rfl, rfl⟩, by decide +kernel⟩, by decide +kernel⟩
theorem test_hyp_StatusAnswersEightWords :
    Hears State.reset 3 (.status 3) ∧ Hears up 0 (.status 0) ∧ Hears (framed (.begun statusBits) .none) 2 (.status 2) :=
  ⟨rfl, rfl, by unfold Hears; decide +kernel⟩
theorem test_hyp_StoreWriteIsJudged :
    Ready up 1 (.storeWrite 1 3 0 0 (imageOf [150, 2200, 12000])) ∧ HasRole up 1 .console :=
  ⟨⟨rfl, rfl⟩, rfl, by decide +kernel⟩
theorem test_hyp_CheckConfigFindsTheFirstOffender :
    Hears up 1 (.checkConfig 1) ∧ Hears writing 0 (.checkConfig 0) := ⟨rfl, rfl⟩
theorem test_hyp_RestartBeginsAPowerOnReset :
    Hears up 0 (.restart 0) ∧ Hears { up with enable := true } 0 (.restart 0) ∧ up.regime.holder = some 0 :=
  ⟨rfl, rfl, rfl⟩

end Sys2Proof.Tests
end

section
/-! SUPPORT. What a step leaves to the line scanner: the steps of every other unit keep the load, the configuration, the zone lines and the power groups. -/

namespace Sys2Proof.Machine

/-! ## The judgement of a command keeps a property -/

@[simp] theorem accept_state (s : State) : (accept s).1 = s := rfl
@[simp] theorem refuse_state (r : Result) (s : State) : (refuse r s).1 = s := rfl

/-- A property that opening the frame, the command's own rule and setting the result keep is kept by the command. -/
theorem command_preserves {P : State → Prop} {p : Fin 4} {bytes : List Byte} {body : State → State × Result}
    {s : State} (hopen : P s → P (s.setPort p (openFrame bytes s.ports[p])))
    (hbody : ∀ u, P u → P (body u).1) (hresult : ∀ r u, P u → P (setResult p r u)) (h : P s) :
    P (command p bytes body s) := by
  unfold command
  split
  · exact hresult _ _ (hbody _ (hopen h))
  · exact h

/-- A command refused during the load keeps what its own rule keeps after the load (R170). -/
theorem afterLoad_preserves {P : State → Prop} {body : State → State × Result} {s : State}
    (hbody : s.load = none → P (body s).1) (h : P s) : P (afterLoad body s).1 := by
  by_cases hl : s.load = none
  · rw [afterLoad_ready hl]; exact hbody hl
  · rw [afterLoad_loading hl]; exact h

/-- A controlled command keeps what its own rule keeps for the holder after the load (R48). -/
theorem controlled_preserves {P : State → Prop} {p : Fin 4} {body : State → State × Result} {s : State}
    (hbody : s.load = none → P (body s).1) (h : P s) : P (controlled p body s).1 := by
  refine afterLoad_preserves (fun hl => ?_) h
  split
  · exact hbody hl
  · exact h

/-- What holds of the state that an outcome brings. -/
theorem of_next {P : State → Prop} {s t : State}
    (h : (Host.Outcome.next s : Host.Outcome State Fault Refusal) = .next t) (k : P s) : P t :=
  Host.Outcome.next.inj h ▸ k

/-! ## One millisecond -/

theorem tick_line (s : State) (i : Fin 64) :
    (tick s).lines[i] = { s.lines[i] with retard := tickTimer s.lines[i].retard } := getElem_tabulate _ _ _

theorem tick_pgroup (s : State) (g : Fin 8) :
    (tick s).pgroups[g] = { s.pgroups[g] with timer := tickTimer s.pgroups[g].timer } := getElem_tabulate _ _ _

theorem tick_car (s : State) (c : Fin 12) :
    (tick s).cars[c] = { s.cars[c] with timer := tickTimer s.cars[c].timer } := getElem_tabulate _ _ _

theorem tick_door (s : State) (c : Fin 32) :
    (tick s).doors[c] = { s.doors[c] with cool := tickTimer s.doors[c].cool } := getElem_tabulate _ _ _

theorem tick_dgroup (s : State) (g : Fin 16) :
    (tick s).dgroups[g] = { s.dgroups[g] with openWait := tickTimer s.dgroups[g].openWait } := getElem_tabulate _ _ _

theorem tick_channel (s : State) (c : Fin 4) : (tick s).channels[c] = tickChannel s.channels[c] :=
  getElem_tabulate _ _ _

/-- A timer runs after a millisecond exactly when it ran before. -/
theorem tickTimer_eq_none_iff (t : Option Nat) : tickTimer t = none ↔ t = none := by
  cases t <;> simp [tickTimer]

/-! ## What other units leave to the scanner -/

/-- The load, the configuration, the zone lines and the power groups are as they were. -/
def ScannerKept (s t : State) : Prop :=
  t.load = s.load ∧ t.config = s.config ∧ t.lines = s.lines ∧ t.pgroups = s.pgroups

theorem ScannerKept.refl (s : State) : ScannerKept s s := ⟨rfl, rfl, rfl, rfl⟩

theorem ScannerKept.trans {s t u : State} (h : ScannerKept s t) (k : ScannerKept t u) : ScannerKept s u :=
  ⟨k.1.trans h.1, k.2.1.trans h.2.1, k.2.2.1.trans h.2.2.1, k.2.2.2.trans h.2.2.2⟩

/-- An event that takes effect only on a condition. -/
theorem ScannerKept.ite {c : Prop} [Decidable c] {s t : State} (h : ScannerKept s t) :
    ScannerKept s (if c then t else s) := by
  split
  · exact h
  · exact .refl s

theorem scannerKept_command {p : Fin 4} {bytes : List Byte} {body : State → State × Result} {s : State}
    (h : ∀ u, ScannerKept u (body u).1) : ScannerKept s (command p bytes body s) :=
  command_preserves (fun k => k.trans (by simp [ScannerKept])) (fun u k => k.trans (h u))
    (fun _ _ k => k.trans (by simp [ScannerKept])) (.refl s)

theorem scannerKept_afterLoad {body : State → State × Result} (h : ∀ u, ScannerKept u (body u).1) (s : State) :
    ScannerKept s (afterLoad body s).1 :=
  afterLoad_preserves (fun _ => h s) (.refl s)

theorem scannerKept_controlled {p : Fin 4} {body : State → State × Result} (h : ∀ u, ScannerKept u (body u).1)
    (s : State) : ScannerKept s (controlled p body s).1 :=
  controlled_preserves (fun _ => h s) (.refl s)

/-! ## The commands' own rules -/

theorem takeControlBody_keeps_scanner {p : Fin 4} (s : State) : ScannerKept s (takeControlBody p s).1 := by
  unfold takeControlBody
  (repeat' split) <;> simp [ScannerKept]

theorem releaseControlBody_keeps_scanner (s : State) : ScannerKept s (releaseControlBody s).1 := by
  simp [releaseControlBody, ScannerKept]

theorem acknowledgeBody_keeps_scanner (s : State) : ScannerKept s (acknowledgeBody s).1 := by
  unfold acknowledgeBody
  (repeat' split) <;> simp [ScannerKept]

theorem silenceBody_keeps_scanner (s : State) : ScannerKept s (silenceBody s).1 := by
  unfold silenceBody
  (repeat' split) <;> simp [ScannerKept]

theorem resoundBody_keeps_scanner (s : State) : ScannerKept s (resoundBody s).1 := by
  unfold resoundBody
  split <;> simp [ScannerKept]

theorem evacuateAllBody_keeps_scanner (s : State) : ScannerKept s (evacuateAllBody s).1 := by
  unfold evacuateAllBody
  dsimp only
  (repeat' split) <;> simp [ScannerKept]

theorem spreadHoldBody_keeps_scanner (s : State) : ScannerKept s (spreadHoldBody s).1 := by
  unfold spreadHoldBody
  (repeat' split) <;> simp [ScannerKept]

theorem spreadResumeBody_keeps_scanner (s : State) : ScannerKept s (spreadResumeBody s).1 := by
  unfold spreadResumeBody
  split <;> simp [ScannerKept]

theorem recallGroupBody_keeps_scanner {b : Byte} (s : State) : ScannerKept s (recallGroupBody b s).1 := by
  unfold recallGroupBody
  (repeat' split) <;> simp [ScannerKept]

theorem releaseGroupBody_keeps_scanner {b : Byte} (s : State) : ScannerKept s (releaseGroupBody b s).1 := by
  unfold releaseGroupBody
  (repeat' split) <;> simp [ScannerKept]

theorem carReportBody_keeps_scanner {p : Fin 4} {c x m d v : Byte} (s : State) :
    ScannerKept s (carReportBody p c x m d v s).1 := by
  unfold carReportBody
  dsimp only
  (repeat' split) <;> simp [ScannerKept, takeReport]

theorem doorOverrideBody_keeps_scanner {g o : Byte} (s : State) : ScannerKept s (doorOverrideBody g o s).1 := by
  unfold doorOverrideBody overrideGroup
  (repeat' split) <;> simp [ScannerKept]

theorem clearDoorFaultBody_keeps_scanner {c : Byte} (s : State) : ScannerKept s (clearDoorFaultBody c s).1 := by
  unfold clearDoorFaultBody
  (repeat' split) <;> simp [ScannerKept]

theorem postJudged_keeps_scanner {p : Fin 4} {k : AnnClass} {m : Byte} {fs : FloorSet} {n : Nat} (s : State) :
    ScannerKept s (postJudged p k m fs n s).1 := by
  have room {u : State} (h : roomFor k s = some u) : ScannerKept s u := by
    unfold roomFor at h
    split at h
    · cases h; exact .refl s
    · split at h
      · obtain ⟨sl, -, rfl⟩ := Option.map_eq_some_iff.mp h
        simp [ScannerKept]
      all_goals cases h
  unfold postJudged
  split
  · exact .refl s
  · split
    · exact .refl s
    · split
      · exact .refl s
      · next u hu =>
        refine (room hu).trans ?_
        unfold postEntry
        split <;> simp [ScannerKept]

theorem postBody_keeps_scanner {p : Fin 4} {k m : Byte} {fs : FloorSet} {n : Byte} (s : State) :
    ScannerKept s (postBody p k m fs n s).1 := by
  unfold postBody
  (repeat' split) <;> simp [ScannerKept.refl, postJudged_keeps_scanner]

theorem cancelBody_keeps_scanner {p : Fin 4} {sl m : Byte} (s : State) : ScannerKept s (cancelBody p sl m s).1 := by
  unfold cancelBody
  (repeat' split) <;> simp [ScannerKept]

theorem playEndBody_keeps_scanner {p : Fin 4} {c m : Byte} (s : State) : ScannerKept s (playEndBody p c m s).1 := by
  unfold playEndBody
  (repeat' split) <;> simp [ScannerKept]

theorem storeWriteBody_keeps_scanner {p : Fin 4} {k n e : Byte} {im : Image} (s : State) :
    ScannerKept s (storeWriteBody p k n e im s).1 := by
  unfold storeWriteBody storeWriteRecord
  (repeat' split) <;> simp [ScannerKept]

theorem checkConfigBody_keeps_scanner {p : Fin 4} (s : State) : ScannerKept s (checkConfigBody p s).1 := by
  unfold checkConfigBody
  (repeat' split) <;> simp [ScannerKept]

theorem selectBody_keeps_scanner {p : Fin 4} {t r f : Byte} (s : State) : ScannerKept s (selectBody p t r f s).1 := by
  unfold selectBody
  (repeat' split) <;> simp [ScannerKept]

theorem windowBody_keeps_scanner {p : Fin 4} {fr lr ff lf o : Byte} (s : State) :
    ScannerKept s (windowBody p fr lr ff lf o s).1 := by
  unfold windowBody
  (repeat' split) <;> simp [ScannerKept]

theorem readBody_keeps_scanner {p : Fin 4} (s : State) : ScannerKept s (readBody p s).1 := by
  simp [readBody, ScannerKept]

theorem noticesBody_keeps_scanner {p : Fin 4} (s : State) : ScannerKept s (noticesBody p s).1 := by
  simp [noticesBody, ScannerKept]

theorem maskBody_keeps_scanner {p : Fin 4} {w : Word} (s : State) : ScannerKept s (maskBody p w s).1 := by
  unfold maskBody
  split <;> simp [ScannerKept]

theorem statusBody_keeps_scanner {p : Fin 4} (s : State) : ScannerKept s (statusBody p s).1 := by
  simp [statusBody, ScannerKept]

/-! ## The steps -/

/-- The steps of the line scanner, and those that begin and end the start-up load. -/
def scannerActs : Instr → Bool
  | .powerOnReset | .startUpLoadEnd | .restart _ => true
  | .zoneLineSlotCompletion .. | .retardExpiry _ => true
  | .resetExpiry _ | .settleExpiry _ | .windowExpiry _ => true
  | .isolateLine .. | .restoreLine .. | .resetRegime _ => true
  | _ => false

/-- Every step but the scanner's own and the load's keeps the load, the configuration, the lines and the power
groups. -/
theorem exec_keeps_scanner {i : Instr} {s t : State} (hi : scannerActs i = false) (h : exec i s = .next t) :
    ScannerKept s t := by
  cases i with
  | powerOnReset | startUpLoadEnd | restart | zoneLineSlotCompletion | retardExpiry | resetExpiry | settleExpiry
  | windowExpiry | isolateLine | restoreLine | resetRegime => cases hi
  | holdTimerExpiry | silenceInhibitExpiry | spreadExpiry | carReportTimeout | openWaitExpiry | coolDownExpiry
  | stopTimerExpiry | playTimerExpiry | chainRefreshExpiry | frameBegin =>
    exact of_next h (.ite (by simp [ScannerKept]))
  | doorSenseSlotCompletion =>
    refine of_next h (.ite ?_)
    dsimp only
    split <;> simp [ScannerKept]
  | staggerExpiry =>
    refine of_next h (.ite ?_)
    split <;> simp [ScannerKept]
  | routingShiftComplete =>
    refine of_next h ?_
    split
    · exact .refl s
    · refine .ite ?_
      unfold shiftEnds
      dsimp only
      split <;> simp [ScannerKept]
  | storeWriteCompletion =>
    refine of_next h ?_
    split
    · exact .refl s
    · exact .ite (by simp [ScannerKept])
  | enableInputDrop =>
    refine of_next h ?_
    split <;> simp [ScannerKept]
  | enableInputAssert => exact of_next h (.refl s)
  | frameEnd => exact of_next h (by simp [ScannerKept])
  | unknownCommand =>
    refine of_next h ?_
    split
    · exact .refl s
    · exact scannerKept_command fun _ => .refl _
  | portReset =>
    refine of_next h ?_
    dsimp only
    split <;> simp [ScannerKept]
  | readWordShifted =>
    refine of_next h ?_
    split <;> simp [ScannerKept]
  | noticesReplyComplete =>
    refine of_next h ?_
    split <;> simp [ScannerKept]
  | select => exact of_next h (scannerKept_command selectBody_keeps_scanner)
  | window => exact of_next h (scannerKept_command windowBody_keeps_scanner)
  | read => exact of_next h (scannerKept_command readBody_keeps_scanner)
  | status => exact of_next h (scannerKept_command statusBody_keeps_scanner)
  | notices => exact of_next h (scannerKept_command (scannerKept_afterLoad noticesBody_keeps_scanner))
  | mask => exact of_next h (scannerKept_command (scannerKept_afterLoad maskBody_keeps_scanner))
  | takeControl => exact of_next h (scannerKept_command (scannerKept_afterLoad takeControlBody_keeps_scanner))
  | carReport => exact of_next h (scannerKept_command (scannerKept_afterLoad carReportBody_keeps_scanner))
  | postAnnouncement => exact of_next h (scannerKept_command (scannerKept_afterLoad postBody_keeps_scanner))
  | cancelAnnouncement => exact of_next h (scannerKept_command (scannerKept_afterLoad cancelBody_keeps_scanner))
  | playEnd => exact of_next h (scannerKept_command (scannerKept_afterLoad playEndBody_keeps_scanner))
  | storeWrite => exact of_next h (scannerKept_command (scannerKept_afterLoad storeWriteBody_keeps_scanner))
  | checkConfig => exact of_next h (scannerKept_command (scannerKept_afterLoad checkConfigBody_keeps_scanner))
  | releaseControl => exact of_next h (scannerKept_command (scannerKept_controlled releaseControlBody_keeps_scanner))
  | acknowledge => exact of_next h (scannerKept_command (scannerKept_controlled acknowledgeBody_keeps_scanner))
  | silence => exact of_next h (scannerKept_command (scannerKept_controlled silenceBody_keeps_scanner))
  | resound => exact of_next h (scannerKept_command (scannerKept_controlled resoundBody_keeps_scanner))
  | evacuateAll => exact of_next h (scannerKept_command (scannerKept_controlled evacuateAllBody_keeps_scanner))
  | spreadHold => exact of_next h (scannerKept_command (scannerKept_controlled spreadHoldBody_keeps_scanner))
  | spreadResume => exact of_next h (scannerKept_command (scannerKept_controlled spreadResumeBody_keeps_scanner))
  | recallGroup => exact of_next h (scannerKept_command (scannerKept_controlled recallGroupBody_keeps_scanner))
  | releaseGroup => exact of_next h (scannerKept_command (scannerKept_controlled releaseGroupBody_keeps_scanner))
  | doorOverride => exact of_next h (scannerKept_command (scannerKept_controlled doorOverrideBody_keeps_scanner))
  | clearDoorFault =>
    exact of_next h (scannerKept_command (scannerKept_controlled clearDoorFaultBody_keeps_scanner))

end Sys2Proof.Machine
end

section
/-! SUPPORT. The line scanner's operations: what a sample gives, what the line state machine may change, and which line a change of a line leaves. -/

namespace Sys2Proof.Machine

/-! ## Measurement (chapter 1) -/

theorem estimate_le (c : BitVec 10) : estimate c ≤ 65535 := Nat.min_le_left _ _

/-- A larger code gives no smaller estimate: the dividend grows and the divisor shrinks (R5). -/
theorem estimate_mono {c d : BitVec 10} (h : c.toNat ≤ d.toNat) : estimate c ≤ estimate d := by
  have hd := d.isLt
  have hq : 3300 * c.toNat / (1024 - c.toNat) ≤ 3300 * d.toNat / (1024 - d.toNat) :=
    Nat.div_le_div (Nat.mul_le_mul_left _ h) (by omega) (by omega)
  unfold estimate
  omega

/-- From code 975 on the estimate is at its cap: 3300 × 975 / 49 exceeds it (R5). -/
theorem estimate_cap {c : BitVec 10} (h : 975 ≤ c.toNat) : estimate c = 65535 := by
  have hc := c.isLt
  have hq : 3300 * 975 / (1024 - 975) ≤ 3300 * c.toNat / (1024 - c.toNat) :=
    Nat.div_le_div (Nat.mul_le_mul_left _ h) (by omega) (by omega)
  unfold estimate
  omega

theorem joinHistory_getLast? (l : List Nat) (x : Nat) : (joinHistory l x).getLast? = some x := by
  unfold joinHistory
  split <;> simp

theorem joinHistory_length {l : List Nat} {x : Nat} (h : l.length ≤ 4) : (joinHistory l x).length ≤ 4 := by
  unfold joinHistory
  split <;> simp <;> omega

/-- An entry of the joined history is the estimate that joined or an entry of the history before (R6). -/
theorem mem_of_mem_joinHistory {l : List Nat} {x y : Nat} (h : y ∈ joinHistory l x) : y = x ∨ y ∈ l := by
  unfold joinHistory at h
  split at h <;> rw [List.mem_append, List.mem_singleton] at h
  · exact h.symm
  · exact h.symm.imp_right List.mem_of_mem_tail

theorem average_joinHistory (l : List Nat) (x : Nat) :
    average (joinHistory l x) = some ((joinHistory l x).sum / (joinHistory l x).length) := by
  have hne : joinHistory l x ≠ [] := fun e => by simpa [e] using joinHistory_getLast? l x
  simp [average, hne]

/-- A code is taken exactly from a line that is not UNUSED and not ISOLATED, and not frozen by its power group (R4). -/
theorem sampled_iff (c : LineCfg) (g : PGroupState) (l : Line) :
    sampled c g l = true ↔
      c.mode ≠ .unused ∧ l.state ≠ .isolated ∧ (c.mode = .supervised → g ≠ .reset ∧ g ≠ .settle) := by
  cases g <;> simp [sampled, freezes, and_assoc]

/-! ## Qualification (R23, R24) -/

theorem bandQ_eq (b : Band) : bandQ b = if b = .alarm ∨ b = .normal then 3 else 42 := by
  cases b <;> rfl

theorem agreeCount_le (b : Band) (l : Line) : agreeCount b l ≤ 42 := by
  unfold agreeCount
  have hq : bandQ b ≤ 42 := by cases b <;> decide
  split <;> omega

/-! ## The line state machine -/

/-- Nothing of a line but its state and its retard differs. -/
def LineMoved (l l' : Line) : Prop := l' = { l with state := l'.state, retard := l'.retard }

theorem LineMoved.exists {l l' : Line} (h : LineMoved l l') : ∃ st rt, l' = { l with state := st, retard := rt } :=
  ⟨_, _, h⟩

theorem lineMoved_onAlarm (c : LineCfg) (n : Nat) (g : PGroupState) (r : RegimeState) (l : Line) :
    LineMoved l (onAlarm c n g r l) := by
  unfold onAlarm
  (repeat' split) <;> rfl

theorem lineMoved_onBand (c : LineCfg) (n : Nat) (g : PGroupState) (r : RegimeState) (b : Band) (l : Line) :
    LineMoved l (onBand c n g r b l) := by
  cases b with
  | alarm => exact lineMoved_onAlarm c n g r l
  | normal | openLoop | short => rfl

/-- The line state machine changes the state and the retard of a line alone. -/
theorem lineMoved_lineMachine (c : LineCfg) (n : Nat) (g : PGroupState) (r : RegimeState) (b : Band) (l : Line) :
    LineMoved l (lineMachine c n g r b l) := by
  unfold lineMachine
  split
  case h_1 | h_2 | h_3 => exact lineMoved_onBand c n g r b l
  case h_4 => cases b <;> rfl
  case h_5 =>
    unfold onActive
    split <;> rfl
  case h_6 | h_7 => rfl

/-- At ALARM a retard starts on a FLOW line alone, and leaves it NORMAL (R26, R29). -/
theorem retardGood_onAlarm (c : LineCfg) (n : Nat) (g : PGroupState) (r : RegimeState) (l : Line) :
    RetardGood c (onAlarm c n g r l) := by
  intro h
  revert h
  unfold onAlarm
  split
  · exact nofun
  · split
    · next hflow =>
      split
      · exact nofun
      · exact fun _ => ⟨hflow.1, rfl⟩
    · exact nofun

theorem retardGood_onBand (c : LineCfg) (n : Nat) (g : PGroupState) (r : RegimeState) (b : Band) (l : Line) :
    RetardGood c (onBand c n g r b l) := by
  cases b with
  | alarm => exact retardGood_onAlarm c n g r l
  | normal | openLoop | short => exact nofun

/-- A line with no retard running keeps the law of R29 at every band, and one whose retard runs is NORMAL. -/
theorem retardGood_lineMachine {c : LineCfg} {l : Line} (h : RetardGood c l) (n : Nat) (g : PGroupState)
    (r : RegimeState) (b : Band) : RetardGood c (lineMachine c n g r b l) := by
  unfold lineMachine
  split
  case h_1 | h_2 | h_3 => exact retardGood_onBand c n g r b l
  case h_4 =>
    cases b with
    | normal => exact h
    | alarm | openLoop | short => exact nofun
  case h_5 =>
    unfold onActive
    split
    · exact nofun
    · exact h
  case h_6 | h_7 => exact h

/-! ## Changing a line -/

@[simp] theorem changeLine_lines (i : Fin 64) (l : Line) (s : State) : (changeLine i l s).lines = s.lines.set i l := by
  simp [changeLine, State.setLine]

/-- The other units' work at a line's event changes no line. -/
@[simp] theorem lineEvent_lines (i : Fin 64) (l : Line) (s : State) : (lineEvent i l s).lines = s.lines.set i l := by
  unfold lineEvent
  dsimp only
  split <;> simp

/-- An entry of a vector after one entry is replaced. -/
theorem getElem_set_fin {n : Nat} {α : Type} (v : Vector α n) (i j : Fin n) (x : α) :
    (v.set i x)[j] = if j = i then x else v[j] := by
  rw [Fin.getElem_fin, Vector.getElem_set]
  simp only [Fin.ext_iff, eq_comm, Fin.getElem_fin]

/-! ## The completion of a line's slot -/

/-- The state with a code stored as the line's last code, at the next slot (R1, R3). -/
def codeStored (i : Fin 64) (code : BitVec 10) (s : State) : State :=
  { s.setLine i { s.lines[i] with lastCode := code } with scanSlot := some (nextSlot (lineSlot i)) }

/-- A completion out of its turn, or during the load, changes nothing (R1, R2; log entry 4). -/
theorem zoneSlot_out_of_turn {s : State} {i : Fin 64} (code : BitVec 10)
    (h : s.load ≠ none ∨ s.scanSlot ≠ some (lineSlot i)) :
    exec (.zoneLineSlotCompletion i code) s = .next s := by
  refine congrArg _ (if_neg fun hs => ?_)
  obtain ⟨hl, hn⟩ := (inSlot_iff s (lineSlot i)).mp hs
  exact h.elim (· hl) (· hn)

/-- A code that is discarded is only stored (R3, R4). -/
theorem zoneSlot_discarded {s : State} {i : Fin 64} (code : BitVec 10) (hl : s.load = none)
    (hn : s.scanSlot = some (lineSlot i)) (h : sampled s.config.lines[i] (groupOf s i).state s.lines[i] = false) :
    exec (.zoneLineSlotCompletion i code) s = .next (codeStored i code s) := by
  refine congrArg _ ((if_pos ((inSlot_iff s _).mpr ⟨hl, hn⟩)).trans ?_)
  exact if_neg (fun e => Bool.false_ne_true (h.symm.trans e))

/-- A code that is taken is stored and gives a sample (R3, R4). -/
theorem zoneSlot_sampled {s : State} {i : Fin 64} (code : BitVec 10) (hl : s.load = none)
    (hn : s.scanSlot = some (lineSlot i)) (h : sampled s.config.lines[i] (groupOf s i).state s.lines[i] = true) :
    exec (.zoneLineSlotCompletion i code) s = .next (takeSample i code (codeStored i code s)) := by
  refine congrArg _ ((if_pos ((inSlot_iff s _).mpr ⟨hl, hn⟩)).trans ?_)
  exact if_pos h

/-- The line that a sample leaves: measured, and moved by the state machine where a new band qualifies (R6 to R12, R23
to R28). `n` is the flow retard, `g` the power group's state and `r` the regime's. -/
def sampledLine (c : LineCfg) (bs : BandSetCfg) (n : Nat) (g : PGroupState) (r : RegimeState) (code : BitVec 10)
    (l : Line) : Line :=
  match newBand (sampleBand c bs code l) l with
  | none => measured c bs code l
  | some b => lineMachine c n g r b { measured c bs code l with qualified := some b }

theorem sampledLine_of_none {c : LineCfg} {bs : BandSetCfg} {code : BitVec 10} {l : Line}
    (h : newBand (sampleBand c bs code l) l = none) (n : Nat) (g : PGroupState) (r : RegimeState) :
    sampledLine c bs n g r code l = measured c bs code l := by
  rw [sampledLine, h]

theorem sampledLine_of_some {c : LineCfg} {bs : BandSetCfg} {code : BitVec 10} {l : Line} {b : Band}
    (h : newBand (sampleBand c bs code l) l = some b) (n : Nat) (g : PGroupState) (r : RegimeState) :
    sampledLine c bs n g r code l = lineMachine c n g r b { measured c bs code l with qualified := some b } := by
  rw [sampledLine, h]

/-- The line that a sample of the part's line i leaves. -/
def sampledLineOf (i : Fin 64) (code : BitVec 10) (s : State) : Line :=
  sampledLine s.config.lines[i] s.config.bandSets[s.config.lines[i].bandSet] s.config.system.flowRetard
    (groupOf s i).state s.regime.state code s.lines[i]

/-- A sample is stored in its line, or it is a line's event, which may start the verification of the power group
(R12, R22, R32). -/
theorem takeSample_cases (i : Fin 64) (code : BitVec 10) (s : State) :
    takeSample i code s = s.setLine i (sampledLineOf i code s) ∨
      takeSample i code s = lineEvent i (sampledLineOf i code s) s ∨
      takeSample i code s =
        lineEvent i (sampledLineOf i code s) (s.setPGroup s.config.lines[i].powerGroup groupReset) := by
  unfold takeSample sampledLineOf
  dsimp only
  split
  · next h => exact .inl (by rw [sampledLine_of_none h])
  · next b h =>
    rw [sampledLine_of_some h]
    split
    · exact .inr (.inr rfl)
    · exact .inr (.inl rfl)

/-- A sample replaces its line, and no other. -/
theorem takeSample_lines (i : Fin 64) (code : BitVec 10) (s : State) :
    (takeSample i code s).lines = s.lines.set i (sampledLineOf i code s) := by
  obtain h | h | h := takeSample_cases i code s
  · rw [h]; rfl
  · rw [h, lineEvent_lines]
  · rw [h, lineEvent_lines]; rfl

/-- A sample leaves every power group, but for the start of verification (R32). -/
theorem takeSample_pgroups (i : Fin 64) (code : BitVec 10) (s : State) :
    (takeSample i code s).pgroups = s.pgroups ∨
      (takeSample i code s).pgroups = s.pgroups.set s.config.lines[i].powerGroup groupReset := by
  obtain h | h | h := takeSample_cases i code s
  · exact .inl (by rw [h]; rfl)
  · exact .inl (by rw [h]; simp)
  · exact .inr (by rw [h]; simp [State.setPGroup])

/-- A sample only joins notices to the ports. -/
theorem quiet_takeSample (i : Fin 64) (code : BitVec 10) (s : State) : QuietPorts s (takeSample i code s) := by
  obtain h | h | h := takeSample_cases i code s
  · rw [h]; exact quiet_of_ports rfl
  · rw [h]; exact quiet_lineEvent i _ s
  · have hg : QuietPorts s (s.setPGroup s.config.lines[i].powerGroup groupReset) := quiet_of_ports rfl
    rw [h]; exact hg.trans (quiet_lineEvent i _ _)

/-- The line that a sample leaves is the measured one but for its state, its retard and its qualified band. -/
theorem sampledLine_eq (c : LineCfg) (bs : BandSetCfg) (n : Nat) (g : PGroupState) (r : RegimeState)
    (code : BitVec 10) (l : Line) :
    ∃ st rt q, sampledLine c bs n g r code l =
      { measured c bs code l with state := st, retard := rt, qualified := q } := by
  unfold sampledLine
  split
  · exact ⟨_, _, _, rfl⟩
  · next b _ =>
    obtain ⟨st, rt, h⟩ := (lineMoved_lineMachine c n g r b { measured c bs code l with qualified := some b }).exists
    exact ⟨st, rt, some b, h⟩

theorem lineRanges_measured {c : LineCfg} {l : Line} (h : LineRanges l) (bs : BandSetCfg) (code : BitVec 10) :
    LineRanges (measured c bs code l) := by
  obtain ⟨hlen, hmem, -, hclear⟩ := h
  have hhist : (sampleHistory c code l).length ≤ 4 ∧ ∀ x ∈ sampleHistory c code l, x ≤ 65535 := by
    unfold sampleHistory
    split
    · refine ⟨joinHistory_length hlen, fun x hx => ?_⟩
      obtain rfl | hx := mem_of_mem_joinHistory hx
      · exact estimate_le code
      · exact hmem x hx
    · exact ⟨hlen, hmem⟩
    · exact ⟨hlen, hmem⟩
  exact ⟨hhist.1, hhist.2, agreeCount_le _ l, hclear⟩

end Sys2Proof.Machine
end

section
/-! SUPPORT. The completion of a zone line's slot (O27, O28). -/

namespace Sys2Proof.Machine

/-- What an event of a line may reach: every field but the load, the configuration, the store with its write and its
enable input, and the model's own two. -/
theorem eq_with_of_kept {s t : State} (hload : t.load = s.load) (hconfig : t.config = s.config)
    (henable : t.enable = s.enable) (hstore : t.store = s.store) (hbusy : t.busy = s.busy) (hfree : t.free = s.free)
    (hpending : t.pending = s.pending) :
    t = { s with
      scanSlot := t.scanSlot, lines := t.lines, pgroups := t.pgroups, regime := t.regime, floors := t.floors
      lgroups := t.lgroups, cars := t.cars, doors := t.doors, dgroups := t.dgroups, resecure := t.resecure
      stagger := t.stagger, entries := t.entries, channels := t.channels, chain := t.chain, ports := t.ports } := by
  rw [← hload, ← hconfig, ← henable, ← hstore, ← hbusy, ← hfree, ← hpending]

/-- The line after a code is taken: the stored code, and what the sample measures; the rest of it is judged by the line
state machine. -/
theorem zoneSlot_line (i : Fin 64) (code : BitVec 10) (s : State) :
    ∃ st rt q, (takeSample i code (codeStored i code s)).lines[i] =
      { measured s.config.lines[i] s.config.bandSets[s.config.lines[i].bandSet] code
          { s.lines[i] with lastCode := code } with state := st, retard := rt, qualified := q } := by
  obtain ⟨st, rt, q, h⟩ := sampledLine_eq s.config.lines[i] s.config.bandSets[s.config.lines[i].bandSet]
    s.config.system.flowRetard (groupOf s i).state s.regime.state code { s.lines[i] with lastCode := code }
  refine ⟨st, rt, q, Eq.trans ?_ h⟩
  have hl : (codeStored i code s).lines[i] = { s.lines[i] with lastCode := code } := setLine_self s i _
  rw [takeSample_lines, getElem_set_fin, if_pos rfl, sampledLineOf, hl]
  rfl

/-- No other line changes as a code is taken. -/
theorem zoneSlot_other_line {i j : Fin 64} (code : BitVec 10) (s : State) (h : j ≠ i) :
    (takeSample i code (codeStored i code s)).lines[j] = s.lines[j] := by
  rw [takeSample_lines, getElem_set_fin, if_neg h]
  exact setLine_other s i _ j h

/-- The raw band of a sample, written out (R8, R10, R11). -/
theorem sampleBand_eq {c : LineCfg} (hc : c.mode ≠ .unused) (b : BandSetCfg) (code : BitVec 10) (l : Line) :
    sampleBand c b code l =
      let h := joinHistory l.history (estimate code)
      let a := h.sum / h.length
      if c.mode = .contact then (if code.toNat < 512 then .alarm else .normal)
      else if a < b.tShort then .short
      else if a < b.tAlarm then .alarm
      else if a ≤ b.tOpen then .normal
      else .openLoop := by
  unfold sampleBand
  cases hm : c.mode with
  | unused => exact absurd hm hc
  | contact => rfl
  | supervised => simp [average_joinHistory, bandOf]

/-- A sample of a CONTACT line leaves the history; one of a SUPERVISED line joins its estimate to it (R6, R11). -/
theorem sampleHistory_eq {c : LineCfg} (hc : c.mode ≠ .unused) (code : BitVec 10) (l : Line) :
    sampleHistory c code l = if c.mode = .contact then l.history else joinHistory l.history (estimate code) := by
  unfold sampleHistory
  cases hm : c.mode with
  | unused => exact absurd hm hc
  | contact | supervised => rfl

/-- Settles O27: the estimate by its formula, and the newest entry of the history by the line that a sample leaves. -/
theorem estimateOfACode : Obligations.EstimateOfACode := by
  refine ⟨fun _ => rfl, rfl, fun _ _ => estimate_mono, fun _ => estimate_cap, ?_⟩
  intro s i c hl hmode hstate hreset hsettle hn
  have hs : sampled s.config.lines[i] (groupOf s i).state s.lines[i] = true :=
    (sampled_iff ..).mpr ⟨by rw [hmode]; exact nofun, hstate, fun _ => ⟨hreset, hsettle⟩⟩
  refine ⟨_, zoneSlot_sampled c hl hn hs, ?_⟩
  obtain ⟨st, rt, q, hline⟩ := zoneSlot_line i c s
  rw [hline]
  simp only [measured, sampleHistory, hmode, joinHistory_getLast?]

/-- Settles O28: a completion is out of its turn, discarded or taken, and the line that a taken code leaves is read off
the sample. -/
theorem codeIsDiscardedOrMeasured : Obligations.CodeIsDiscardedOrMeasured := by
  refine ⟨fun s i c h => zoneSlot_out_of_turn c h, fun s i c hl hn h => ?_, fun s i c hl hn hmode hstate hgroup => ?_⟩
  · refine zoneSlot_discarded c hl hn (Bool.eq_false_iff.mpr fun hs => ?_)
    obtain ⟨hmode, hstate, hgroup⟩ := (sampled_iff ..).mp hs
    obtain h | h | ⟨hsup, h⟩ := h
    · exact hmode h
    · exact hstate h
    · exact h.elim (hgroup hsup).1 (hgroup hsup).2
  · have hs := (sampled_iff s.config.lines[i] (groupOf s i).state s.lines[i]).mpr ⟨hmode, hstate, hgroup⟩
    have hslot : (takeSample i c (codeStored i c s)).scanSlot = some (Fin.ofNat 96 (i.val + 1)) := by
      simp [codeStored, nextSlot, lineSlot]
    refine ⟨_, zoneSlot_sampled c hl hn hs, hslot, fun j hj => zoneSlot_other_line c s hj, ?_, ?_, ?_⟩
    · obtain ⟨hload, hconfig, henable, hstore, hbusy, -, hfree, hpending⟩ := takeSample_frame (codeStored i c s) i c
      exact eq_with_of_kept hload hconfig henable hstore hbusy hfree hpending
    · exact (quiet_of_ports rfl).trans (quiet_takeSample i c _)
    · obtain ⟨st, rt, q, hline⟩ := zoneSlot_line i c s
      rw [hline]
      refine ⟨rfl, ?_, ?_, ?_, ?_⟩
      · exact sampleHistory_eq hmode c _
      · exact congrArg some (sampleBand_eq hmode _ c _)
      · exact congrArg some (sampleBand_eq hmode _ c _)
      · simp only [measured, agreeCount, sampleBand_eq hmode, bandQ_eq]
        rfl

end Sys2Proof.Machine
end

section
/-! SUPPORT. The law of the line scanner is kept by every step (O12). -/

namespace Sys2Proof.Machine

/-! ## The law of one line -/

/-- The scanner's law of one line. -/
def LineGood (c : LineCfg) (l : Line) : Prop := LineRanges l ∧ RetardGood c l

/-- A line whose retard is stopped meets the law by its ranges alone. -/
theorem lineGood_of_retard_none {c : LineCfg} {l : Line} (h : LineRanges l) (hr : l.retard = none) : LineGood c l :=
  ⟨h, fun hs => by simp [hr] at hs⟩

/-- Outside NORMAL no retard runs (R29). -/
theorem LineGood.retard_none {c : LineCfg} {l : Line} (h : LineGood c l) (hs : l.state ≠ .normal) :
    l.retard = none :=
  Option.not_isSome_iff_eq_none.mp fun hr => hs (h.2 hr).2

theorem lineRanges_lineReset : LineRanges lineReset := ⟨Nat.zero_le _, nofun, Nat.zero_le _, Nat.zero_le _⟩

/-- A line measured afresh is in its ranges (R7, R25). -/
theorem LineRanges.cleared {l : Line} (h : LineRanges l) : LineRanges (emptyHistory (clearQualification l)) := by
  obtain ⟨-, -, -, hclear⟩ := h
  exact ⟨Nat.zero_le _, nofun, Nat.zero_le _, hclear⟩

theorem lineGood_startLine (k c : LineCfg) : LineGood k (startLine c) :=
  lineGood_of_retard_none lineRanges_lineReset rfl

theorem LineGood.toActive {c : LineCfg} {l : Line} (h : LineGood c l) : LineGood c (toActive l) :=
  lineGood_of_retard_none h.1 rfl

theorem LineGood.isolated {c : LineCfg} {l : Line} (h : LineGood c l) : LineGood c (isolated l) :=
  lineGood_of_retard_none h.1 rfl

/-- An ISOLATED line has no retard, so that one restored to NORMAL has none either (R39). -/
theorem LineGood.restored {c : LineCfg} {l : Line} (h : LineGood c l) (hs : l.state = .isolated) :
    LineGood c (restored l) := by
  obtain ⟨hlen, hmem, hagree, -⟩ := h.1.cleared
  exact lineGood_of_retard_none ⟨hlen, hmem, hagree, Nat.zero_le _⟩ (h.retard_none (by rw [hs]; exact nofun))

/-- The reset of a line stops the retard of a NORMAL one; no other line has one (R40). -/
theorem LineGood.resetLine {c : LineCfg} {l : Line} (h : LineGood c l) : LineGood c (resetLine c l) := by
  have back (hs : l.state ≠ .normal) : LineGood c (resetToNormal l) :=
    lineGood_of_retard_none h.1.cleared (h.retard_none hs)
  unfold Machine.resetLine
  cases hs : l.state with
  | active =>
    dsimp only
    split
    · exact back (by rw [hs]; exact nofun)
    · exact h
  | verifying => exact back (by rw [hs]; exact nofun)
  | normal =>
    dsimp only
    split
    · obtain ⟨hlen, hmem, -, hclear⟩ := h.1
      exact lineGood_of_retard_none ⟨hlen, hmem, Nat.zero_le _, hclear⟩ rfl
    · exact h
  | troubleOpen | troubleShort | isolated | unused => exact h

/-- The clear count stops at 255, and a VERIFYING line has no retard (R36). -/
theorem LineGood.clearedLine {c : LineCfg} {l : Line} (h : LineGood c l) (hs : l.state = .verifying) (n : Nat) :
    LineGood c (clearedLine n l) := by
  obtain ⟨hlen, hmem, hagree, -⟩ := h.1
  exact lineGood_of_retard_none ⟨hlen, hmem, hagree, Nat.min_le_left _ _⟩ (h.retard_none (by rw [hs]; exact nofun))

theorem LineGood.sampledLine {c : LineCfg} {l : Line} (h : LineGood c l) (bs : BandSetCfg) (n : Nat)
    (g : PGroupState) (r : RegimeState) (code : BitVec 10) : LineGood c (sampledLine c bs n g r code l) := by
  constructor
  · obtain ⟨st, rt, q, he⟩ := sampledLine_eq c bs n g r code l
    rw [he]
    exact lineRanges_measured h.1 bs code
  · unfold Machine.sampledLine
    split
    · exact h.2
    · next b _ =>
      have hm : RetardGood c { measured c bs code l with qualified := some b } := h.2
      exact retardGood_lineMachine hm n g r b

/-- A member that starts afresh keeps its state and its retard (R33). -/
theorem LineGood.settleMember {s : State} {i : Fin 64} {c : LineCfg} (h : LineGood c s.lines[i]) (g : Fin 8) :
    LineGood c (settleMember s g i) := by
  unfold Machine.settleMember
  split
  · exact ⟨h.1.cleared, h.2⟩
  · exact h

/-- A retard of 1 ms less is a retard that runs as before. -/
theorem LineGood.ticked {c : LineCfg} {l : Line} (h : LineGood c l) :
    LineGood c { l with retard := tickTimer l.retard } := by
  refine ⟨h.1, fun hr => h.2 ?_⟩
  rw [← Option.ne_none_iff_isSome] at hr ⊢
  exact mt (tickTimer_eq_none_iff _).mpr hr

/-! ## The law of one power group -/

theorem groupTimerGood_idle : GroupTimerGood pgroupReset := by simp [GroupTimerGood, pgroupReset]

theorem groupTimerGood_reset : GroupTimerGood groupReset := by simp [GroupTimerGood, groupReset]

theorem GroupTimerGood.ticked {g : PGroup} (h : GroupTimerGood g) :
    GroupTimerGood { g with timer := tickTimer g.timer } := by
  unfold GroupTimerGood at h ⊢
  rw [← Option.ne_none_iff_isSome] at h ⊢
  exact (not_congr (tickTimer_eq_none_iff _)).trans h

/-! ## The law of the scanner under each update -/

theorem ScannerInv.of_parts {s : State} (hlines : ∀ i : Fin 64, LineGood s.config.lines[i] s.lines[i])
    (hgroups : ∀ g : Fin 8, GroupTimerGood s.pgroups[g]) : ScannerInv s := ⟨hlines, hgroups⟩

theorem ScannerInv.line {s : State} (h : ScannerInv s) (i : Fin 64) : LineGood s.config.lines[i] s.lines[i] := h.1 i

theorem ScannerInv.of_kept {s t : State} (h : ScannerInv s) (k : ScannerKept s t) : ScannerInv t := by
  obtain ⟨-, hconfig, hlines, hgroups⟩ := k
  unfold ScannerInv
  rw [hconfig, hlines, hgroups]
  exact h

/-- Replacing one line by a good one, with the power groups as they were. -/
theorem ScannerInv.of_set_line {s t : State} {i : Fin 64} {l : Line} (h : ScannerInv s)
    (hl : LineGood s.config.lines[i] l) (hconfig : t.config = s.config) (hlines : t.lines = s.lines.set i l)
    (hgroups : t.pgroups = s.pgroups) : ScannerInv t := by
  obtain ⟨hgood, htimers⟩ := h
  refine ⟨fun j => ?_, by rw [hgroups]; exact htimers⟩
  rw [hconfig, hlines, getElem_set_fin]
  split
  · next e => subst e; exact hl
  · exact hgood j

theorem ScannerInv.setPGroup {s : State} (h : ScannerInv s) (g : Fin 8) {x : PGroup} (hx : GroupTimerGood x) :
    ScannerInv (s.setPGroup g x) := by
  refine ⟨h.1, fun k => ?_⟩
  rw [State.setPGroup, getElem_set_fin]
  split
  · exact hx
  · exact h.2 k

theorem ScannerInv.changeLine {s : State} (h : ScannerInv s) {i : Fin 64} {l : Line}
    (hl : LineGood s.config.lines[i] l) : ScannerInv (changeLine i l s) :=
  h.of_set_line hl (by simp) (by simp) (by simp)

theorem ScannerInv.lineEvent {s : State} (h : ScannerInv s) {i : Fin 64} {l : Line}
    (hl : LineGood s.config.lines[i] l) : ScannerInv (lineEvent i l s) :=
  h.of_set_line hl (by simp) (by simp) (by simp)

theorem ScannerInv.takeSample {s : State} (h : ScannerInv s) (i : Fin 64) (code : BitVec 10) :
    ScannerInv (takeSample i code s) := by
  have hl : LineGood s.config.lines[i] (sampledLineOf i code s) := (h.line i).sampledLine ..
  obtain e | e | e := takeSample_cases i code s <;> rw [e]
  · exact h.of_set_line hl rfl rfl rfl
  · exact h.lineEvent hl
  · exact (h.setPGroup _ groupTimerGood_reset).lineEvent hl

theorem ScannerInv.codeStored {s : State} (h : ScannerInv s) (i : Fin 64) (code : BitVec 10) :
    ScannerInv (codeStored i code s) := by
  have hl : LineGood s.config.lines[i] { s.lines[i] with lastCode := code } := h.line i
  exact h.of_set_line hl rfl rfl rfl

theorem ScannerInv.idleGroups {s : State} (h : ScannerInv s) :
    ScannerInv { s with pgroups := tabulate fun _ => groupIdle } :=
  .of_parts h.1 fun g => by simpa [groupIdle] using groupTimerGood_idle

/-- RESET REGIME resets the lines one at a time and idles every power group; the other units keep both (R40, R63). -/
theorem ScannerInv.resetRegime {s : State} (h : ScannerInv s) : ScannerInv (resetRegime s) := by
  have hfold : ScannerInv (resetEachLine s) :=
    List.foldlRecOn _ _ h fun u hu i _ => hu.changeLine (hu.line i).resetLine
  have hlines : ScannerInv (resetLines s) := hfold.idleGroups
  exact hlines.of_kept (by simp [ScannerKept, Machine.resetRegime, clearManual])

theorem ScannerInv.windowLine {s : State} (h : ScannerInv s) (g : Fin 8) (i : Fin 64) :
    ScannerInv (windowLine g s i) := by
  unfold Machine.windowLine
  split
  · next hv =>
    simp only [Bool.and_eq_true, beq_iff_eq] at hv
    exact h.changeLine ((h.line i).clearedLine hv.2 _)
  · exact h

/-- A part whose lines and groups are at their reset values meets the law, whatever its configuration. -/
theorem scannerInv_powerOn (s : State) : ScannerInv (powerOn s) := by
  refine .of_parts (fun i => lineGood_of_retard_none ?_ ?_) fun g => ?_
  · simpa [powerOn] using lineRanges_lineReset
  · simp [powerOn, lineReset]
  · simpa [powerOn] using groupTimerGood_idle

/-- The end of the load starts every line and leaves the power groups (R192). -/
theorem ScannerInv.startUp {s : State} (h : ScannerInv s) : ScannerInv (startUp s) := by
  have hblocks : ScannerInv (startBlocks s) :=
    .of_parts (fun i => by simpa [startBlocks] using lineGood_startLine _ _) h.2
  exact hblocks.of_kept (by simp [ScannerKept, Machine.startUp])

theorem ScannerInv.tick {s : State} (h : ScannerInv s) : ScannerInv (tick s) := by
  refine .of_parts (fun i => ?_) fun g => ?_
  · rw [tick_line]
    exact (h.line i).ticked
  · rw [tick_pgroup]
    exact GroupTimerGood.ticked (h.2 g)

/-! ## The commands of the scanner, and RESTART -/

theorem ScannerInv.command {p : Fin 4} {bytes : List Byte} {body : State → State × Result} {s : State}
    (h : ScannerInv s) (hbody : ∀ u, ScannerInv u → ScannerInv (body u).1) :
    ScannerInv (command p bytes (controlled p body) s) :=
  command_preserves id (fun u hu => controlled_preserves (fun _ => hbody u hu) hu) (fun _ _ hu => hu) h

theorem ScannerInv.isolateLineBody {s : State} (h : ScannerInv s) (line : Byte) :
    ScannerInv (isolateLineBody line s).1 := by
  unfold Machine.isolateLineBody
  split
  · exact h
  · next i _ =>
    split
    · split
      · exact (h.setPGroup _ groupTimerGood_idle).changeLine (h.line i).isolated
      · exact h.changeLine (h.line i).isolated
    · exact h

theorem ScannerInv.restoreLineBody {s : State} (h : ScannerInv s) (line : Byte) :
    ScannerInv (restoreLineBody line s).1 := by
  unfold Machine.restoreLineBody
  split
  · exact h
  · next i _ =>
    split
    · next hs =>
      split
      · exact h
      · exact h.changeLine ((h.line i).restored hs)
    · exact h

theorem ScannerInv.resetRegimeBody {s : State} (h : ScannerInv s) : ScannerInv (resetRegimeBody s).1 := by
  unfold Machine.resetRegimeBody
  split
  · exact h
  · exact h
  · exact h.resetRegime
  · exact h.resetRegime

theorem ScannerInv.restartBody {s : State} (h : ScannerInv s) (p : Fin 4) : ScannerInv (restartBody p s).1 := by
  unfold Machine.restartBody
  (repeat' split)
  case h_2 => exact scannerInv_powerOn _
  all_goals exact h

/-! ## Every step -/

theorem exec_keeps_scannerInv {i : Instr} {s t : State} (hs : ScannerInv s) (h : exec i s = .next t) :
    ScannerInv t := by
  cases hi : scannerActs i with
  | false => exact hs.of_kept (exec_keeps_scanner hi h)
  | true =>
    cases i with
    | powerOnReset => exact of_next h (scannerInv_powerOn s)
    | startUpLoadEnd =>
      refine of_next h ?_
      split
      · exact hs.startUp
      · exact hs
    | restart p => exact of_next h (hs.command fun u hu => hu.restartBody p)
    | zoneLineSlotCompletion i code =>
      refine of_next h ?_
      split
      · dsimp only
        split
        · exact (hs.codeStored i code).takeSample i code
        · exact hs.codeStored i code
      · exact hs
    | retardExpiry i =>
      refine of_next h ?_
      split
      · exact hs.lineEvent (hs.line i).toActive
      · exact hs
    | resetExpiry g =>
      refine of_next h ?_
      split
      · refine .of_parts (fun i => ?_) (hs.setPGroup g (by simp [GroupTimerGood])).2
        simpa using (hs.line i).settleMember g
      · exact hs
    | settleExpiry g =>
      refine of_next h ?_
      split
      · exact hs.setPGroup g (by simp [GroupTimerGood])
      · exact hs
    | windowExpiry g =>
      refine of_next h ?_
      split
      · exact List.foldlRecOn _ _ (hs.setPGroup g groupTimerGood_idle) fun u hu i _ => hu.windowLine g i
      · exact hs
    | isolateLine p line => exact of_next h (hs.command fun u hu => hu.isolateLineBody line)
    | restoreLine p line => exact of_next h (hs.command fun u hu => hu.restoreLineBody line)
    | resetRegime p => exact of_next h (hs.command fun u hu => hu.resetRegimeBody)
    | _ => cases hi

/-- Settles O12: a step of the queue by its own kind, and one millisecond by the timers, which keep running. -/
theorem stepKeepsScannerLaw : Obligations.StepKeepsScannerLaw := by
  intro s t hs h
  unfold step at h
  split at h
  · exact of_next h hs.tick
  · next c rest _ =>
    have hrest : ScannerInv { s with pending := rest } := hs
    exact exec_keeps_scannerInv hrest h

end Sys2Proof.Machine
end

section
/-! SUPPORT. A door circuit's reading (O42). -/

namespace Sys2Proof.Machine

/-! ## The completion of a door circuit's slot -/

theorem nextSlot_doorSlot (c : Fin 32) : nextSlot (doorSlot c) = Fin.ofNat 96 (65 + c.val) := by
  have h : 64 + c.val + 1 = 65 + c.val := by omega
  simp only [nextSlot, doorSlot, h]

/-- A completion out of its turn, or during the load, changes nothing (R1, R2; log entry 4). -/
theorem doorSlot_out_of_turn {s : State} {c : Fin 32} (code : BitVec 10)
    (h : s.load ≠ none ∨ s.scanSlot ≠ some (doorSlot c)) :
    exec (.doorSenseSlotCompletion c code) s = .next s := by
  refine congrArg _ (if_neg fun hs => ?_)
  obtain ⟨hl, hn⟩ := (inSlot_iff s (doorSlot c)).mp hs
  exact h.elim (· hl) (· hn)

/-- A reading of a circuit that is absent or not ON is discarded (R15). -/
theorem doorSlot_discarded {s : State} {c : Fin 32} (code : BitVec 10) (hl : s.load = none)
    (hn : s.scanSlot = some (doorSlot c)) (h : s.config.doors[c].present = false ∨ s.doors[c].state ≠ .on) :
    exec (.doorSenseSlotCompletion c code) s = .next { s with scanSlot := some (nextSlot (doorSlot c)) } := by
  refine congrArg _ ((if_pos ((inSlot_iff s _).mpr ⟨hl, hn⟩)).trans (if_neg fun hs => ?_))
  simp only [Bool.and_eq_true, beq_iff_eq] at hs
  exact h.elim (fun hp => Bool.false_ne_true (hp.symm.trans hs.1)) (· hs.2)

/-- The state with a circuit's reading supervised, at the next slot, before the notices. -/
def readingTaken (c : Fin 32) (code : BitVec 10) (s : State) : State :=
  State.setDoor { s with scanSlot := some (nextSlot (doorSlot c)) } c
    (supervise s.config.system (currentOf code) s.doors[c])

/-- A reading of a present circuit in ON is taken (R15). -/
theorem doorSlot_taken {s : State} {c : Fin 32} (code : BitVec 10) (hl : s.load = none)
    (hn : s.scanSlot = some (doorSlot c)) (hp : s.config.doors[c].present = true) (hon : s.doors[c].state = .on) :
    exec (.doorSenseSlotCompletion c code) s = .next (doorNotices s (readingTaken c code s)) := by
  refine congrArg _ ((if_pos ((inSlot_iff s _).mpr ⟨hl, hn⟩)).trans (if_pos ?_))
  simp only [Bool.and_eq_true, beq_iff_eq]
  exact ⟨hp, hon⟩

/-! ## Supervision (R123, R124, R126, R128) -/

/-- A class qualifies at the reading that brings its count from one below Q to Q (R124). -/
theorem superviseQualifies_iff (k : CurrentClass) (d : Door) :
    superviseQualifies k d = true ↔ d.candidate = some k ∧ d.count = classQ k - 1 := by
  have hq : 2 ≤ classQ k := by cases k <;> decide
  unfold superviseQualifies superviseCount
  by_cases hc : d.candidate = some k
  · simp only [hc, if_true, Bool.and_eq_true, beq_iff_eq, Bool.not_eq_true', beq_self_eq_true, Bool.true_and,
      decide_eq_false_iff_not, true_and]
    omega
  · simp only [hc, if_false, Bool.and_eq_true, beq_iff_eq, false_and, iff_false, not_and]
    omega

/-- The second OVER reading in a row trips the circuit: to LATCHED_OFF at the seventh trip, to TRIPPED before
(R124, R126). -/
theorem supervise_trips {sys : SystemCfg} {x : Nat} {d : Door} (hk : classOf sys x = .over)
    (hc : d.candidate = some .over) (hn : d.count = 1) (ht : d.trips < 7) :
    supervise sys x d =
      { d with
        current := x, candidate := none, count := 0, trips := d.trips + 1
        state := if d.trips = 6 then .latchedOff else .tripped
        cool := if d.trips = 6 then none else some 5000 } := by
  have hq : superviseQualifies .over d = true := (superviseQualifies_iff ..).mpr ⟨hc, hn⟩
  have hmin : min (d.trips + 1) 7 = d.trips + 1 := by omega
  simp only [supervise, hk, hq, if_true, trip, hmin, Config.coolDownTime]
  by_cases h6 : d.trips = 6
  · simp [h6]
  · have hlt : d.trips + 1 < 7 := by omega
    simp [h6, hlt]

/-- The open-fault flag after a reading that trips nothing: set by the 42nd OPEN in a row, cleared by the third NORMAL
(R124, R128). -/
def openFaultAfter (k : CurrentClass) (d : Door) : Bool :=
  if k = .openCircuit ∧ d.candidate = some .openCircuit ∧ d.count = 41 then true
  else if k = .normal ∧ d.candidate = some .normal ∧ d.count = 2 then false
  else d.openFault

/-- A reading that trips nothing is the circuit's current and its class the candidate (R124, R128). -/
theorem supervise_counts {sys : SystemCfg} {x : Nat} {d : Door}
    (h : ¬(classOf sys x = .over ∧ d.candidate = some .over ∧ d.count = 1)) :
    supervise sys x d =
      { d with
        current := x, candidate := some (classOf sys x), count := superviseCount (classOf sys x) d
        openFault := openFaultAfter (classOf sys x) d } := by
  have hq := superviseQualifies_iff (classOf sys x) d
  unfold supervise openFaultAfter
  cases hk : classOf sys x <;> rw [hk] at h hq <;> simp only [classQ] at hq
  · have hn : superviseQualifies .over d = false :=
      Bool.eq_false_iff.mpr fun e => h ⟨rfl, hq.mp e⟩
    simp [hn]
  · by_cases hc : d.candidate = some .openCircuit ∧ d.count = 41
    · simp [hq.mpr hc, hc.1, hc.2]
    · have hn : superviseQualifies .openCircuit d = false :=
        Bool.eq_false_iff.mpr fun e => hc (hq.mp e)
      simp [hn, hc]
  · by_cases hc : d.candidate = some .normal ∧ d.count = 2
    · simp [hq.mpr hc, hc.1, hc.2]
    · have hn : superviseQualifies .normal d = false :=
        Bool.eq_false_iff.mpr fun e => hc (hq.mp e)
      simp [hn, hc]

/-! ## The notices of the door unit -/

/-- The door unit's notices change the doors flag of the regime record alone. -/
theorem doorNotices_regime (s0 s : State) :
    (doorNotices s0 s).regime =
      { s.regime with trouble := { s.regime.trouble with doors := (doorNotices s0 s).regime.trouble.doors } } := by
  simp [doorNotices, doorsFlag, setTrouble]

/-- The door unit's notices change the regime record and the ports alone. -/
theorem doorNotices_eq_with (s0 s : State) :
    doorNotices s0 s =
      { s with regime := (doorNotices s0 s).regime, ports := (doorNotices s0 s).ports } := by
  unfold doorNotices raiseIf
  dsimp only
  split <;> split <;> rfl

theorem doorNotices_doors (s0 s : State) : (doorNotices s0 s).doors = s.doors := by simp

/-- TROUBLE is raised where a standing trouble of a circuit begins or ends (R134). -/
theorem raised_trouble_doorNotices {s0 s : State} (hl : s.load = none) (hc : s.config = s0.config) (c : Fin 32)
    (h : latchTrouble s0 c ≠ latchTrouble s c ∨ openTrouble s0 c ≠ openTrouble s c) :
    Raised .trouble s0 (doorNotices s0 s) := by
  have hchanged : doorTroubleChanged s0 s = true := by
    refine Bool.or_eq_true_iff.mpr (.inl (List.any_eq_true.mpr ⟨c, List.mem_finRange c, ?_⟩))
    simpa using h
  exact (raised_raiseIf (by simpa using hl) (by simpa using hc) hchanged).mono (quiet_raiseIf _ _ _)

/-! ## A taken reading -/

/-- The circuit after a reading that is taken. -/
theorem readingTaken_self (c : Fin 32) (code : BitVec 10) (s : State) :
    (readingTaken c code s).doors[c] = supervise s.config.system (currentOf code) s.doors[c] :=
  setDoor_self _ c _

/-- A trip to LATCHED_OFF begins a door trouble of a circuit that was ON (R134). -/
theorem latchTrouble_begins {s t : State} {c : Fin 32} (hp : s.config.doors[c].present = true)
    (hconfig : t.config = s.config) (hon : s.doors[c].state = .on) (ht : t.doors[c].state = .latchedOff) :
    latchTrouble s c ≠ latchTrouble t c := by
  unfold latchTrouble
  rw [hconfig, hp, hon, ht]
  decide

/-- A change of the open-fault flag of a present circuit begins or ends a door trouble (R134). -/
theorem openTrouble_changes {s t : State} {c : Fin 32} (hp : s.config.doors[c].present = true)
    (hconfig : t.config = s.config) (h : t.doors[c].openFault ≠ s.doors[c].openFault) :
    openTrouble s c ≠ openTrouble t c := by
  unfold openTrouble
  rw [hconfig, hp, Bool.true_and, Bool.true_and]
  exact h.symm

/-- Settles O42: a completion is out of its turn, discarded or taken, and a taken reading trips the circuit or counts. -/
theorem doorReadingIsTakenOrDiscarded : Obligations.DoorReadingIsTakenOrDiscarded := by
  refine ⟨fun s c code h => doorSlot_out_of_turn code h, fun s c code hl hn h => ?_, fun s c code hl hn hp hon => ?_⟩
  · rw [doorSlot_discarded code hl hn h, nextSlot_doorSlot]
  · have hdoor : (doorNotices s (readingTaken c code s)).doors[c] =
        supervise s.config.system (currentOf code) s.doors[c] := by
      simp only [doorNotices_doors, readingTaken_self]
    refine ⟨_, doorSlot_taken code hl hn hp hon, ?_, doorNotices_regime s _, fun j hj => ?_, ?_, ?_,
      fun hk hc hone ht => ?_, fun h => ?_⟩
    · rw [← nextSlot_doorSlot, doorNotices_doors]
      exact doorNotices_eq_with s (readingTaken c code s)
    · simp only [doorNotices_doors]
      exact setDoor_other _ c _ j hj
    · exact QuietPorts.trans (quiet_of_ports rfl) (quiet_doorNotices s _)
    · exact doorNoticed_doorNotices rfl rfl
    · have htrip : supervise s.config.system (currentOf code) s.doors[c] = _ := supervise_trips hk hc hone ht
      refine ⟨hdoor.trans htrip, fun h6 => ?_⟩
      refine raised_trouble_doorNotices hl rfl c (.inl (latchTrouble_begins hp rfl hon ?_))
      rw [readingTaken_self, htrip]
      exact if_pos h6
    · refine ⟨hdoor.trans (supervise_counts h), fun hf => ?_⟩
      refine raised_trouble_doorNotices hl rfl c (.inr (openTrouble_changes hp rfl ?_))
      simpa only [doorNotices_doors] using hf

end Sys2Proof.Machine
end

section
/-! SUPPORT. Every block keeps its reset values during the start-up load (O22). -/

namespace Sys2Proof.Machine

/-! ## Ports during the load -/

/-- A port with no pending kind and no NOTICES reply, as during the load (R165, R179). -/
def PortDormant (c : Port) : Prop := c.notices = 0 ∧ ∀ taken, c.reply ≠ .notices taken

/-- No kinds rejoin the set at the end of a reply that is none of NOTICES (R175). -/
theorem endReply_dormant {c : Port} (h : PortDormant c) : endReply c = { c with reply := .none } := by
  unfold endReply
  split
  · next taken hr => exact absurd hr (h.2 taken)
  · rfl

theorem PortDormant.endReply {c : Port} (h : PortDormant c) : PortDormant (endReply c) := by
  rw [endReply_dormant h]
  exact ⟨h.1, nofun⟩

theorem PortDormant.openFrame {c : Port} (h : PortDormant c) (bytes : List Byte) :
    PortDormant (openFrame bytes c) := by
  unfold Machine.openFrame
  split
  · exact h
  · exact h.endReply

theorem PortDormant.beginFrame {c : Port} (h : PortDormant c) (bits : List Bool) : PortDormant (beginFrame bits c) :=
  h.endReply

theorem PortDormant.endFrame {c : Port} (h : PortDormant c) (s : State) (edges : Nat) :
    PortDormant (endFrame s edges c) := h.endReply

theorem PortDormant.resetPort {c : Port} (h : PortDormant c) (s : State) (edges : Nat) :
    PortDormant (resetPort s edges c) := h.endReply

theorem PortDormant.dummyEdge {c : Port} (h : PortDormant c) (e : WordEdge) : PortDormant (dummyEdge c e) := by
  cases e with
  | first => exact h
  | last => exact ⟨h.1, nofun⟩

/-- The walk moves the pointer alone (R174). -/
theorem advance_notices (c : Port) : (advance c).notices = c.notices := by
  unfold advance
  (repeat' split) <;> rfl

theorem PortDormant.shiftEdge {c : Port} (h : PortDormant c) (s : State) (captured : List Word) (e : WordEdge) :
    PortDormant (shiftEdge s captured c e) := by
  cases e with
  | first => exact ⟨h.1, nofun⟩
  | last => exact ⟨(advance_notices c).trans h.1, nofun⟩

/-! ## The reset values during the load -/

/-- The load is in progress and every block holds its reset values: the law of the load, with its claims named. -/
structure Dormant (s : State) : Prop where
  load : s.load ≠ none
  scanSlot : s.scanSlot = none
  line : ∀ i : Fin 64, s.lines[i] = lineReset
  pgroup : ∀ g : Fin 8, s.pgroups[g] = pgroupReset
  regime : s.regime = regimeReset s.regime.trouble.store
  floor : ∀ f : Fin 48, s.floors[f] = floorReset
  lgroup : ∀ g : Fin 3, s.lgroups[g] = lgroupReset
  car : ∀ c : Fin 12, s.cars[c] = carReset
  door : ∀ c : Fin 32, s.doors[c] = doorReset
  dgroup : ∀ g : Fin 16, s.dgroups[g] = dgroupReset
  resecure : s.resecure = []
  stagger : s.stagger = none
  entry : ∀ sl : Fin 16, s.entries[sl] = none
  channel : ∀ c : Fin 4, s.channels[c] = channelReset
  chain : s.chain = chainReset
  port : ∀ p : Fin 4, PortDormant s.ports[p]

theorem LoadInv.dormant {s : State} (h : LoadInv s) (hl : s.load ≠ none) : Dormant s := by
  obtain ⟨hslot, hlines, hpgroups, hregime, hfloors, hlgroups, hcars, hdoors, hdgroups, hqueue, hstagger, hentries,
    hchannels, hchain, hports⟩ := h hl
  exact ⟨hl, hslot, hlines, hpgroups, hregime, hfloors, hlgroups, hcars, hdoors, hdgroups, hqueue, hstagger, hentries,
    hchannels, hchain, hports⟩

theorem Dormant.loadInv {s : State} (h : Dormant s) : LoadInv s := fun _ =>
  ⟨h.scanSlot, h.line, h.pgroup, h.regime, h.floor, h.lgroup, h.car, h.door, h.dgroup, h.resecure, h.stagger, h.entry,
    h.channel, h.chain, h.port⟩

/-- The port role is none during the load, so that a notice reaches no port (R165, R178). -/
theorem Dormant.role {s : State} (h : Dormant s) (p : Fin 4) : s.role p = none := by
  obtain ⟨n, hn⟩ := Option.ne_none_iff_exists'.mp h.load
  simp [State.role, State.loading, hn]

/-! ## What keeps the reset values -/

/-- A port may change during the load, but for notices. -/
theorem Dormant.setPort {s : State} (h : Dormant s) (p : Fin 4) {c : Port} (hc : PortDormant c) :
    Dormant (s.setPort p c) :=
  { h with
    port := fun q => by
      rw [setPort_ports, getElem_set_fin]
      split
      · exact hc
      · exact h.port q }

theorem Dormant.setFree {s : State} (h : Dormant s) (n : Nat) : Dormant { s with free := n } := { h with }

/-- The store, its write, the enable input and the store flag may change during the load. -/
theorem Dormant.setStoreParts {s : State} (h : Dormant s) (store : Vector StoreRec 136) (busy : Option StoreBusy)
    (enable flag : Bool) :
    Dormant { s with
      store := store, busy := busy, enable := enable
      regime := { s.regime with trouble := { s.regime.trouble with store := flag } } } :=
  { h with
    regime := by
      dsimp only
      rw [h.regime]
      rfl }

/-- A notice that is raised during the load reaches no port. -/
theorem Dormant.raise {s : State} (h : Dormant s) (ks : NoticeSet) : Dormant (raise ks s) :=
  { h with
    port := fun p => by
      rw [raise_port, h.role p]
      exact h.port p }

theorem Dormant.raiseIf {s : State} (h : Dormant s) (b : Bool) (k : Notice) : Dormant (raiseIf b k s) := by
  unfold Machine.raiseIf
  split
  · exact h.raise _
  · exact h

/-- The end of a store write reaches the store and its flag alone during the load (R186). -/
theorem Dormant.writeEnds {s : State} (h : Dormant s) (n : Fin 136) (x : StoreRec) : Dormant (writeEnds n x s) :=
  Dormant.raise (Dormant.raiseIf (h.setStoreParts _ none s.enable _) _ _) _

/-- An event that does not take effect. -/
theorem Dormant.ite {c : Prop} [Decidable c] {s t : State} (h : Dormant s) (hc : ¬ c) :
    Dormant (if c then t else s) := by
  rw [if_neg hc]
  exact h

theorem Dormant.setResult {s : State} (h : Dormant s) (p : Fin 4) (r : Result) : Dormant (setResult p r s) :=
  h.setPort p (h.port p)

/-- A command that keeps the reset values by its own rule; it changes the sender's frame and last result (R168). -/
theorem Dormant.command {p : Fin 4} {bytes : List Byte} {body : State → State × Result} {s : State} (h : Dormant s)
    (hbody : ∀ u, Dormant u → Dormant (body u).1) : Dormant (command p bytes body s) :=
  command_preserves (fun hs => hs.setPort p ((hs.port p).openFrame bytes)) hbody
    (fun r _ hu => hu.setResult p r) h

/-- A command that is refused with STARTING keeps the reset values (R170). -/
theorem Dormant.afterLoad {body : State → State × Result} (s : State) (h : Dormant s) :
    Dormant (afterLoad body s).1 := by
  rw [afterLoad_loading h.load]
  exact h

theorem Dormant.selectBody {p : Fin 4} {t r f : Byte} (s : State) (h : Dormant s) :
    Dormant (selectBody p t r f s).1 := by
  unfold Machine.selectBody
  split
  · exact h
  · split
    · exact h.setPort p (h.port p)
    · exact h

theorem Dormant.windowBody {p : Fin 4} {fr lr ff lf o : Byte} (s : State) (h : Dormant s) :
    Dormant (windowBody p fr lr ff lf o s).1 := by
  unfold Machine.windowBody
  split
  · split
    · exact h
    · exact h.setPort p (h.port p)
  · exact h

theorem Dormant.readBody {p : Fin 4} (s : State) (h : Dormant s) : Dormant (readBody p s).1 :=
  h.setPort p ⟨(h.port p).1, nofun⟩

theorem Dormant.statusBody {p : Fin 4} (s : State) (h : Dormant s) : Dormant (statusBody p s).1 :=
  h.setPort p ⟨(h.port p).1, nofun⟩

/-- No timer but the load's and a store write's runs during the load (R191). -/
theorem Dormant.tick {s : State} (h : Dormant s) : Dormant (tick s) :=
  { h with
    load := mt (tickTimer_eq_none_iff _).mp h.load
    line := fun i => by rw [tick_line, h.line]; rfl
    pgroup := fun g => by rw [tick_pgroup, h.pgroup]; rfl
    regime := by
      change tickRegime s.regime = regimeReset (tickRegime s.regime).trouble.store
      rw [h.regime]; rfl
    car := fun c => by rw [tick_car, h.car]; rfl
    door := fun c => by rw [tick_door, h.door]; rfl
    dgroup := fun g => by rw [tick_dgroup, h.dgroup]; rfl
    stagger := by
      change tickTimer s.stagger = none
      rw [h.stagger]; rfl
    channel := fun c => by rw [tick_channel, h.channel]; rfl
    chain := by
      change tickChain s.chain = chainReset
      rw [h.chain]; rfl }

/-- The event that begins a power-on reset gives every block its reset values (R191). -/
theorem loadInv_powerOn (s : State) : LoadInv (powerOn s) := by
  intro _
  refine ⟨rfl, ?_, ?_, rfl, ?_, ?_, ?_, ?_, ?_, rfl, rfl, ?_, ?_, rfl, fun p => ?_⟩
  case refine_10 =>
    have hp : (powerOn s).ports[p] = portReset (abandonFrame s.ports[p].frame) := getElem_tabulate _ _ _
    rw [hp]
    exact ⟨rfl, nofun⟩
  all_goals exact fun _ => getElem_tabulate _ _ _

/-! ## Every step during the load -/

/-- A step during the load, but the load's beginning and end, leaves the reset values: the scanner, the regime and the
timers have nothing to do, and every command but those of R170 is refused. -/
theorem exec_keeps_dormant {i : Instr} {s t : State} (hs : Dormant s) (hon : i ≠ .powerOnReset)
    (hend : i ≠ .startUpLoadEnd) (h : exec i s = .next t) : Dormant t := by
  cases i with
  | powerOnReset => exact absurd rfl hon
  | startUpLoadEnd => exact absurd rfl hend
  | zoneLineSlotCompletion | doorSenseSlotCompletion =>
    exact of_next h (hs.ite fun hc => hs.load ((inSlot_iff ..).mp hc).1)
  | resetExpiry g | settleExpiry g | windowExpiry g =>
    refine of_next h (hs.ite fun hc => ?_)
    rw [hs.pgroup] at hc
    exact nomatch hc.1
  | retardExpiry => exact of_next h (hs.ite (by rw [hs.line]; exact Bool.false_ne_true))
  | holdTimerExpiry | silenceInhibitExpiry | spreadExpiry =>
    exact of_next h (hs.ite (by rw [hs.regime]; exact Bool.false_ne_true))
  | carReportTimeout => exact of_next h (hs.ite (by rw [hs.car]; exact Bool.false_ne_true))
  | staggerExpiry => exact of_next h (hs.ite (by rw [hs.stagger]; exact Bool.false_ne_true))
  | openWaitExpiry => exact of_next h (hs.ite (by rw [hs.dgroup]; exact Bool.false_ne_true))
  | coolDownExpiry => exact of_next h (hs.ite (by rw [hs.door]; exact Bool.false_ne_true))
  | stopTimerExpiry | playTimerExpiry => exact of_next h (hs.ite (by rw [hs.channel]; exact Bool.false_ne_true))
  | chainRefreshExpiry => exact of_next h (hs.ite (by rw [hs.chain]; exact Bool.false_ne_true))
  | routingShiftComplete =>
    refine of_next h ?_
    rw [hs.chain]
    exact hs
  | storeWriteCompletion =>
    refine of_next h ?_
    split
    · exact hs
    · split
      · exact hs.writeEnds _ _
      · exact hs
  | enableInputDrop =>
    have hdrop : Dormant { s with enable := false } := hs.setStoreParts s.store s.busy false s.regime.trouble.store
    refine of_next h ?_
    split
    · exact hdrop
    · exact hdrop.writeEnds _ _
  | enableInputAssert => exact of_next h (hs.setStoreParts s.store s.busy true s.regime.trouble.store)
  | frameBegin f =>
    refine of_next h ?_
    split
    · exact hs.setPort f.port ((hs.port f.port).beginFrame f.bits)
    · exact hs
  | frameEnd p n => exact of_next h ((hs.setPort p ((hs.port p).endFrame s n)).setFree _)
  | unknownCommand p b =>
    refine of_next h ?_
    split
    · exact hs
    · exact hs.command fun _ hu => hu
  | portReset hold =>
    refine of_next h ?_
    dsimp only
    split
    · next hheld =>
      rw [hs.regime] at hheld
      cases hheld
    · exact (hs.setPort hold.port ((hs.port hold.port).resetPort s hold.edges)).setFree _
  | readWordShifted w =>
    refine of_next h ?_
    split
    · exact hs.setPort w.port ((hs.port w.port).dummyEdge w.edge)
    · exact (hs.setPort w.port ((hs.port w.port).shiftEdge s _ w.edge)).setFree _
    all_goals exact hs
  | noticesReplyComplete p =>
    refine of_next h ?_
    split
    · next taken hr => exact absurd hr ((hs.port p).2 taken)
    all_goals exact hs
  | select => exact of_next h (hs.command Dormant.selectBody)
  | window => exact of_next h (hs.command Dormant.windowBody)
  | read => exact of_next h (hs.command Dormant.readBody)
  | status => exact of_next h (hs.command Dormant.statusBody)
  | _ => exact of_next h (hs.command Dormant.afterLoad)

/-! ## Every step after the load -/

theorem loadInv_of_load_none {s : State} (h : s.load = none) : LoadInv s := fun hl => absurd h hl

/-- The load is over once it ends (R192). -/
theorem loadInv_startUp (s : State) : LoadInv (startUp s) :=
  loadInv_of_load_none (by simp [startUp, startBlocks])

theorem LoadInv.setResult {s : State} (h : LoadInv s) (p : Fin 4) (r : Result) : LoadInv (setResult p r s) :=
  fun hl => ((h.dormant hl).setResult p r).loadInv hl

/-- RESTART begins a new load, or is turned away after the load (R190). -/
theorem loadInv_restartBody {s : State} (h : s.load = none) (p : Fin 4) : LoadInv (restartBody p s).1 := by
  unfold restartBody
  (repeat' split)
  case h_2 => exact loadInv_powerOn _
  all_goals exact loadInv_of_load_none h

/-- A controlled command whose own rule begins no load. -/
theorem command_load_none {p : Fin 4} {bytes : List Byte} {body : State → State × Result} {s : State}
    (h : s.load = none) (hbody : ∀ u, (body u).1.load = u.load) :
    (command p bytes (controlled p body) s).load = none :=
  @command_preserves (fun u => u.load = none) p bytes _ s id
    (fun u hu => @controlled_preserves (fun u => u.load = none) p body u (fun _ => (hbody u).trans hu) hu)
    (fun _ _ => id) h

theorem isolateLineBody_load (line : Byte) (s : State) : (isolateLineBody line s).1.load = s.load := by
  unfold isolateLineBody
  (repeat' split) <;> simp

theorem restoreLineBody_load (line : Byte) (s : State) : (restoreLineBody line s).1.load = s.load := by
  unfold restoreLineBody
  (repeat' split) <;> simp

theorem resetRegimeBody_load (s : State) : (resetRegimeBody s).1.load = s.load := by
  unfold resetRegimeBody
  split <;> simp

theorem windowLines_load (g : Fin 8) (l : List (Fin 64)) (s : State) : (l.foldl (windowLine g) s).load = s.load :=
  foldl_keeps State.load (windowLine g) (by simp) l s

/-- After the load a step leaves it over, but for a power-on reset, which begins a new one. -/
theorem exec_keeps_loadInv_after {i : Instr} {s t : State} (hl : s.load = none) (h : exec i s = .next t) :
    LoadInv t := by
  cases hi : scannerActs i with
  | false => exact loadInv_of_load_none ((exec_keeps_scanner hi h).1.trans hl)
  | true =>
    cases i with
    | powerOnReset => exact of_next h (loadInv_powerOn s)
    | startUpLoadEnd =>
      refine of_next h ?_
      split
      · exact loadInv_startUp s
      · exact loadInv_of_load_none hl
    | restart p =>
      exact of_next h (command_preserves (fun _ => loadInv_of_load_none hl)
        (fun u hu => controlled_preserves (fun hn => loadInv_restartBody hn p) hu) (fun r u hu => hu.setResult p r)
        (loadInv_of_load_none hl))
    | zoneLineSlotCompletion | retardExpiry | resetExpiry | settleExpiry | windowExpiry =>
      refine of_next h (loadInv_of_load_none ?_)
      (repeat' split) <;> simp [hl, windowLines_load]
    | isolateLine p line => exact of_next h (loadInv_of_load_none (command_load_none hl (isolateLineBody_load line)))
    | restoreLine p line => exact of_next h (loadInv_of_load_none (command_load_none hl (restoreLineBody_load line)))
    | resetRegime p => exact of_next h (loadInv_of_load_none (command_load_none hl resetRegimeBody_load))
    | _ => cases hi

/-- Every step of the queue keeps the reset values of the load in progress, if one is. -/
theorem exec_keeps_loadInv {i : Instr} {s t : State} (hs : LoadInv s) (h : exec i s = .next t) : LoadInv t := by
  by_cases hl : s.load = none
  · exact exec_keeps_loadInv_after hl h
  · by_cases hon : i = .powerOnReset
    · subst hon
      exact of_next h (loadInv_powerOn s)
    · by_cases hend : i = .startUpLoadEnd
      · subst hend
        refine of_next h ?_
        split
        · exact loadInv_startUp s
        · exact hs
      · exact (exec_keeps_dormant (hs.dormant hl) hon hend h).loadInv

/-- Settles O22: during the load nothing acts but the load, a store write and the ports; after it the law claims
nothing until a power-on reset, which sets the reset values itself. -/
theorem stepKeepsLoadLaw : Obligations.StepKeepsLoadLaw := by
  intro s t hs h
  unfold step at h
  split at h
  · refine of_next h fun hl => ?_
    have hd : Dormant s := hs.dormant (mt (tickTimer_eq_none_iff _).mpr hl)
    exact hd.tick.loadInv hl
  · next i rest _ =>
    have hrest : LoadInv { s with pending := rest } := hs
    exact exec_keeps_loadInv hrest h

end Sys2Proof.Machine
end

section
/-! SUPPORT. The end of the start-up load (O25). -/

namespace Sys2Proof.Machine

/-- Every role receives STARTED (the table of R178). -/
theorem receives_started (r : Role) : receives r &&& Notice.bit .started ≠ 0 := by
  cases r <;> decide

/-- A group's target is its designated floor while no fire stands there (R93). -/
theorem targetOf_of_no_fire {s : State} (g : Fin 3) (h : ∀ f : Fin 48, s.floors[f].alarmCount = 0) :
    targetOf s g = if s.config.lgroups[g].present then some s.config.lgroups[g].designated else none := by
  have hfire : (fireFloors s).has s.config.lgroups[g].designated = false := by
    simpa [fireFloors] using fun _ => h s.config.lgroups[g].designated
  simp only [targetOf, hfire, Bool.false_and, Bool.false_eq_true, if_false]

/-! ## Every block's start-up state -/

section
variable {s : State}

theorem startBlocks_line (i : Fin 64) :
    (startBlocks s).lines[i] =
      { lineReset with state := if s.config.lines[i].mode = .unused then .unused else .normal } :=
  getElem_tabulate _ _ _

theorem startBlocks_lgroup (h : Dormant s) (g : Fin 3) :
    (startBlocks s).lgroups[g] =
      { lgroupReset with
        target := if s.config.lgroups[g].present then some s.config.lgroups[g].designated else none } := by
  have hfloors : ∀ f : Fin 48, s.floors[f].alarmCount = 0 := fun f => by rw [h.floor f]; rfl
  refine (getElem_tabulate _ _ _).trans ?_
  simp only [targetOf_of_no_fire g hfloors, h.lgroup g]

theorem startBlocks_car (h : Dormant s) (c : Fin 12) :
    (startBlocks s).cars[c] =
      { carReset with
        timer := if s.config.cars[c].present then some (1000 * s.config.system.carTimeout) else none } := by
  refine (getElem_tabulate _ _ _).trans ?_
  simp only [startCar, h.car c, carTime, seconds, Nat.mul_comm 1000]
  split <;> rfl

theorem startBlocks_dgroup (h : Dormant s) (g : Fin 16) :
    (startBlocks s).dgroups[g] =
      { dgroupReset with state := if s.config.dgroups[g].present then .resecureWait else .secured } := by
  refine (getElem_tabulate _ _ _).trans ?_
  simp only [startDGroup, h.dgroup g]
  split <;> rfl

end

/-! ## The notices of the end of the load -/

/-- The notices change the ports alone. -/
theorem startUp_eq_with (s : State) : startUp s = { startBlocks s with ports := (startUp s).ports } := by
  unfold startUp raiseIf
  dsimp only
  split <;> split <;> split <;> rfl

theorem startUp_blocks (s : State) :
    (startUp s).lines = (startBlocks s).lines ∧ (startUp s).lgroups = (startBlocks s).lgroups ∧
      (startUp s).cars = (startBlocks s).cars ∧ (startUp s).dgroups = (startBlocks s).dgroups ∧
      (startUp s).resecure = presentDGroups s ∧ (startUp s).chain = (startBlocks s).chain := by
  simp [startUp, startBlocks]

/-- Each notice joins the ports after the one before it. -/
theorem quiet_startUp_raise (s : State) : QuietPorts (raise (Notice.bit .started) (startBlocks s)) (startUp s) :=
  ((quiet_raiseIf _ _ _).trans (quiet_raiseIf _ _ _)).trans (quiet_raiseIf _ _ _)

theorem quiet_startUp (s : State) : QuietPorts s (startUp s) :=
  have hblocks : QuietPorts s (startBlocks s) := quiet_of_ports rfl
  (hblocks.trans (quiet_raise _ _)).trans (quiet_startUp_raise s)

theorem raised_started_startUp (s : State) : Raised .started s (startUp s) := by
  have h : Raised .started s (raise (Notice.bit .started) (startBlocks s)) := raised_raise (s := startBlocks s) rfl
  exact h.mono (quiet_startUp_raise s)

theorem raised_trouble_startUp {s : State} (h : s.regime.trouble.store = true) : Raised .trouble s (startUp s) :=
  (raised_raiseIf (by simp [startBlocks]) (by simp [startBlocks]) h).mono
    ((quiet_raiseIf _ _ _).trans (quiet_raiseIf _ _ _))

/-- Settles O25: an end that is not due does nothing, and one that is starts every block from the reset values that
the law of the load gives. -/
theorem loadEndStartsTheBlocks : Obligations.LoadEndStartsTheBlocks := by
  refine ⟨fun s h => congrArg _ (if_neg (mt (timerDue_iff s.load).mp h)), fun s h hs => ?_⟩
  have hd : Dormant s := hs.dormant (by simp [h])
  obtain ⟨hlines, hlgroups, hcars, hdgroups, hresecure, hchain⟩ := startUp_blocks s
  refine ⟨startUp s, congrArg _ (if_pos ((timerDue_iff s.load).mpr h)), ?_, fun i => ?_, fun g => ?_, fun c => ?_,
    fun g => ?_, hresecure, ?_, quiet_startUp s, fun p => ?_, raised_trouble_startUp⟩
  · rw [hlines, hlgroups, hcars, hdgroups, hresecure, hchain]
    exact startUp_eq_with s
  · rw [hlines, startBlocks_line]
  · rw [hlgroups, startBlocks_lgroup hd]
  · rw [hcars, startBlocks_car hd]
  · rw [hdgroups, startBlocks_dgroup hd]
  · rw [hchain]
    simp only [startBlocks, hd.chain]
    rfl
  · exact raised_started_startUp s p (receives_started _)

end Sys2Proof.Machine
end

section
/-! SUPPORT. What a change of one line makes beyond the line: its floor's counts, the lines flag and the notices. -/

namespace Sys2Proof.Machine

/-! ## Counts and flags -/

theorem recount_same (b : Bool) (n : Nat) : recount b b n = n := by
  cases b <;> rfl

theorem summaryFlag_same (flag b : Bool) : summaryFlag flag b b = flag := if_pos rfl

theorem fireActive_iff (c : LineCfg) (l : Line) :
    fireActive c l = true ↔ LineKind.fire c.kind = true ∧ l.state = .active := by
  simp [fireActive]

theorem fireActive_eq_false_of_state {l : Line} (c : LineCfg) (h : l.state ≠ .active) : fireActive c l = false := by
  simp [fireActive, h]

theorem fireActive_congr {l l' : Line} (c : LineCfg) (h : l'.state = l.state) : fireActive c l' = fireActive c l := by
  simp only [fireActive, h]

/-- The standing trouble of a line is told by its state and its unstable flag (R21). -/
theorem lineInTrouble_congr {l l' : Line} (c : LineCfg) (hs : l'.state = l.state) (hu : l'.unstable = l.unstable) :
    lineInTrouble c l' = lineInTrouble c l := by
  simp only [lineInTrouble, hs, hu]

theorem alarmChange_of_same {l l' : Line} (c : LineCfg) (h : l'.state = l.state) : alarmChange c l l' = false := by
  simp [alarmChange, fireActive_congr c h, h]

/-- A line that enters VERIFYING raises ALARM (R22). -/
theorem alarmChange_of_verifying {l l' : Line} (c : LineCfg) (h' : l'.state = .verifying) (hne : l'.state ≠ l.state) :
    alarmChange c l l' = true := by
  rw [h'] at hne
  simp [alarmChange, h', hne.symm]

theorem lineTroubleChange_of_same {l l' : Line} (c : LineCfg) (hs : l'.state = l.state)
    (hu : l'.unstable = l.unstable) : lineTroubleChange c l l' = false := by
  simp [lineTroubleChange, lineInTrouble_congr c hs hu, hs]

/-- A move into or out of TROUBLE_OPEN or TROUBLE_SHORT raises TROUBLE (R21, R27; log entry 18). -/
theorem lineTroubleChange_of_trouble_state {l l' : Line} (c : LineCfg) (hne : l'.state ≠ l.state)
    (h : l.state = .troubleOpen ∨ l.state = .troubleShort ∨ l'.state = .troubleOpen ∨ l'.state = .troubleShort) :
    lineTroubleChange c l l' = true := by
  simp only [lineTroubleChange, Bool.or_eq_true, bne_iff_ne]
  obtain h | h | h | h := h <;> rw [h] at hne
  · exact .inl (.inr (by simp [h, hne]))
  · exact .inr (by simp [h, hne])
  · exact .inl (.inr (by simp [h, hne.symm]))
  · exact .inr (by simp [h, hne.symm])

/-! ## What changing a line leaves and raises -/

/-- Changing lines that enter or leave no accepted fire alarm reaches the floors' trouble counts, the lines flag and the
notices beyond the lines themselves (R21, R66, R71). -/
structure TroubleCounted (s t : State) : Prop where
  frame : t = { s with lines := t.lines, floors := t.floors, regime := t.regime, ports := t.ports }
  regime : t.regime = { s.regime with trouble := { s.regime.trouble with lines := t.regime.trouble.lines } }
  floor : ∀ f : Fin 48, t.floors[f] = { s.floors[f] with troubleCount := t.floors[f].troubleCount }
  quiet : QuietPorts s t

theorem TroubleCounted.refl (s : State) : TroubleCounted s s := ⟨rfl, rfl, fun _ => rfl, .refl s⟩

theorem TroubleCounted.trans {s t u : State} (h : TroubleCounted s t) (k : TroubleCounted t u) :
    TroubleCounted s u where
  frame := by rw [k.frame, h.frame]
  regime := by rw [k.regime, h.regime]
  floor f := by rw [k.floor f, h.floor f]
  quiet := h.quiet.trans k.quiet

section
variable (i : Fin 64) (l' : Line) (s : State)

theorem changeLine_eq_with :
    changeLine i l' s =
      { s with
        lines := (changeLine i l' s).lines, floors := (changeLine i l' s).floors
        regime := (changeLine i l' s).regime, ports := (changeLine i l' s).ports } := by
  unfold changeLine raiseIf
  dsimp only
  split <;> split <;> rfl

theorem changeLine_regime :
    (changeLine i l' s).regime =
      { s.regime with
        trouble := { s.regime.trouble with lines := (changeLine i l' s).regime.trouble.lines } } := by
  simp [changeLine, linesFlag, setTrouble]

theorem changeLine_floors :
    (changeLine i l' s).floors =
      s.floors.set s.config.lines[i].floor
        (countFloor s.config.lines[i] s.lines[i] l' s.floors[s.config.lines[i].floor]) := by
  simp [changeLine]

theorem changeLine_floor_self :
    (changeLine i l' s).floors[s.config.lines[i].floor] =
      countFloor s.config.lines[i] s.lines[i] l' s.floors[s.config.lines[i].floor] := by
  rw [changeLine_floors, getElem_set_fin, if_pos rfl]

end

theorem countFloor_of_fire_same {c : LineCfg} {l l' : Line} (h : fireActive c l' = fireActive c l) (x : Floor) :
    countFloor c l l' x = { x with troubleCount := (countFloor c l l' x).troubleCount } := by
  simp only [countFloor, h, recount_same]

section
variable {i : Fin 64} {l' : Line} {s : State}

theorem troubleCounted_changeLine (h : fireActive s.config.lines[i] l' = fireActive s.config.lines[i] s.lines[i]) :
    TroubleCounted s (changeLine i l' s) where
  frame := changeLine_eq_with i l' s
  regime := changeLine_regime i l' s
  floor f := by
    rw [changeLine_floors, getElem_set_fin]
    split
    · next e => subst e; exact countFloor_of_fire_same h _
    · rfl
  quiet := quiet_changeLine i l' s

/-- A line that keeps its state and its unstable flag changes no count, no flag and raises nothing (R21, R22, R71). -/
theorem changeLine_of_same (hs : l'.state = s.lines[i].state) (hu : l'.unstable = s.lines[i].unstable) :
    changeLine i l' s = s.setLine i l' := by
  have hfire := fireActive_congr s.config.lines[i] hs
  have htrouble := lineInTrouble_congr s.config.lines[i] hs hu
  have hcount : countFloor s.config.lines[i] s.lines[i] l' s.floors[s.config.lines[i].floor] =
      s.floors[s.config.lines[i].floor] := by
    simp only [countFloor, hfire, htrouble, recount_same]
  have hfloors : (s.setLine i l').setFloor s.config.lines[i].floor s.floors[s.config.lines[i].floor] =
      s.setLine i l' := by
    simp [State.setFloor, State.setLine]
  have halarm := alarmChange_of_same s.config.lines[i] hs
  have hnotice := lineTroubleChange_of_same s.config.lines[i] hs hu
  simp only [changeLine, hcount, hfloors, halarm, hnotice, raiseIf, Bool.false_eq_true, if_false]
  simp only [linesFlag, setLine_floors, summaryFlag_same]
  rfl

/-- A change that is an accepted fire alarm or the start of verification raises ALARM (R22). -/
theorem raised_alarm_changeLine (hl : s.load = none)
    (h : alarmChange s.config.lines[i] s.lines[i] l' = true) : Raised .alarm s (changeLine i l' s) :=
  (raised_raiseIf (by simpa using hl) (by simp) h).mono (quiet_raiseIf _ _ _)

theorem raised_trouble_changeLine (hl : s.load = none)
    (h : lineTroubleChange s.config.lines[i] s.lines[i] l' = true) : Raised .trouble s (changeLine i l' s) :=
  raised_raiseIf (by simpa using hl) (by simp) h

/-! ## The change of one line as an event -/

/-- A line that enters ACTIVE as a fire kind moves the regime and the other units (R22, R49). -/
theorem lineEvent_of_rise (h' : fireActive s.config.lines[i] l' = true)
    (h : fireActive s.config.lines[i] s.lines[i] = false) :
    lineEvent i l' s = settle s (fireLine i (changeLine i l' s)) :=
  if_pos (by rw [h, h']; rfl)

/-- Any other change of a line reaches no other unit. -/
theorem lineEvent_of_fire_same (h : fireActive s.config.lines[i] l' = fireActive s.config.lines[i] s.lines[i]) :
    lineEvent i l' s = changeLine i l' s :=
  if_neg (by rw [h, Bool.and_not_self]; exact Bool.false_ne_true)

theorem lineWide_lineEvent (h : fireActive s.config.lines[i] l' = fireActive s.config.lines[i] s.lines[i]) :
    LineWide i s (lineEvent i l' s) := by
  have hc := troubleCounted_changeLine h
  rw [lineEvent_of_fire_same h]
  refine ⟨?_, fun j hj => ?_, hc.regime, hc.floor, hc.quiet⟩
  · rw [hc.frame]
  · rw [changeLine_lines, getElem_set_fin, if_neg hj]

theorem quiet_changeLine_lineEvent : QuietPorts (changeLine i l' s) (lineEvent i l' s) := by
  unfold lineEvent
  dsimp only
  split
  · exact QuietPorts.trans (quiet_of_ports (by simp)) (quiet_settle _ _)
  · exact .refl _

theorem raised_alarm_lineEvent (hl : s.load = none) (h : alarmChange s.config.lines[i] s.lines[i] l' = true) :
    Raised .alarm s (lineEvent i l' s) :=
  (raised_alarm_changeLine hl h).mono quiet_changeLine_lineEvent

theorem raised_trouble_lineEvent (hl : s.load = none)
    (h : lineTroubleChange s.config.lines[i] s.lines[i] l' = true) : Raised .trouble s (lineEvent i l' s) :=
  (raised_trouble_changeLine hl h).mono quiet_changeLine_lineEvent

end

end Sys2Proof.Machine
end

section
/-! SUPPORT. The work of every unit at an event of the regime: what it leaves of each record, and each unit's notices. -/

namespace Sys2Proof.Machine

/-- A reflexive and transitive relation that every step of a fold meets holds from its start to its end. -/
theorem foldl_relates {α : Type} {R : State → State → Prop} (refl : ∀ s, R s s)
    (trans : ∀ {s t u}, R s t → R t u → R s u) {f : State → α → State} (h : ∀ s a, R s (f s a)) :
    ∀ (l : List α) (s : State), R s (l.foldl f s)
  | [], s => refl s
  | a :: l, s => trans (h s a) (foldl_relates refl trans h l (f s a))

/-! ## The floor table -/

theorem allEvacuate_iff (s : State) : allEvacuate s = true ↔ EveryFloorEvacuates s := by
  simp only [allEvacuate, EveryFloorEvacuates, List.all_eq_true, List.mem_finRange, true_implies, Bool.or_eq_true,
    Bool.not_eq_true', beq_iff_eq, ← Bool.not_eq_true, ← imp_iff_not_or]

/-- Deriving rings and statuses anew keeps each floor's counts and routed channel (R74, R76). -/
theorem deriveFloors_floor (s : State) (f : Fin 48) :
    (deriveFloors s).floors[f] =
      { s.floors[f] with
        ring := (deriveFloors s).floors[f].ring, status := (deriveFloors s).floors[f].status } := by
  have h : (deriveFloors s).floors[f] = if s.present f then
      deriveFloor s.regime s.config.system.alertMargin (ringOf (fireFloors s) f) s.floors[f] else s.floors[f] :=
    getElem_tabulate _ _ _
  rw [h]
  split <;> rfl

theorem deriveFloors_status {s : State} {f : Fin 48} (h : s.present f = true) :
    (deriveFloors s).floors[f].status =
      statusOf s.regime s.config.system.alertMargin (ringOf (fireFloors s) f) := by
  have hf : (deriveFloors s).floors[f] = if s.present f then
      deriveFloor s.regime s.config.system.alertMargin (ringOf (fireFloors s) f) s.floors[f] else s.floors[f] :=
    getElem_tabulate _ _ _
  rw [hf, if_pos h]
  rfl

/-- The spread timer does not stop outside ACTIVE (R78). -/
theorem spreadStop_of_not_active {s : State} (h : s.regime.state ≠ .active) : spreadStop s = s :=
  if_neg (by simp [h])

theorem spreadStop_of_all {s : State} (ha : s.regime.state = .active) (he : EveryFloorEvacuates s)
    (hd : s.regime.spread ≠ .running 0) :
    spreadStop s = s.setRegime { s.regime with spread := .stopped, spreadHeld := false } :=
  if_pos (by simp [ha, (allEvacuate_iff s).mpr he, ← Bool.not_eq_true, hd])

/-- A floor that does not evacuate keeps the spread, and a timer that has run out waits for its expiry (R78, R80; log
entry 27). -/
theorem spreadStop_of_not_all {s : State} (h : ¬ EveryFloorEvacuates s ∨ s.regime.spread = .running 0) :
    spreadStop s = s := by
  refine if_neg fun hc => ?_
  simp only [Bool.and_eq_true, Bool.not_eq_true', ← Bool.not_eq_true, spreadDue_iff, allEvacuate_iff] at hc
  obtain ⟨⟨-, he⟩, hd⟩ := hc
  exact h.elim (· he) hd

/-- The stop of the spread timer changes the timer and spread-held alone. -/
theorem spreadStop_regime (s : State) :
    (spreadStop s).regime =
      { s.regime with
        spread := (spreadStop s).regime.spread, spreadHeld := (spreadStop s).regime.spreadHeld } := by
  unfold spreadStop
  split <;> rfl

/-! ## The lifts -/

/-- What the lift unit keeps of a car: its report, its flags and its timer (R95). -/
def CarKept (c d : Car) : Prop :=
  d =
    { c with
      phase := d.phase, directive := d.directive, target := d.target, noStop := d.noStop, warning := d.warning }

theorem CarKept.trans {c d e : Car} (h : CarKept c d) (k : CarKept d e) : CarKept c e := by
  unfold CarKept at h k ⊢
  rw [k, h]

theorem carKept_carRise (t : Option (Fin 48)) (c : Car) : CarKept c (carRise t c) := by
  unfold carRise
  (repeat' split) <;> rfl

theorem carKept_carRetarget (t : Option (Fin 48)) (c : Car) : CarKept c (carRetarget t c) := by
  unfold carRetarget
  (repeat' split) <;> rfl

theorem carKept_carNoStop (s : State) (g : Fin 3) (fs : FloorSet) (c : Car) : CarKept c (carNoStop s g fs c) := by
  unfold carNoStop
  split <;> rfl

theorem carKept_carSettle (s : State) (old : LGroup) (g : Fin 3) (fs : FloorSet) (c : Car) :
    CarKept c (carSettle s old g fs c) := by
  unfold carSettle
  refine CarKept.trans ?_ (carKept_carNoStop s g fs _)
  (repeat' split)
  · exact carKept_carRise _ c
  · rfl
  · exact carKept_carRetarget _ c
  · rfl

theorem carKept_settleCars (old : Vector LGroup 3) (s : State) (c : Fin 12) :
    CarKept s.cars[c] (settleCars old s).cars[c] := by
  have h : (settleCars old s).cars[c] = if s.config.cars[c].present then
      carSettle s old[s.config.cars[c].group] s.config.cars[c].group s.config.cars[c].served s.cars[c]
      else s.cars[c] := getElem_tabulate _ _ _
  rw [h]
  split
  · exact carKept_carSettle ..
  · rfl

theorem carKept_liftSettle (s0 s : State) (c : Fin 12) : CarKept s.cars[c] (liftSettle s0 s).cars[c] := by
  have h : (liftSettle s0 s).cars = (settleCars s.lgroups (judgeGroups s)).cars := by simp [liftSettle]
  rw [h]
  exact carKept_settleCars s.lgroups (judgeGroups s) c

/-- The groups after the lift unit's work: trigger and target judged anew, the manual flag kept (R90, R93). -/
theorem liftSettle_lgroup (s0 s : State) (g : Fin 3) :
    (liftSettle s0 s).lgroups[g] = { s.lgroups[g] with triggered := trigger s g, target := targetOf s g } := by
  have h : (liftSettle s0 s).lgroups = (judgeGroups s).lgroups := by simp [liftSettle]
  rw [h]
  exact getElem_tabulate _ _ _

/-! ## The doors -/

/-- What the door unit keeps of a circuit when demands change: its trip count, open-fault flag and last current
(R116). -/
def DoorKept (d e : Door) : Prop :=
  e = { d with state := e.state, cool := e.cool, candidate := e.candidate, count := e.count }

theorem DoorKept.refl (d : Door) : DoorKept d d := rfl

theorem DoorKept.trans {d e f : Door} (h : DoorKept d e) (k : DoorKept e f) : DoorKept d f := by
  unfold DoorKept at h k ⊢
  rw [k, h]

theorem doorKept_releaseDoor (d : Door) : DoorKept d (releaseDoor d) := by
  unfold releaseDoor
  split <;> rfl

theorem doorKept_releaseGroup (g : Fin 16) (s : State) (c : Fin 32) :
    DoorKept s.doors[c] (releaseGroup g s).doors[c] := by
  have h : (releaseGroup g s).doors[c] = if memberOf s g c then releaseDoor s.doors[c] else s.doors[c] :=
    getElem_tabulate _ _ _
  rw [h]
  split
  · exact doorKept_releaseDoor _
  · rfl

/-- One group's demand judged anew releases it, queues it, or leaves the part as it is (R115). -/
theorem judgeDemand_cases (s : State) (g : Fin 16) :
    judgeDemand s g = s ∨ judgeDemand s g = releaseGroup g s ∨ judgeDemand s g = joinQueue g s := by
  unfold judgeDemand
  (repeat' split) <;> simp

theorem doorKept_judgeDemand (s : State) (g : Fin 16) (c : Fin 32) :
    DoorKept s.doors[c] (judgeDemand s g).doors[c] := by
  obtain h | h | h := judgeDemand_cases s g <;> rw [h]
  · exact .refl _
  · exact doorKept_releaseGroup g s c
  · exact .refl s.doors[c]

/-- Judging a demand changes no override (R115). -/
theorem judgeDemand_override (s : State) (g k : Fin 16) :
    (judgeDemand s g).dgroups[k].override = s.dgroups[k].override := by
  obtain h | h | h := judgeDemand_cases s g <;> rw [h]
  all_goals
    simp only [releaseGroup, joinQueue, getElem_set_fin]
    split
    · next e => subst e; rfl
    · rfl

theorem doorKept_doorSettle (s0 s : State) (c : Fin 32) : DoorKept s.doors[c] (doorSettle s0 s).doors[c] := by
  have h : (doorSettle s0 s).doors = (judgeDemands s).doors := by simp [doorSettle]
  rw [h, judgeDemands]
  exact foldl_relates (R := fun u v => DoorKept u.doors[c] v.doors[c]) (fun _ => .refl _) (fun h k => h.trans k)
    (fun u g => doorKept_judgeDemand u g c) _ s

theorem doorSettle_override (s0 s : State) (g : Fin 16) :
    (doorSettle s0 s).dgroups[g].override = s.dgroups[g].override := by
  have h : (doorSettle s0 s).dgroups = (judgeDemands s).dgroups := by simp [doorSettle]
  rw [h, judgeDemands]
  exact foldl_keeps (fun u => u.dgroups[g].override) judgeDemand (fun u k => judgeDemand_override u k g) _ s

/-! ## The regime record and the floors after the work of every unit -/

/-- Nothing of a regime record but its trouble summary differs. -/
def OnlyTroubles (g h : Regime) : Prop := h = { g with trouble := h.trouble }

theorem OnlyTroubles.trans {g h k : Regime} (hg : OnlyTroubles g h) (hh : OnlyTroubles h k) : OnlyTroubles g k := by
  unfold OnlyTroubles at hg hh ⊢
  rw [hh, hg]

theorem onlyTroubles_liftSettle (s0 s : State) : OnlyTroubles s.regime (liftSettle s0 s).regime := by
  simp [OnlyTroubles, liftSettle, liftNotices, liftsFlag, setTrouble]

theorem onlyTroubles_doorSettle (s0 s : State) : OnlyTroubles s.regime (doorSettle s0 s).regime := by
  simp [OnlyTroubles, doorSettle, doorNotices, doorsFlag, setTrouble]

theorem onlyTroubles_routerSettle (s0 s : State) : OnlyTroubles s.regime (routerSettle s0 s).regime := by
  simp [OnlyTroubles, routerSettle, routerFinish, routerNotices, voiceFlag, setTrouble]

theorem floorSettle_regime (s0 s : State) : (floorSettle s0 s).regime = (spreadStop (deriveFloors s)).regime := by
  simp [floorSettle]

theorem floorSettle_floors (s0 s : State) : (floorSettle s0 s).floors = (deriveFloors s).floors := by
  simp [floorSettle]

theorem routerSettle_floor (s0 s : State) (f : Fin 48) :
    (routerSettle s0 s).floors[f] = { s.floors[f] with routed := (routerSettle s0 s).floors[f].routed } := by
  have h : (routerSettle s0 s).floors = (deriveRouting (assign (regimeEntries (stripTenants s)))).floors := by
    simp only [routerSettle, routerFinish, routerNotices_frame, route]
    split <;> simp
  have hf : (deriveRouting (assign (regimeEntries (stripTenants s)))).floors[f] =
      { (assign (regimeEntries (stripTenants s))).floors[f] with
        routed := routeOf (assign (regimeEntries (stripTenants s))) f } := getElem_tabulate _ _ _
  rw [h, hf]
  simp

theorem onlyTroubles_settle (s0 s : State) :
    OnlyTroubles (spreadStop (deriveFloors s)).regime (settle s0 s).regime := by
  rw [← floorSettle_regime s0 s]
  exact ((onlyTroubles_liftSettle _ _).trans (onlyTroubles_doorSettle _ _)).trans (onlyTroubles_routerSettle _ _)

/-- The work of every unit derives each floor's ring, status and routed channel, and keeps its counts (R76). -/
theorem settle_floor (s0 s : State) (f : Fin 48) :
    (settle s0 s).floors[f] =
      { (deriveFloors s).floors[f] with routed := (settle s0 s).floors[f].routed } := by
  refine (routerSettle_floor s0 _ f).trans ?_
  have h : (doorSettle s0 (liftSettle s0 (floorSettle s0 s))).floors = (deriveFloors s).floors := by
    simp [floorSettle_floors]
  rw [h]
  rfl

theorem settle_status (s0 s : State) (f : Fin 48) :
    (settle s0 s).floors[f].status = (deriveFloors s).floors[f].status := by
  rw [settle_floor]

theorem everyFloorEvacuates_settle (s0 s : State) :
    EveryFloorEvacuates (settle s0 s) ↔ EveryFloorEvacuates (deriveFloors s) := by
  have hp : ∀ f : Fin 48, (settle s0 s).present f = (deriveFloors s).present f := fun f => by
    simp [State.present]
  simp only [EveryFloorEvacuates, hp, settle_status]

/-- Outside ACTIVE the work of every unit changes the trouble summary of the regime record alone. -/
theorem settle_regime_of_not_active {s0 s : State} (h : s.regime.state ≠ .active) :
    OnlyTroubles s.regime (settle s0 s).regime := by
  have hs : spreadStop (deriveFloors s) = deriveFloors s := spreadStop_of_not_active h
  have ht := onlyTroubles_settle s0 s
  rw [hs] at ht
  exact ht

/-- In ACTIVE the spread timer stops where every floor then evacuates, unless it has run out (R78, R80). -/
theorem settle_regime_of_all {s0 s : State} (ha : s.regime.state = .active)
    (he : EveryFloorEvacuates (settle s0 s)) (hd : s.regime.spread ≠ .running 0) :
    OnlyTroubles { s.regime with spread := .stopped, spreadHeld := false } (settle s0 s).regime := by
  have hs : spreadStop (deriveFloors s) = _ :=
    spreadStop_of_all ha ((everyFloorEvacuates_settle s0 s).mp he) hd
  have ht := onlyTroubles_settle s0 s
  rw [hs] at ht
  exact ht

theorem settle_regime_of_not_all {s0 s : State}
    (h : ¬ EveryFloorEvacuates (settle s0 s) ∨ s.regime.spread = .running 0) :
    OnlyTroubles s.regime (settle s0 s).regime := by
  rw [everyFloorEvacuates_settle] at h
  have hs : spreadStop (deriveFloors s) = deriveFloors s := spreadStop_of_not_all h
  have ht := onlyTroubles_settle s0 s
  rw [hs] at ht
  exact ht

/-- The state of the regime, its first alarm and the rest that the spread does not touch pass through the work of every
unit. -/
theorem settle_regime (s0 s : State) :
    (settle s0 s).regime =
      { s.regime with
        spread := (settle s0 s).regime.spread, spreadHeld := (settle s0 s).regime.spreadHeld
        trouble := (settle s0 s).regime.trouble } := by
  have ht := onlyTroubles_settle s0 s
  unfold OnlyTroubles at ht
  rw [spreadStop_regime (deriveFloors s)] at ht
  rw [ht]
  rfl

/-! ## Cars, circuits and groups after the work of every unit -/

theorem settle_car (s0 s : State) (c : Fin 12) : CarKept s.cars[c] (settle s0 s).cars[c] := by
  have h : (settle s0 s).cars = (liftSettle s0 (floorSettle s0 s)).cars := by simp [settle]
  have hf : (floorSettle s0 s).cars = s.cars := by simp
  rw [h, ← hf]
  exact carKept_liftSettle s0 (floorSettle s0 s) c

theorem settle_door (s0 s : State) (c : Fin 32) : DoorKept s.doors[c] (settle s0 s).doors[c] := by
  have h : (settle s0 s).doors = (doorSettle s0 (liftSettle s0 (floorSettle s0 s))).doors := by simp [settle]
  have hf : (liftSettle s0 (floorSettle s0 s)).doors = s.doors := by simp
  rw [h, ← hf]
  exact doorKept_doorSettle s0 (liftSettle s0 (floorSettle s0 s)) c

theorem settle_override (s0 s : State) (g : Fin 16) :
    (settle s0 s).dgroups[g].override = s.dgroups[g].override := by
  have h : (settle s0 s).dgroups = (doorSettle s0 (liftSettle s0 (floorSettle s0 s))).dgroups := by simp [settle]
  rw [h, doorSettle_override]
  simp

theorem settle_lgroup (s0 s : State) (g : Fin 3) :
    (settle s0 s).lgroups[g] =
      { s.lgroups[g] with
        triggered := trigger (floorSettle s0 s) g, target := targetOf (floorSettle s0 s) g } := by
  have h : (settle s0 s).lgroups = (liftSettle s0 (floorSettle s0 s)).lgroups := by simp [settle]
  rw [h, liftSettle_lgroup]
  simp

/-- Every field of the state that the work of every unit may change. -/
theorem settle_eq_with (s0 s : State) :
    settle s0 s =
      { s with
        regime := (settle s0 s).regime, floors := (settle s0 s).floors, lgroups := (settle s0 s).lgroups
        cars := (settle s0 s).cars, doors := (settle s0 s).doors, dgroups := (settle s0 s).dgroups
        resecure := (settle s0 s).resecure, stagger := (settle s0 s).stagger, entries := (settle s0 s).entries
        channels := (settle s0 s).channels, chain := (settle s0 s).chain, ports := (settle s0 s).ports } := by
  obtain ⟨hload, hconfig, henable, hstore, hbusy, hslot, hlines, hpgroups, hfree, hpending⟩ := settle_frame s s0
  rw [← hload, ← hconfig, ← henable, ← hstore, ← hbusy, ← hslot, ← hlines, ← hpgroups, ← hfree, ← hpending]

/-! ## The notices of the units -/

theorem FloorNoticed.mono {s t u : State} (h : FloorNoticed s t) (hq : QuietPorts t u)
    (hf : ∀ f : Fin 48, u.floors[f].status = t.floors[f].status) : FloorNoticed s u := by
  intro hl hchange
  simp only [hf] at hchange
  exact (h hl hchange).mono hq

theorem LiftNoticed.mono {s t u : State} (h : LiftNoticed s t) (hq : QuietPorts t u) (hg : u.lgroups = t.lgroups)
    (hc : u.cars = t.cars) : LiftNoticed s u := by
  intro hl hchange
  rw [hg, hc] at hchange
  exact (h hl hchange).mono hq

theorem DoorNoticed.mono {s t u : State} (h : DoorNoticed s t) (hq : QuietPorts t u) (hg : u.dgroups = t.dgroups)
    (hr : u.resecure = t.resecure) (hd : u.doors = t.doors) : DoorNoticed s u := by
  intro hl hchange
  rw [hg, hr, hd] at hchange
  exact (h hl hchange).mono hq

section
variable {s0 s : State} (hl : s.load = s0.load) (hc : s.config = s0.config)
include hl hc

theorem floorNoticed_settle : FloorNoticed s0 (settle s0 s) := by
  have h : FloorNoticed s0 (floorNotice s0 (spreadStop (deriveFloors s))) :=
    floorNoticed_floorNotice (by simpa using hl) (by simpa using hc)
  have hfloors : (floorNotice s0 (spreadStop (deriveFloors s))).floors = (deriveFloors s).floors := by simp
  refine h.mono ?_ fun f => by rw [settle_status, hfloors]
  exact (((quiet_regimeNotice s0 _).trans (quiet_liftSettle s0 _)).trans (quiet_doorSettle s0 _)).trans
    (quiet_routerSettle s0 _)

theorem liftNoticed_settle : LiftNoticed s0 (settle s0 s) := by
  have h : LiftNoticed s0 (liftSettle s0 (floorSettle s0 s)) :=
    liftNoticed_liftNotices (by simpa using hl) (by simpa using hc)
  exact h.mono ((quiet_doorSettle s0 _).trans (quiet_routerSettle s0 _)) (by simp [settle]) (by simp [settle])

theorem doorNoticed_settle : DoorNoticed s0 (settle s0 s) := by
  have h : DoorNoticed s0 (doorSettle s0 (liftSettle s0 (floorSettle s0 s))) :=
    doorNoticed_doorNotices (by simpa using hl) (by simpa using hc)
  exact h.mono (quiet_routerSettle s0 _) (by simp [settle]) (by simp [settle]) (by simp [settle])

/-- A change that the regime record shows raises REGIME (R68). -/
theorem raised_regime_settle (h0 : s0.load = none)
    (h : regimeView s0.regime ≠ regimeView (spreadStop (deriveFloors s)).regime) :
    Raised .regime s0 (settle s0 s) := by
  have hr : Raised .regime s0 (floorSettle s0 s) :=
    raised_raiseIf (by simpa using hl.trans h0) (by simpa using hc) (by simpa [floorNotice] using h)
  exact hr.mono (((quiet_liftSettle s0 _).trans (quiet_doorSettle s0 _)).trans (quiet_routerSettle s0 _))

/-- What an event of the regime keeps of every unit, when the event itself touched no car and no circuit. -/
theorem unitsKept_settle (hcars : s.cars = s0.cars) (hdoors : s.doors = s0.doors) : UnitsKept s0 (settle s0 s) := by
  refine ⟨fun c => ?_, fun c => ?_, floorNoticed_settle hl hc, liftNoticed_settle hl hc, doorNoticed_settle hl hc⟩
  · rw [← hcars]
    exact settle_car s0 s c
  · rw [← hdoors]
    exact settle_door s0 s c

end

/-- A change of the regime's state, or of silenced, is one that a REGIME notice shows (R68). -/
theorem regimeView_ne_of_state {s0 s : State}
    (h : s0.regime.state ≠ s.regime.state ∨ s0.regime.silenced ≠ s.regime.silenced) :
    regimeView s0.regime ≠ regimeView (spreadStop (deriveFloors s)).regime := by
  rw [spreadStop_regime (deriveFloors s)]
  intro e
  simp only [regimeView, Prod.mk.injEq] at e
  obtain ⟨hstate, -, hsilenced, -⟩ := e
  exact h.elim (· hstate) (· hsilenced)

end Sys2Proof.Machine
end

section
/-! SUPPORT. A fire line's entry into ACTIVE: what it makes of the regime and of the units. -/

namespace Sys2Proof.Machine

/-! ## The regime's entry into ACTIVE (R50) -/

theorem seconds_eq (n : Nat) : seconds n = 1000 * n := Nat.mul_comm n 1000

theorem startSeconds_eq (n : Nat) : startSeconds n = if n = 0 then none else some (1000 * n) := by
  rw [startSeconds, seconds_eq]

theorem spreadStart_zero : spreadStart 0 = .stopped := rfl

theorem spreadStart_pos {n : Nat} (h : n ≠ 0) : spreadStart n = .running (1000 * n) := by
  rw [spreadStart, if_neg h, seconds_eq]

/-- The spread timer does not start already run out. -/
theorem spreadStart_ne_zero (n : Nat) : spreadStart n ≠ .running 0 := by
  unfold spreadStart seconds
  split
  · exact nofun
  · simp only [ne_eq, SpreadTimer.running.injEq]
    omega

/-- The spread timer at the entry into ACTIVE (R50, R59). -/
theorem activeRegime_spread_ne_zero (sys : SystemCfg) (g : Regime) : (activeRegime sys g).spread ≠ .running 0 := by
  unfold activeRegime
  dsimp only
  split
  · exact nofun
  · exact spreadStart_ne_zero _

/-- The entry into ACTIVE as the regime record shows it after the work of every unit: `w` is the state before the entry,
and nothing of the regime record of `s` but the first alarm, evacuate-all and the trouble summary has changed in it. -/
theorem entersActive_settle {s w : State} (h0 : s.load = none) (hl : w.load = s.load) (hc : w.config = s.config)
    (hs : s.regime.state ≠ .active)
    (hw : w.regime = { s.regime with
      firstAlarm := w.regime.firstAlarm, evacuateAll := w.regime.evacuateAll, trouble := w.regime.trouble }) :
    EntersActive s (settle s (enterActive w)) := by
  have hregime := settle_regime s (enterActive w)
  have hspread0 : (enterActive w).regime.spread ≠ .running 0 := activeRegime_spread_ne_zero _ _
  have hevac : (settle s (enterActive w)).regime.evacuateAll = w.regime.evacuateAll := by rw [hregime]; rfl
  have hstart : (enterActive w).regime.spread =
      if w.regime.evacuateAll then .stopped else spreadStart s.config.system.spreadInterval := by
    rw [← hc]; rfl
  have hall (he : EveryFloorEvacuates (settle s (enterActive w))) :
      OnlyTroubles { (enterActive w).regime with spread := .stopped, spreadHeld := false }
        (settle s (enterActive w)).regime := settle_regime_of_all rfl he hspread0
  have hnot (he : ¬ EveryFloorEvacuates (settle s (enterActive w))) :
      OnlyTroubles (enterActive w).regime (settle s (enterActive w)).regime := settle_regime_of_not_all (.inl he)
  have hheld : (settle s (enterActive w)).regime.spreadHeld = false := by
    by_cases he : EveryFloorEvacuates (settle s (enterActive w))
    · rw [hall he]
    · rw [hnot he]; rfl
  refine ⟨?_, ?_, fun h => ?_, fun h => ?_⟩
  · exact raised_regime_settle (by simpa using hl) (by simpa using hc) h0 (regimeView_ne_of_state (.inl hs))
  · rw [hregime, hheld]
    simp only [enterActive, setRegime_regime, activeRegime, startSeconds_eq, hc]
    rw [hw]
  · by_cases he : EveryFloorEvacuates (settle s (enterActive w))
    · rw [hall he]
    · rw [hnot he]
      refine hstart.trans ?_
      rw [hevac] at h
      obtain h | h | h := h
      · rw [if_pos h]
      · rw [h, spreadStart_zero, ite_self]
      · exact absurd h he
  · rw [hevac] at h
    obtain ⟨hne, hi, he⟩ : w.regime.evacuateAll ≠ true ∧ s.config.system.spreadInterval ≠ 0 ∧
        ¬ EveryFloorEvacuates (settle s (enterActive w)) := by simpa only [not_or] using h
    rw [hnot he]
    refine hstart.trans ?_
    rw [if_neg hne, spreadStart_pos hi]

/-! ## The regime at a fire line (R49, R51, R53, R54, R58) -/

theorem holdEligible_iff (k : LineKind) : LineKind.holdEligible k = true ↔ k = .smoke ∨ k = .heat := by
  cases k <;> simp [LineKind.holdEligible]

theorem onlyFire_iff (s : State) (i : Fin 64) :
    onlyFire s i = true ↔ ∀ j : Fin 64, j ≠ i → fireActive s.config.lines[j] s.lines[j] = false := by
  simp only [onlyFire, List.all_eq_true, List.mem_finRange, true_implies, Bool.or_eq_true, beq_iff_eq,
    Bool.not_eq_true', or_iff_not_imp_left]

theorem holds_iff (s : State) (i : Fin 64) : holds s i = true ↔ FirstAlarmIsHeld i s := by
  simp only [holds, Bool.and_eq_true, holdEligible_iff, onlyFire_iff, FirstAlarmIsHeld, and_assoc]

/-- What decides on the hold is not of the line that gives the first alarm but its kind. -/
theorem firstAlarmIsHeld_congr {s t : State} {i : Fin 64} (hc : t.config = s.config)
    (hlines : ∀ j : Fin 64, j ≠ i → t.lines[j] = s.lines[j]) : FirstAlarmIsHeld i t ↔ FirstAlarmIsHeld i s := by
  unfold FirstAlarmIsHeld
  rw [hc]
  exact and_congr_right fun _ => and_congr_right fun _ => forall₂_congr fun j hj => by rw [hlines j hj]

section
variable {i : Fin 64} {w : State}

/-- The state at the exit from QUIET: line i is the first alarm and the FORCE_SECURE groups revert (R49, R51). -/
def leavesQuiet (i : Fin 64) (w : State) : State :=
  revertForceSecure (w.setRegime { w.regime with firstAlarm := some i })

theorem fireLine_quiet_held (hq : w.regime.state = .quiet) (h : FirstAlarmIsHeld i w) :
    fireLine i w = enterHold (leavesQuiet i w) := by
  simp only [fireLine, hq, (holds_iff w i).mpr h, if_true, leavesQuiet]

theorem fireLine_quiet_not_held (hq : w.regime.state = .quiet) (h : ¬ FirstAlarmIsHeld i w) :
    fireLine i w = enterActive (leavesQuiet i w) := by
  have hh : holds w i = false := Bool.eq_false_iff.mpr (mt (holds_iff w i).mp h)
  simp only [fireLine, hq, hh, Bool.false_eq_true, if_false, leavesQuiet]

theorem fireLine_hold (h : w.regime.state = .holdAck ∨ w.regime.state = .holdInvestigate) :
    fireLine i w = enterActive w := by
  obtain h | h := h <;> simp only [fireLine, h]

theorem fireLine_active (h : w.regime.state = .active) :
    fireLine i w = w.setRegime { w.regime with silenced := false } := by
  simp only [fireLine, h]

/-- A fire line leaves the regime outside QUIET. -/
theorem fireLine_state_ne_quiet (i : Fin 64) (w : State) : (fireLine i w).regime.state ≠ .quiet := by
  cases hs : w.regime.state with
  | quiet =>
    by_cases h : FirstAlarmIsHeld i w
    · rw [fireLine_quiet_held hs h]; exact nofun
    · rw [fireLine_quiet_not_held hs h]; exact nofun
  | holdAck => rw [fireLine_hold (.inl hs)]; exact nofun
  | holdInvestigate => rw [fireLine_hold (.inr hs)]; exact nofun
  | active => rw [fireLine_active hs, setRegime_regime, hs]; exact nofun

theorem revertForceSecure_override (s : State) (g : Fin 16) :
    (revertForceSecure s).dgroups[g].override =
      if s.dgroups[g].override = .forceSecure then .auto else s.dgroups[g].override := by
  have h : (revertForceSecure s).dgroups[g] =
      if s.dgroups[g].override = .forceSecure then { s.dgroups[g] with override := .auto } else s.dgroups[g] :=
    getElem_tabulate _ _ _
  rw [h]
  split <;> rfl

theorem fireLine_firstAlarm (i : Fin 64) (w : State) :
    (fireLine i w).regime.firstAlarm = (if w.regime.state = .quiet then some i else w.regime.firstAlarm) ∧
      (fireLine i w).regime.evacuateAll = w.regime.evacuateAll := by
  cases hs : w.regime.state with
  | quiet =>
    by_cases h : FirstAlarmIsHeld i w
    · rw [fireLine_quiet_held hs h]; exact ⟨rfl, rfl⟩
    · rw [fireLine_quiet_not_held hs h]; exact ⟨rfl, rfl⟩
  | holdAck => rw [fireLine_hold (.inl hs)]; exact ⟨rfl, rfl⟩
  | holdInvestigate => rw [fireLine_hold (.inr hs)]; exact ⟨rfl, rfl⟩
  | active => rw [fireLine_active hs]; exact ⟨rfl, rfl⟩

/-- The FORCE_SECURE groups revert exactly at the exit from QUIET (R51, R131). -/
theorem fireLine_override (i : Fin 64) (w : State) (g : Fin 16) :
    (fireLine i w).dgroups[g].override =
      if w.regime.state = .quiet ∧ w.dgroups[g].override = .forceSecure then .auto else w.dgroups[g].override := by
  cases hs : w.regime.state with
  | quiet =>
    simp only [true_and]
    by_cases h : FirstAlarmIsHeld i w
    · rw [fireLine_quiet_held hs h]; exact revertForceSecure_override _ g
    · rw [fireLine_quiet_not_held hs h]; exact revertForceSecure_override _ g
  | holdAck => rw [fireLine_hold (.inl hs), if_neg nofun]; rfl
  | holdInvestigate => rw [fireLine_hold (.inr hs), if_neg nofun]; rfl
  | active => rw [fireLine_active hs, if_neg nofun]; rfl

end

/-! ## The event of a fire line -/

section
variable {i : Fin 64} {l' : Line} {s : State}

/-- The regime record as the line's own change leaves it: as before but for the trouble summary (R66). -/
theorem changeLine_onlyTroubles (i : Fin 64) (l' : Line) (s : State) :
    OnlyTroubles s.regime (changeLine i l' s).regime := by
  have h := changeLine_regime i l' s
  unfold OnlyTroubles
  rw [h]

theorem changeLine_regime_state (i : Fin 64) (l' : Line) (s : State) :
    (changeLine i l' s).regime.state = s.regime.state := by
  rw [changeLine_onlyTroubles i l' s]

theorem firstAlarmIsHeld_changeLine : FirstAlarmIsHeld i (changeLine i l' s) ↔ FirstAlarmIsHeld i s :=
  firstAlarmIsHeld_congr (by simp) fun j hj => by rw [changeLine_lines, getElem_set_fin, if_neg hj]

/-- A fire line in QUIET whose alarm is held: the regime waits for the acknowledgement (R49). -/
theorem settle_held_regime (hq : s.regime.state = .quiet) (h : FirstAlarmIsHeld i s) :
    (settle s (fireLine i (changeLine i l' s))).regime =
      { s.regime with
        state := .holdAck, firstAlarm := some i, hold := some (1000 * s.config.system.ackWindow)
        trouble := (settle s (fireLine i (changeLine i l' s))).regime.trouble } := by
  have hfire : fireLine i (changeLine i l' s) = enterHold (leavesQuiet i (changeLine i l' s)) :=
    fireLine_quiet_held ((changeLine_regime_state i l' s).trans hq) (firstAlarmIsHeld_changeLine.mpr h)
  have hkept : OnlyTroubles (fireLine i (changeLine i l' s)).regime _ :=
    settle_regime_of_not_active (s0 := s) (by rw [hfire]; exact nofun)
  refine Eq.trans hkept ?_
  rw [hfire]
  simp only [enterHold, leavesQuiet, setRegime_regime, revertForceSecure_frame, setRegime_config, changeLine_frame,
    seconds_eq]
  rw [changeLine_onlyTroubles i l' s]

/-- A fire line in QUIET whose alarm is not held: the regime enters ACTIVE (R49 to R51). -/
theorem entersActive_of_quiet (h0 : s.load = none) (hq : s.regime.state = .quiet) (h : ¬ FirstAlarmIsHeld i s) :
    EntersActive s (settle s (fireLine i (changeLine i l' s))) := by
  rw [fireLine_quiet_not_held ((changeLine_regime_state i l' s).trans hq) (mt firstAlarmIsHeld_changeLine.mp h)]
  refine entersActive_settle h0 (by simp [leavesQuiet]) (by simp [leavesQuiet]) (by rw [hq]; exact nofun) ?_
  simp only [leavesQuiet, revertForceSecure_frame, setRegime_regime]
  rw [changeLine_onlyTroubles i l' s]

/-- A fire line ends a hold in ACTIVE (R53, R54). -/
theorem entersActive_of_hold (h0 : s.load = none)
    (hs : s.regime.state = .holdAck ∨ s.regime.state = .holdInvestigate) :
    EntersActive s (settle s (fireLine i (changeLine i l' s))) := by
  have hne : s.regime.state ≠ .active := by obtain h | h := hs <;> rw [h] <;> exact nofun
  rw [← changeLine_regime_state i l' s] at hs
  rw [fireLine_hold hs]
  refine entersActive_settle h0 (by simp) (by simp) hne ?_
  rw [changeLine_onlyTroubles i l' s]

/-- The first alarm is given where the regime leaves QUIET, and no fire line changes evacuate-all (R49). -/
theorem settle_fireLine_firstAlarm :
    (settle s (fireLine i (changeLine i l' s))).regime.firstAlarm =
        (if s.regime.state = .quiet then some i else s.regime.firstAlarm) ∧
      (settle s (fireLine i (changeLine i l' s))).regime.evacuateAll = s.regime.evacuateAll := by
  have hkept := changeLine_onlyTroubles i l' s
  have hfire := fireLine_firstAlarm i (changeLine i l' s)
  rw [hkept] at hfire
  rw [settle_regime]
  exact hfire

/-- A fire line in ACTIVE unsilences the regime (R58). -/
theorem fireLine_changeLine_active (ha : s.regime.state = .active) :
    (fireLine i (changeLine i l' s)).regime =
      { s.regime with silenced := false, trouble := (changeLine i l' s).regime.trouble } := by
  rw [fireLine_active ((changeLine_regime_state i l' s).trans ha), setRegime_regime]
  rw [changeLine_onlyTroubles i l' s]

/-- A fire line's own change and the work of every unit after it start from the load and the configuration before. -/
theorem fireLine_changeLine_load (i : Fin 64) (l' : Line) (s : State) :
    (fireLine i (changeLine i l' s)).load = s.load ∧ (fireLine i (changeLine i l' s)).config = s.config := by
  simp

/-- The state of the regime or silenced changes at a fire line that meets it outside ACTIVE or silenced (R68). -/
theorem raised_regime_fireLine (h0 : s.load = none)
    (h : s.regime.state ≠ (fireLine i (changeLine i l' s)).regime.state ∨
      s.regime.silenced ≠ (fireLine i (changeLine i l' s)).regime.silenced) :
    Raised .regime s (settle s (fireLine i (changeLine i l' s))) := by
  obtain ⟨hl, hc⟩ := fireLine_changeLine_load i l' s
  exact raised_regime_settle hl hc h0 (regimeView_ne_of_state h)

theorem fireWide_settle_fireLine :
    FireWide s (settle s (fireLine i (changeLine i l' s))) := by
  obtain ⟨hl, hc⟩ := fireLine_changeLine_load i l' s
  refine ⟨?_, unitsKept_settle hl hc (by simp) (by simp), fun g => ?_, fun g => ?_⟩
  · rw [settle_eq_with]
    simp
  · rw [settle_override, fireLine_override, changeLine_regime_state, settle_regime]
    simp [fireLine_state_ne_quiet]
  · rw [settle_lgroup]
    simp

end

section
variable {i : Fin 64} {l' : Line} {s : State}

/-- An accepted fire alarm: what it makes of the line, its floor, the regime and the units (R22, R49 to R51, R53, R54,
R58, R70, R78). -/
theorem fireEntry_lineEvent (h0 : s.load = none) (h' : fireActive s.config.lines[i] l' = true)
    (h : fireActive s.config.lines[i] s.lines[i] = false) : FireEntry i s (lineEvent i l' s) := by
  have halarm : alarmChange s.config.lines[i] s.lines[i] l' = true := by
    rw [alarmChange, h, h']; rfl
  refine ⟨fun j hj => ?_, ?_, raised_alarm_lineEvent h0 halarm, ?_, ?_⟩
  · rw [lineEvent_lines, getElem_set_fin, if_neg hj]
  · have hfloors : (fireLine i (changeLine i l' s)).floors = (changeLine i l' s).floors := by simp
    rw [lineEvent_of_rise h' h, settle_floor, deriveFloors_floor, hfloors, changeLine_floor_self, countFloor, h, h']
    rfl
  · rw [lineEvent_of_rise h' h]
    exact fireWide_settle_fireLine
  · rw [lineEvent_of_rise h' h]
    obtain ⟨hfirst, hevac⟩ := settle_fireLine_firstAlarm (i := i) (l' := l') (s := s)
    cases hs : s.regime.state with
    | quiet =>
      rw [hs, if_pos rfl] at hfirst
      have hstate : s.regime.state ≠ (fireLine i (changeLine i l' s)).regime.state := by
        rw [hs]
        exact (fireLine_state_ne_quiet i _).symm
      exact ⟨hfirst, raised_regime_fireLine h0 (.inl hstate), hevac, settle_held_regime hs,
        entersActive_of_quiet h0 hs⟩
    | active =>
      have hfire := fireLine_changeLine_active (i := i) (l' := l') hs
      refine ⟨?_, fun hsil => raised_regime_fireLine h0 (.inr ?_), fun he hd => ?_, fun he => ?_⟩
      · rw [settle_regime, hfire]
      · rw [hfire, hsil]; exact nofun
      · have hr := settle_regime_of_all (by rw [hfire]; exact hs) he (by rw [hfire]; exact hd)
        rw [hr]
        exact ⟨rfl, rfl⟩
      · have hr := settle_regime_of_not_all (s0 := s) (s := fireLine i (changeLine i l' s)) (by rw [hfire]; exact he)
        rw [hr, hfire]
        exact ⟨rfl, rfl⟩
    | holdAck =>
      rw [hs, if_neg nofun] at hfirst
      exact ⟨entersActive_of_hold h0 (.inl hs), hfirst, hevac⟩
    | holdInvestigate =>
      rw [hs, if_neg nofun] at hfirst
      exact ⟨entersActive_of_hold h0 (.inr hs), hfirst, hevac⟩

end

end Sys2Proof.Machine
end

section
/-! SUPPORT. A band that newly qualifies on a line, and the end of a retard (O29). -/

namespace Sys2Proof.Machine

/-! ## The line that a newly qualified band leaves -/

/-- A band qualifies at the sample that brings its count from one below Q to Q (R23, R24). -/
theorem qualifies_iff (b : Band) (l : Line) :
    qualifies b l = true ↔ l.candidate = some b ∧ l.agree = bandQ b - 1 := by
  have hq : 2 ≤ bandQ b := by cases b <;> decide
  unfold qualifies agreeCount
  by_cases hc : l.candidate = some b
  · simp only [hc, if_true, Bool.and_eq_true, beq_iff_eq, Bool.not_eq_true', beq_self_eq_true, Bool.true_and,
      decide_eq_false_iff_not, true_and]
    omega
  · simp only [hc, if_false, Bool.and_eq_true, beq_iff_eq, false_and, iff_false, not_and]
    omega

/-- The line measured, with the band that has qualified on it (R24). -/
def qualifiedLine (i : Fin 64) (code : BitVec 10) (b : Band) (s : State) : Line :=
  { measured s.config.lines[i] s.config.bandSets[s.config.lines[i].bandSet] code
      { s.lines[i] with lastCode := code } with qualified := some b }

/-- The line as the state machine leaves it at a band that has qualified (R26 to R28, R34). -/
def movedLine (i : Fin 64) (code : BitVec 10) (b : Band) (s : State) : Line :=
  lineMachine s.config.lines[i] s.config.system.flowRetard (groupOf s i).state s.regime.state b
    (qualifiedLine i code b s)

/-- The power group of the line starts verification at this band (R32). -/
def StartsVerification (s : State) (i : Fin 64) : Prop :=
  startsVerification s.config.lines[i] (groupOf s i).state s.regime.state s.lines[i] = true

section
variable {s : State} {i : Fin 64} {code : BitVec 10} {b : Band}

theorem codeStored_line (i : Fin 64) (code : BitVec 10) (s : State) :
    (codeStored i code s).lines[i] = { s.lines[i] with lastCode := code } := setLine_self s i _

/-- The state machine keeps the qualified band, the clear count and the unstable flag. -/
theorem movedLine_kept :
    (movedLine i code b s).qualified = some b ∧ (movedLine i code b s).clearCount = s.lines[i].clearCount ∧
      (movedLine i code b s).unstable = s.lines[i].unstable := by
  obtain ⟨st, rt, h⟩ := (lineMoved_lineMachine s.config.lines[i] s.config.system.flowRetard (groupOf s i).state
    s.regime.state b (qualifiedLine i code b s)).exists
  unfold movedLine
  rw [h]
  exact ⟨rfl, rfl, rfl⟩

/-- The sample at which a band qualifies makes it the new band (R24). -/
theorem newBand_of_qualifies (h : Qualifies s i code b) :
    newBand (sampleBand s.config.lines[i] s.config.bandSets[s.config.lines[i].bandSet] code
      { s.lines[i] with lastCode := code }) { s.lines[i] with lastCode := code } = some b := by
  obtain ⟨-, -, -, hband, hcand, hagree, hqual⟩ := h
  have hsample : sampleBand s.config.lines[i] s.config.bandSets[s.config.lines[i].bandSet] code
      { s.lines[i] with lastCode := code } = b := hband
  have hq : qualifies b { s.lines[i] with lastCode := code } = true := by
    rw [qualifies_iff, bandQ_eq]
    refine ⟨hcand, hagree.trans ?_⟩
    split <;> rfl
  rw [hsample]
  exact if_pos (by rw [hq, Bool.true_and]; exact bne_iff_ne.mpr hqual)

/-- A sample with a new band that starts no verification is an event of its line (R24, R26 to R28, R34). -/
theorem takeSample_of_newBand {w : State} {l : Line} (hl : w.lines[i] = l)
    (h : newBand (sampleBand w.config.lines[i] w.config.bandSets[w.config.lines[i].bandSet] code l) l = some b)
    (hv : ¬(b = .alarm ∧ startsVerification w.config.lines[i] (groupOf w i).state w.regime.state l = true)) :
    takeSample i code w =
      lineEvent i (lineMachine w.config.lines[i] w.config.system.flowRetard (groupOf w i).state w.regime.state b
        { measured w.config.lines[i] w.config.bandSets[w.config.lines[i].bandSet] code l with
          qualified := some b }) w := by
  unfold takeSample
  dsimp only
  rw [hl, h]
  exact if_neg hv

/-- A sample whose ALARM starts verification is an event of its line with the power group in RESET (R26, R32). -/
theorem takeSample_of_alarm {w : State} {l : Line} (hl : w.lines[i] = l)
    (h : newBand (sampleBand w.config.lines[i] w.config.bandSets[w.config.lines[i].bandSet] code l) l = some .alarm)
    (hv : startsVerification w.config.lines[i] (groupOf w i).state w.regime.state l = true) :
    takeSample i code w =
      lineEvent i (lineMachine w.config.lines[i] w.config.system.flowRetard (groupOf w i).state w.regime.state .alarm
        { measured w.config.lines[i] w.config.bandSets[w.config.lines[i].bandSet] code l with
          qualified := some .alarm }) (w.setPGroup w.config.lines[i].powerGroup groupReset) := by
  unfold takeSample
  dsimp only
  rw [hl, h]
  exact if_pos ⟨rfl, hv⟩

/-- A band that qualifies and starts no verification is an event of its line (R26 to R28, R34). -/
theorem zoneSlot_qualifies (h : Qualifies s i code b) (hv : ¬ (b = .alarm ∧ StartsVerification s i)) :
    exec (.zoneLineSlotCompletion i code) s =
      .next (lineEvent i (movedLine i code b s) (codeStored i code s)) := by
  obtain ⟨hl, hn, hs, -⟩ := id h
  rw [zoneSlot_sampled code hl hn hs]
  have hnew := newBand_of_qualifies h
  have hevent := takeSample_of_newBand (codeStored_line i code s) hnew hv
  rw [hevent]
  rfl

/-- The state with a code stored and the line's power group in RESET, its loop power off (R32). -/
def verificationBegun (i : Fin 64) (code : BitVec 10) (s : State) : State :=
  (codeStored i code s).setPGroup s.config.lines[i].powerGroup groupReset

/-- An ALARM that starts verification is an event of its line with the power group in RESET (R26, R32). -/
theorem zoneSlot_starts_verification (h : Qualifies s i code .alarm) (hv : StartsVerification s i) :
    exec (.zoneLineSlotCompletion i code) s =
      .next (lineEvent i (movedLine i code .alarm s) (verificationBegun i code s)) := by
  obtain ⟨hl, hn, hs, -⟩ := id h
  rw [zoneSlot_sampled code hl hn hs]
  have hnew := newBand_of_qualifies h
  have hevent := takeSample_of_alarm (codeStored_line i code s) hnew hv
  rw [hevent]
  rfl

/-! ## The event of the line, seen from the state before the completion -/

theorem lineEvent_line_self (i : Fin 64) (l' : Line) (w : State) : (lineEvent i l' w).lines[i] = l' := by
  rw [lineEvent_lines, getElem_set_fin, if_pos rfl]

/-- The stored code tells nothing of whether the line is an accepted fire alarm. -/
theorem codeStored_fireActive :
    fireActive s.config.lines[i] (codeStored i code s).lines[i] = fireActive s.config.lines[i] s.lines[i] := by
  rw [codeStored_line]
  rfl

theorem codeStored_other_line {j : Fin 64} (hj : j ≠ i) : (codeStored i code s).lines[j] = s.lines[j] :=
  setLine_other s i _ j hj

variable {l' : Line}

theorem lineWide_slot (h : fireActive s.config.lines[i] l' = fireActive s.config.lines[i] s.lines[i]) :
    LineWide i s (lineEvent i l' (codeStored i code s)) := by
  have hsame : fireActive s.config.lines[i] l' = fireActive s.config.lines[i] (codeStored i code s).lines[i] := by
    rw [codeStored_fireActive, h]
  obtain ⟨hframe, hlines, hregime, hfloors, hquiet⟩ : LineWide i (codeStored i code s) _ :=
    lineWide_lineEvent (s := codeStored i code s) (l' := l') hsame
  refine ⟨hframe, fun j hj => (hlines j hj).trans (codeStored_other_line hj), hregime, hfloors, ?_⟩
  exact QuietPorts.trans (quiet_of_ports rfl) hquiet

theorem fireEntry_slot (h0 : s.load = none) (h' : fireActive s.config.lines[i] l' = true)
    (h : fireActive s.config.lines[i] s.lines[i] = false) :
    FireEntry i s (lineEvent i l' (codeStored i code s)) := by
  have hbefore : fireActive s.config.lines[i] (codeStored i code s).lines[i] = false := by
    rw [codeStored_fireActive, h]
  obtain ⟨hlines, hcount, halarm, hwide, hregime⟩ : FireEntry i (codeStored i code s) _ :=
    fireEntry_lineEvent (s := codeStored i code s) (l' := l') h0 h' hbefore
  have hheld : FirstAlarmIsHeld i (codeStored i code s) ↔ FirstAlarmIsHeld i s :=
    firstAlarmIsHeld_congr rfl fun j hj => codeStored_other_line hj
  refine ⟨fun j hj => (hlines j hj).trans (codeStored_other_line hj), hcount, halarm, hwide, ?_⟩
  rw [hheld] at hregime
  exact hregime

theorem raised_trouble_slot (h0 : s.load = none)
    (h : lineTroubleChange s.config.lines[i] s.lines[i] l' = true) :
    Raised .trouble s (lineEvent i l' (codeStored i code s)) := by
  refine raised_trouble_lineEvent (s := codeStored i code s) h0 ?_
  rw [codeStored_line]
  exact h

end

/-! ## The line state machine at a newly qualified band -/

/-- A line is NORMAL or in one of its two trouble states. -/
def AtRest (l : Line) : Prop := l.state = .normal ∨ l.state = .troubleOpen ∨ l.state = .troubleShort

/-- The state of a line at rest whose band is none of ALARM (R26, R27). -/
def restState : Band → LineState
  | .openLoop => .troubleOpen
  | .short => .troubleShort
  | _ => .normal

theorem restState_ne_active (b : Band) : restState b ≠ .active := by
  cases b <;> exact nofun

theorem AtRest.ne_active {l : Line} (h : AtRest l) : l.state ≠ .active := by
  obtain h | h | h := h <;> rw [h] <;> exact nofun

theorem startsVerification_iff (s : State) (i : Fin 64) :
    StartsVerification s i ↔
      s.config.lines[i].kind = .smoke ∧ s.config.lines[i].verification = true ∧
        s.config.lines[i].mode = .supervised ∧ (groupOf s i).state = .idle ∧ s.regime.state ≠ .active ∧
        AtRest s.lines[i] := by
  simp only [StartsVerification, startsVerification, AtRest, Bool.and_eq_true, Bool.or_eq_true, beq_iff_eq,
    bne_iff_ne, and_assoc, or_assoc]

section
variable {c : LineCfg} {n : Nat} {g : PGroupState} {r : RegimeState} {l : Line}

theorem lineMachine_of_atRest (h : AtRest l) (b : Band) : lineMachine c n g r b l = onBand c n g r b l := by
  obtain h | h | h := h <;> simp only [lineMachine, h]

/-- Outside verification a line goes to ACTIVE at ALARM, but a FLOW line whose retard is to run (R26, R29, R34). -/
theorem onAlarm_active (hv : startsVerification c g r l = false)
    (h : c.kind ≠ .flow ∨ n = 0 ∨ (c.mode = .supervised ∧ g = .window)) : onAlarm c n g r l = toActive l := by
  unfold onAlarm
  rw [hv]
  simp only [Bool.false_eq_true, if_false]
  split
  · next hflow =>
    obtain h | h | h := h
    · exact absurd hflow.1 h
    · rw [if_pos h]
    · exact absurd h hflow.2
  · rfl

/-- The retard of a FLOW line starts at ALARM (R26, R29). -/
theorem onAlarm_retard (hk : c.kind = .flow) (hn : 0 < n) (hg : ¬(c.mode = .supervised ∧ g = .window)) :
    onAlarm c n g r l = { l with state := .normal, retard := some (1000 * n) } := by
  have hv : startsVerification c g r l = false := by simp [startsVerification, hk]
  have hpos : n ≠ 0 := Nat.ne_of_gt hn
  simp only [onAlarm, hv, Bool.false_eq_true, if_false, hk, true_and, hg, not_false_iff, if_true, hpos, seconds_eq]

/-- A band other than ALARM moves a line at rest to its own state and stops a retard (R26, R27, R30). -/
theorem onBand_of_ne_alarm {b : Band} (hb : b ≠ .alarm) : onBand c n g r b l = toState (restState b) l := by
  cases b with
  | alarm => exact absurd rfl hb
  | normal | openLoop | short => rfl

/-- A line in ACTIVE that is latched, or whose band is not NORMAL, stays (R28). -/
theorem lineMachine_active_stays {b : Band} (hs : l.state = .active)
    (h : LineKind.fire c.kind = true ∨ b ≠ .normal) : lineMachine c n g r b l = l := by
  simp only [lineMachine, hs, onActive, LineKind.latched]
  refine if_neg fun hc => ?_
  simp only [Bool.and_eq_true, Bool.not_eq_true', beq_iff_eq] at hc
  exact h.elim (fun hf => Bool.false_ne_true (hc.1.symm.trans hf)) (· hc.2)

/-- A line in ACTIVE that is not latched returns to NORMAL with its band (R28). -/
theorem lineMachine_active_returns (hs : l.state = .active) (h : LineKind.fire c.kind = false) :
    lineMachine c n g r .normal l = toState .normal l := by
  simp only [lineMachine, hs, onActive, LineKind.latched, h]
  rfl

end

section
variable {s : State} {i : Fin 64} {code : BitVec 10} {b : Band}

/-- Only ALARM starts verification, and only of a verified SMOKE line outside ACTIVE (R26, R32). -/
theorem not_startsVerification
    (h : s.config.lines[i].verification = false ∨ s.config.lines[i].kind ≠ .smoke ∨
      s.config.lines[i].mode ≠ .supervised ∨ s.regime.state = .active) : ¬ StartsVerification s i := by
  rw [startsVerification_iff]
  rintro ⟨hk, hv, hm, -, hr, -⟩
  obtain h | h | h | h := h
  · exact Bool.false_ne_true (h.symm.trans hv)
  · exact h hk
  · exact h hm
  · exact hr h

theorem movedLine_of_atRest (h : AtRest s.lines[i]) (b : Band) :
    movedLine i code b s =
      onBand s.config.lines[i] s.config.system.flowRetard (groupOf s i).state s.regime.state b
        (qualifiedLine i code b s) :=
  lineMachine_of_atRest (l := qualifiedLine i code b s) h b

/-- An accepted fire alarm at the completion of the line's slot, from a line that is not ACTIVE. -/
theorem zoneSlot_fireEntry (h : Qualifies s i code .alarm) (hs : s.lines[i].state ≠ .active)
    (hf : LineKind.fire s.config.lines[i].kind = true)
    (hm : movedLine i code .alarm s = toActive (qualifiedLine i code .alarm s)) :
    FireEntry i s (lineEvent i (movedLine i code .alarm s) (codeStored i code s)) := by
  rw [hm]
  exact fireEntry_slot h.1 ((fireActive_iff _ _).mpr ⟨hf, rfl⟩) (fireActive_eq_false_of_state _ hs)

/-- A move into or out of a trouble state at the completion of the line's slot raises TROUBLE (R21, R27; log entry
18). -/
theorem zoneSlot_raises_trouble (h0 : s.load = none) (hne : (movedLine i code b s).state ≠ s.lines[i].state)
    (ht : s.lines[i].state = .troubleOpen ∨ s.lines[i].state = .troubleShort ∨
      (movedLine i code b s).state = .troubleOpen ∨ (movedLine i code b s).state = .troubleShort) :
    Raised .trouble s (lineEvent i (movedLine i code b s) (codeStored i code s)) :=
  raised_trouble_slot h0 (lineTroubleChange_of_trouble_state _ hne ht)

/-! ## The cases of O29 -/

/-- A fire line at rest goes to ACTIVE at ALARM (R26, R49). -/
theorem alarm_of_fire_line (h : Qualifies s i code .alarm) (hr : AtRest s.lines[i])
    (hf : LineKind.fire s.config.lines[i].kind = true)
    (hk : s.config.lines[i].kind ≠ .flow ∨ s.config.system.flowRetard = 0)
    (hv : ¬ StartsVerification s i) :
    ∃ t : State, exec (.zoneLineSlotCompletion i code) s = .next t ∧
      t.lines[i].state = .active ∧ t.lines[i].qualified = some .alarm ∧ FireEntry i s t ∧
      (s.lines[i].state ≠ .normal → Raised .trouble s t) := by
  have hm : movedLine i code .alarm s = toActive (qualifiedLine i code .alarm s) :=
    (movedLine_of_atRest hr _).trans (onAlarm_active (Bool.eq_false_iff.mpr hv) (hk.imp_right .inl))
  have hstate : (movedLine i code .alarm s).state = .active := by rw [hm]; rfl
  refine ⟨_, zoneSlot_qualifies h (hv ·.2), ?_, ?_, zoneSlot_fireEntry h hr.ne_active hf hm, fun hn => ?_⟩
  · rw [lineEvent_line_self, hstate]
  · rw [lineEvent_line_self, movedLine_kept.1]
  · refine zoneSlot_raises_trouble h.1 (by rw [hstate]; exact hr.ne_active.symm) ?_
    exact (hr.resolve_left hn).imp_right .inl

/-- A FLOW line at rest starts its retard at ALARM (R26, R29). -/
theorem alarm_of_flow_line (h : Qualifies s i code .alarm) (hr : AtRest s.lines[i])
    (hk : s.config.lines[i].kind = .flow) (hn : 0 < s.config.system.flowRetard)
    (hg : ¬(s.config.lines[i].mode = .supervised ∧ (groupOf s i).state = .window)) :
    ∃ t : State, exec (.zoneLineSlotCompletion i code) s = .next t ∧
      t.lines[i].state = .normal ∧ t.lines[i].qualified = some .alarm ∧
      t.lines[i].retard = some (1000 * s.config.system.flowRetard) ∧
      (s.lines[i].state ≠ .normal → Raised .trouble s t) ∧ LineWide i s t := by
  have hv : ¬ StartsVerification s i := not_startsVerification (.inr (.inl (by rw [hk]; exact nofun)))
  have hm : movedLine i code .alarm s = { qualifiedLine i code .alarm s with
      state := .normal, retard := some (1000 * s.config.system.flowRetard) } :=
    (movedLine_of_atRest hr _).trans (onAlarm_retard hk hn hg)
  have hstate : (movedLine i code .alarm s).state = .normal := by rw [hm]
  refine ⟨_, zoneSlot_qualifies h (hv ·.2), ?_, ?_, ?_, fun hne => ?_, lineWide_slot ?_⟩
  · rw [lineEvent_line_self, hstate]
  · rw [lineEvent_line_self, movedLine_kept.1]
  · rw [lineEvent_line_self, hm]
  · refine zoneSlot_raises_trouble h.1 (by rw [hstate]; exact hne.symm) ?_
    exact (hr.resolve_left hne).imp_right .inl
  · rw [fireActive_eq_false_of_state _ hr.ne_active, fireActive_eq_false_of_state]
    rw [hstate]; exact nofun

/-- A line at rest goes to the state of a band other than ALARM (R26, R27, R30). -/
theorem band_of_line_at_rest (hb : b ≠ .alarm) (h : Qualifies s i code b) (hr : AtRest s.lines[i]) :
    ∃ t : State, exec (.zoneLineSlotCompletion i code) s = .next t ∧
      t.lines[i].qualified = some b ∧ t.lines[i].retard = none ∧ t.lines[i].state = restState b ∧
      (t.lines[i].state ≠ s.lines[i].state → Raised .trouble s t) ∧ LineWide i s t := by
  have hm : movedLine i code b s = toState (restState b) (qualifiedLine i code b s) :=
    (movedLine_of_atRest hr b).trans (onBand_of_ne_alarm hb)
  have hstate : (movedLine i code b s).state = restState b := by rw [hm]; rfl
  refine ⟨_, zoneSlot_qualifies h (hb ·.1), ?_, ?_, ?_, fun hne => ?_, lineWide_slot ?_⟩
  · rw [lineEvent_line_self, movedLine_kept.1]
  · rw [lineEvent_line_self, hm]; rfl
  · rw [lineEvent_line_self, hstate]
  · rw [lineEvent_line_self] at hne
    refine zoneSlot_raises_trouble h.1 hne ?_
    rw [hstate] at hne ⊢
    obtain hs | hs | hs := hr
    · rw [hs] at hne
      cases b with
      | alarm => exact absurd rfl hb
      | normal => exact absurd rfl hne
      | openLoop => exact .inr (.inr (.inl rfl))
      | short => exact .inr (.inr (.inr rfl))
    · exact .inl hs
    · exact .inr (.inl hs)
  · rw [fireActive_eq_false_of_state _ hr.ne_active, fireActive_eq_false_of_state]
    rw [hstate]; exact restState_ne_active b

/-- A line that stays in ACTIVE shows its new band and nothing else of the part changes (R28). -/
theorem band_of_active_line (h : Qualifies s i code b) (hs : s.lines[i].state = .active)
    (hb : LineKind.fire s.config.lines[i].kind = true ∨ b ≠ .normal) :
    ∃ t : State, exec (.zoneLineSlotCompletion i code) s = .next t ∧
      t.lines[i].state = .active ∧ t.lines[i].qualified = some b ∧
      (∀ j : Fin 64, j ≠ i → t.lines[j] = s.lines[j]) ∧
      t = { s with scanSlot := t.scanSlot, lines := t.lines } := by
  have hm : movedLine i code b s = qualifiedLine i code b s :=
    lineMachine_active_stays (l := qualifiedLine i code b s) hs hb
  have hv : ¬ StartsVerification s i := fun hv => by
    obtain ⟨-, -, -, -, -, hr⟩ := (startsVerification_iff s i).mp hv
    exact hr.ne_active hs
  have hstate : (movedLine i code b s).state = (codeStored i code s).lines[i].state := by
    rw [hm, codeStored_line]; rfl
  have hunstable : (movedLine i code b s).unstable = (codeStored i code s).lines[i].unstable := by
    rw [hm, codeStored_line]; rfl
  have hevent : lineEvent i (movedLine i code b s) (codeStored i code s) =
      (codeStored i code s).setLine i (movedLine i code b s) :=
    (lineEvent_of_fire_same (fireActive_congr _ hstate)).trans (changeLine_of_same hstate hunstable)
  refine ⟨_, zoneSlot_qualifies h (hv ·.2), ?_⟩
  rw [hevent, setLine_self, hm]
  exact ⟨hs, rfl, fun j hj => (setLine_other _ i _ j hj).trans (codeStored_other_line hj), rfl⟩

/-- A panel trouble or door position line follows its band, between NORMAL and ACTIVE (R26, R28). -/
theorem band_of_plain_line (h : Qualifies s i code b)
    (hk : s.config.lines[i].kind = .panelTrouble ∨ s.config.lines[i].kind = .doorPosition)
    (hs : s.lines[i].state = .active ∧ b = .normal ∨ s.lines[i].state = .normal ∧ b = .alarm) :
    ∃ t : State, exec (.zoneLineSlotCompletion i code) s = .next t ∧
      t.lines[i].state = (if b = .normal then .normal else .active) ∧ t.lines[i].qualified = some b ∧
      (s.config.lines[i].kind = .panelTrouble → s.lines[i].unstable = false → Raised .trouble s t) ∧
      LineWide i s t := by
  have hv : ¬ StartsVerification s i :=
    not_startsVerification (.inr (.inl (by obtain hk | hk := hk <;> rw [hk] <;> exact nofun)))
  have hf : LineKind.fire s.config.lines[i].kind = false := by obtain hk | hk := hk <;> rw [hk] <;> rfl
  have hflow : s.config.lines[i].kind ≠ .flow := by obtain hk | hk := hk <;> rw [hk] <;> exact nofun
  have hstate : (movedLine i code b s).state = if b = .normal then .normal else .active := by
    obtain ⟨hs, rfl⟩ | ⟨hs, rfl⟩ := hs
    · have hm : movedLine i code .normal s = toState .normal (qualifiedLine i code .normal s) :=
        lineMachine_active_returns (l := qualifiedLine i code .normal s) hs hf
      rw [hm]; rfl
    · have hm : movedLine i code .alarm s = toActive (qualifiedLine i code .alarm s) :=
        (movedLine_of_atRest (.inl hs) _).trans (onAlarm_active (Bool.eq_false_iff.mpr hv) (.inl hflow))
      rw [hm]; rfl
  refine ⟨_, zoneSlot_qualifies h (hv ·.2), ?_, ?_, fun hp hu => raised_trouble_slot h.1 ?_, lineWide_slot ?_⟩
  · rw [lineEvent_line_self, hstate]
  · rw [lineEvent_line_self, movedLine_kept.1]
  · have hu' : (movedLine i code b s).unstable = false := by rw [movedLine_kept.2.2, hu]
    simp only [lineTroubleChange, lineInTrouble, hstate, hu, hu', hp]
    obtain ⟨hs, rfl⟩ | ⟨hs, rfl⟩ := hs <;> rw [hs] <;> decide
  · simp only [fireActive, hf, Bool.false_and]

/-! ## The end of a retard -/

/-- An alarm that may not be held leaves the regime in ACTIVE (R49, R51, R53, R54). -/
theorem fireLine_state_active {w : State} (h : ¬ FirstAlarmIsHeld i w) : (fireLine i w).regime.state = .active := by
  cases hs : w.regime.state with
  | quiet => rw [fireLine_quiet_not_held hs h]; rfl
  | holdAck => rw [fireLine_hold (.inl hs)]; rfl
  | holdInvestigate => rw [fireLine_hold (.inr hs)]; rfl
  | active => rw [fireLine_active hs]; exact hs

/-- A FLOW line whose retard has run out goes to ACTIVE, and so does the regime (R29). -/
theorem retard_ends (h0 : s.load = none) (hd : s.lines[i].retard = some 0) (hk : s.config.lines[i].kind = .flow)
    (hs : s.lines[i].state = .normal) :
    ∃ t : State, exec (.retardExpiry i) s = .next t ∧
      t.lines[i] = { s.lines[i] with state := .active, retard := none } ∧ FireEntry i s t ∧
      t.regime.state = .active ∧ t.scanSlot = s.scanSlot := by
  have hafter : fireActive s.config.lines[i] (toActive s.lines[i]) = true :=
    (fireActive_iff _ _).mpr ⟨by rw [hk]; rfl, rfl⟩
  have hbefore : fireActive s.config.lines[i] s.lines[i] = false :=
    fireActive_eq_false_of_state _ (by rw [hs]; exact nofun)
  have hheld : ¬ FirstAlarmIsHeld i (changeLine i (toActive s.lines[i]) s) := by
    rw [firstAlarmIsHeld_changeLine]
    rintro ⟨-, h | h, -⟩ <;> rw [hk] at h <;> exact nomatch h
  refine ⟨lineEvent i (toActive s.lines[i]) s, congrArg _ (if_pos ((timerDue_iff _).mpr hd)),
    lineEvent_line_self i _ s, fireEntry_lineEvent h0 hafter hbefore, ?_, by simp⟩
  rw [lineEvent_of_rise hafter hbefore, settle_regime]
  exact fireLine_state_active hheld

end

/-- Settles O29: a line at rest by its band and its kind, a line in ACTIVE by its kind, and a retard by its timer. -/
theorem fireLineEntersActive : Obligations.FireLineEntersActive := by
  refine ⟨fun s i c h hr hf hk hv => alarm_of_fire_line h hr hf hk (not_startsVerification hv),
    fun s i c h hr hk hn hg => alarm_of_flow_line h hr hk hn hg, fun s i c b hb h hr => ?_,
    fun s i c b h hs hb => band_of_active_line h hs hb, fun s i c b h hk hs => band_of_plain_line h hk hs,
    fun s i h => congrArg _ (if_neg (mt (timerDue_iff _).mp h)), fun s i h0 hd hk hs => retard_ends h0 hd hk hs⟩
  obtain ⟨t, ht, hqual, hretard, hstate, hrest⟩ := band_of_line_at_rest hb h hr
  refine ⟨t, ht, hqual, hretard, hstate.trans ?_, hrest⟩
  cases b <;> rfl


end Sys2Proof.Machine
end

section
/-! SUPPORT. The stages of alarm verification (O30). -/

namespace Sys2Proof.Machine

/-! ## The start of verification (R26, R32) -/

section
variable {s : State} {i : Fin 64} {code : BitVec 10}

/-- A line whose ALARM starts verification goes to VERIFYING (R26). -/
theorem movedLine_of_startsVerification (hv : StartsVerification s i) :
    movedLine i code .alarm s = toState .verifying (qualifiedLine i code .alarm s) := by
  obtain ⟨-, -, -, -, -, hr⟩ := (startsVerification_iff s i).mp hv
  refine (movedLine_of_atRest hr .alarm).trans (if_pos ?_)
  exact hv

/-- The verification of a line's power group starts with the line's ALARM; the regime waits (R26, R32). -/
theorem verification_starts (h : Qualifies s i code .alarm) (hv : StartsVerification s i) :
    ∃ t : State, exec (.zoneLineSlotCompletion i code) s = .next t ∧ t.lines[i].state = .verifying ∧
      t.pgroups = s.pgroups.set s.config.lines[i].powerGroup ⟨.reset, some 4000⟩ ∧
      t.regime.state = s.regime.state ∧
      (∀ f : Fin 48, t.floors[f].alarmCount = s.floors[f].alarmCount) ∧ Raised .alarm s t ∧
      (s.lines[i].state ≠ .normal → Raised .trouble s t) := by
  obtain ⟨-, -, -, -, -, hr⟩ := (startsVerification_iff s i).mp hv
  have hstate : (movedLine i code .alarm s).state = .verifying := by
    rw [movedLine_of_startsVerification hv]; rfl
  have hline : (verificationBegun i code s).lines[i] = { s.lines[i] with lastCode := code } :=
    codeStored_line i code s
  have hbefore : fireActive s.config.lines[i] (verificationBegun i code s).lines[i] = false := by
    rw [hline]; exact fireActive_eq_false_of_state _ hr.ne_active
  have hafter : fireActive s.config.lines[i] (movedLine i code .alarm s) = false :=
    fireActive_eq_false_of_state _ (by rw [hstate]; exact nofun)
  obtain ⟨-, -, hregime, hfloors, -⟩ : LineWide i (verificationBegun i code s) _ :=
    lineWide_lineEvent (s := verificationBegun i code s) (l' := movedLine i code .alarm s)
      (hafter.trans hbefore.symm)
  have hne : (movedLine i code .alarm s).state ≠ s.lines[i].state := by
    rw [hstate]
    obtain hs | hs | hs := hr <;> rw [hs] <;> exact nofun
  have hpgroups : (lineEvent i (movedLine i code .alarm s) (verificationBegun i code s)).pgroups =
      s.pgroups.set s.config.lines[i].powerGroup groupReset := by
    simp [verificationBegun, codeStored]
  refine ⟨_, zoneSlot_starts_verification h hv, ?_, hpgroups, ?_, fun f => ?_, ?_, fun hn => ?_⟩
  · rw [lineEvent_line_self, hstate]
  · rw [hregime]; rfl
  · rw [hfloors]; rfl
  · refine raised_alarm_lineEvent (s := verificationBegun i code s) h.1 ?_
    rw [hline]
    exact alarmChange_of_verifying _ hstate hne
  · refine raised_trouble_lineEvent (s := verificationBegun i code s) h.1 ?_
    rw [hline]
    exact lineTroubleChange_of_trouble_state _ hne ((hr.resolve_left hn).imp_right .inl)

/-! ## A band that qualifies in the window (R34) -/

/-- An event of one line that reaches no other unit is one that keeps what an entry into ACTIVE keeps. -/
theorem LineWide.fireWide {t : State} (h : LineWide i s t) : FireWide s t := by
  obtain ⟨hframe, -, hregime, hfloors, -⟩ := h
  have hcars : t.cars = s.cars := by rw [hframe]
  have hdoors : t.doors = s.doors := by rw [hframe]
  have hlgroups : t.lgroups = s.lgroups := by rw [hframe]
  have hdgroups : t.dgroups = s.dgroups := by rw [hframe]
  have hresecure : t.resecure = s.resecure := by rw [hframe]
  have hstate : t.regime.state = s.regime.state := by rw [hregime]
  have hstatus : ∀ f : Fin 48, t.floors[f].status = s.floors[f].status := fun f => by rw [hfloors]
  refine ⟨?_, ⟨fun c => ?_, fun c => ?_, fun _ hf => ?_, fun _ hg => ?_, fun _ hg => ?_⟩, fun g => ?_, fun g => ?_⟩
  · rw [hframe]
  · rw [hcars]
  · rw [hdoors]
  · obtain ⟨f, hf⟩ := hf
    exact absurd (hstatus f) hf
  · simp [hlgroups, hcars] at hg
  · simp [hdgroups, hresecure, hdoors] at hg
  · rw [hdgroups, hstate, if_neg fun hc => hc.2.1 hc.1]
  · rw [hlgroups]

theorem not_startsVerification_of_window (hg : (groupOf s i).state = .window) : ¬ StartsVerification s i := by
  rw [startsVerification_iff, hg]
  exact nofun

/-- A member that qualifies ALARM in the window goes to ACTIVE, whatever its kind (R34). -/
theorem movedLine_of_window (hm : s.config.lines[i].mode = .supervised) (hg : (groupOf s i).state = .window)
    (hs : AtRest s.lines[i] ∨ s.lines[i].state = .verifying) :
    movedLine i code .alarm s = toActive (qualifiedLine i code .alarm s) := by
  obtain hr | hv := hs
  · exact (movedLine_of_atRest hr .alarm).trans
      (onAlarm_active (Bool.eq_false_iff.mpr (not_startsVerification_of_window hg)) (.inr (.inr ⟨hm, hg⟩)))
  · have hq : (qualifiedLine i code .alarm s).state = .verifying := hv
    simp only [movedLine, lineMachine, hq, onVerifying]

theorem alarm_in_window (h : Qualifies s i code .alarm) (hm : s.config.lines[i].mode = .supervised)
    (hg : (groupOf s i).state = .window) (hs : AtRest s.lines[i] ∨ s.lines[i].state = .verifying) :
    ∃ t : State, exec (.zoneLineSlotCompletion i code) s = .next t ∧ t.lines[i].state = .active ∧
      t.lines[i].qualified = some .alarm ∧ t.lines[i].retard = none ∧ FireWide s t ∧
      (∀ j : Fin 64, j ≠ i → t.lines[j] = s.lines[j]) ∧
      (LineKind.fire s.config.lines[i].kind = true → FireEntry i s t) ∧
      (LineKind.fire s.config.lines[i].kind = false → LineWide i s t) := by
  have hmoved := movedLine_of_window (code := code) hm hg hs
  have hne : s.lines[i].state ≠ .active := hs.elim (·.ne_active) fun hv => by rw [hv]; exact nofun
  have hentry (hf : LineKind.fire s.config.lines[i].kind = true) := zoneSlot_fireEntry h hne hf hmoved
  have hwide (hf : LineKind.fire s.config.lines[i].kind = false) :
      LineWide i s (lineEvent i (movedLine i code .alarm s) (codeStored i code s)) :=
    lineWide_slot (by simp only [fireActive, hf, Bool.false_and])
  refine ⟨_, zoneSlot_qualifies h fun hv => not_startsVerification_of_window hg hv.2, ?_, ?_, ?_, ?_, fun j hj => ?_,
    hentry, hwide⟩
  · rw [lineEvent_line_self, hmoved]; rfl
  · rw [lineEvent_line_self, movedLine_kept.1]
  · rw [lineEvent_line_self, hmoved]; rfl
  · cases hf : LineKind.fire s.config.lines[i].kind with
    | true =>
      obtain ⟨-, -, -, hfire, -⟩ := hentry hf
      exact hfire
    | false => exact (hwide hf).fireWide
  · rw [lineEvent_lines, getElem_set_fin, if_neg hj, codeStored_other_line hj]

/-- The state of a VERIFYING member whose band is none of ALARM (R34). -/
def verifyingState : Band → LineState
  | .openLoop => .troubleOpen
  | .short => .troubleShort
  | _ => .verifying

/-- A VERIFYING member goes to a trouble state with its band, and a NORMAL band leaves it VERIFYING (R34). -/
theorem band_of_verifying_line {b : Band} (hb : b ≠ .alarm) (h : Qualifies s i code b)
    (hg : (groupOf s i).state = .window) (hs : s.lines[i].state = .verifying) :
    ∃ t : State, exec (.zoneLineSlotCompletion i code) s = .next t ∧ t.lines[i].state = verifyingState b ∧
      t.lines[i].qualified = some b ∧ t.lines[i].clearCount = s.lines[i].clearCount ∧
      (b ≠ .normal → Raised .trouble s t) ∧ LineWide i s t := by
  have hq : (qualifiedLine i code b s).state = .verifying := hs
  have hstate : (movedLine i code b s).state = verifyingState b := by
    simp only [movedLine, lineMachine, hq]
    cases b with
    | alarm => exact absurd rfl hb
    | normal => exact hs
    | openLoop | short => rfl
  obtain ⟨hqual, hclear, -⟩ := movedLine_kept (i := i) (code := code) (b := b) (s := s)
  refine ⟨_, zoneSlot_qualifies h fun hv => not_startsVerification_of_window hg hv.2, ?_, ?_, ?_, fun hn => ?_,
    lineWide_slot ?_⟩
  · rw [lineEvent_line_self, hstate]
  · rw [lineEvent_line_self, hqual]
  · rw [lineEvent_line_self, hclear]
  · refine zoneSlot_raises_trouble h.1 ?_ ?_ <;> rw [hstate]
    · rw [hs]
      cases b with
      | alarm => exact absurd rfl hb
      | normal => exact absurd rfl hn
      | openLoop | short => exact nofun
    · cases b with
      | alarm => exact absurd rfl hb
      | normal => exact absurd rfl hn
      | openLoop => exact .inr (.inr (.inl rfl))
      | short => exact .inr (.inr (.inr rfl))
  · have hne : s.lines[i].state ≠ .active := by rw [hs]; exact nofun
    rw [fireActive_eq_false_of_state _ hne, fireActive_eq_false_of_state]
    rw [hstate]
    cases b <;> exact nofun

end

/-! ## The stages of a power group (R33 to R36) -/

/-- A fold over distinct lines that replaces each of them by what its record makes of it. -/
theorem foldl_lines {f : State → Fin 64 → State} {new : WorkConfig → Fin 64 → Line → Line}
    (hset : ∀ s i, (f s i).lines = s.lines.set i (new s.config i s.lines[i]))
    (hconfig : ∀ s i, (f s i).config = s.config) :
    ∀ (l : List (Fin 64)), l.Nodup → ∀ (s : State) (j : Fin 64),
      (l.foldl f s).lines[j] = if j ∈ l then new s.config j s.lines[j] else s.lines[j]
  | [], _, s, j => by simp
  | a :: l, hl, s, j => by
    obtain ⟨ha, hl⟩ := List.nodup_cons.mp hl
    rw [List.foldl_cons, foldl_lines hset hconfig l hl (f s a) j, hset, hconfig, getElem_set_fin]
    by_cases hj : j = a
    · subst hj
      simp [ha]
    · simp [hj]

/-- The same over every line of the part. -/
theorem foldl_every_line {f : State → Fin 64 → State} {new : WorkConfig → Fin 64 → Line → Line}
    (hset : ∀ s i, (f s i).lines = s.lines.set i (new s.config i s.lines[i]))
    (hconfig : ∀ s i, (f s i).config = s.config) (s : State) (j : Fin 64) :
    ((List.finRange 64).foldl f s).lines[j] = new s.config j s.lines[j] := by
  rw [foldl_lines hset hconfig _ (List.nodup_finRange 64), if_pos (List.mem_finRange j)]

/-- A line at the window expiry of a group: a VERIFYING member has its clear counted (R36). -/
def windowedLine (g : Fin 8) (k : WorkConfig) (i : Fin 64) (l : Line) : Line :=
  if k.lines[i].mode = .supervised ∧ k.lines[i].powerGroup = g ∧ l.state = .verifying then
    clearedLine k.system.clearLimit l
  else l

theorem groupMember_iff (s : State) (g : Fin 8) (i : Fin 64) :
    groupMember s g i = true ↔ s.config.lines[i].mode = .supervised ∧ s.config.lines[i].powerGroup = g := by
  simp only [groupMember, Bool.and_eq_true, beq_iff_eq]

theorem windowLine_member_iff (s : State) (g : Fin 8) (i : Fin 64) :
    (groupMember s g i && s.lines[i].state == .verifying) = true ↔
      s.config.lines[i].mode = .supervised ∧ s.config.lines[i].powerGroup = g ∧ s.lines[i].state = .verifying := by
  rw [Bool.and_eq_true, groupMember_iff, beq_iff_eq, and_assoc]

theorem windowLine_lines (g : Fin 8) (s : State) (i : Fin 64) :
    (windowLine g s i).lines = s.lines.set i (windowedLine g s.config i s.lines[i]) := by
  unfold windowLine windowedLine
  simp only [windowLine_member_iff]
  split
  · rw [changeLine_lines]
  · simp

/-- A VERIFYING line is no accepted fire alarm, and neither is the NORMAL one it becomes. -/
theorem troubleCounted_windowLine (g : Fin 8) (s : State) (i : Fin 64) : TroubleCounted s (windowLine g s i) := by
  unfold windowLine
  split
  · next h =>
    obtain ⟨-, -, hs⟩ := (windowLine_member_iff s g i).mp h
    have hne : s.lines[i].state ≠ .active := by rw [hs]; exact nofun
    refine troubleCounted_changeLine ?_
    rw [fireActive_eq_false_of_state _ hne]
    exact fireActive_eq_false_of_state _ nofun
  · exact .refl s

theorem troubleCounted_windowLines (g : Fin 8) (l : List (Fin 64)) (s : State) :
    TroubleCounted s (l.foldl (windowLine g) s) :=
  foldl_relates (R := TroubleCounted) .refl .trans (troubleCounted_windowLine g) l s

/-- The window ends with the clears of the group's VERIFYING members counted and the group in IDLE (R36). -/
theorem window_ends {s : State} {g : Fin 8} (hw : s.pgroups[g].state = .window) (hd : s.pgroups[g].timer = some 0) :
    ∃ t : State, exec (.windowExpiry g) s = .next t ∧
      TroubleCounted (s.setPGroup g groupIdle) t ∧
      ∀ i : Fin 64, t.lines[i] = windowedLine g s.config i s.lines[i] := by
  have hdue : s.pgroups[g].state = .window ∧ timerDue s.pgroups[g].timer = true := ⟨hw, (timerDue_iff _).mpr hd⟩
  have hexec : exec (.windowExpiry g) s = execWindowExpiry g s := rfl
  rw [hexec, execWindowExpiry, if_pos hdue]
  refine ⟨_, rfl, ?_, fun i => ?_⟩
  · exact troubleCounted_windowLines g _ _
  · exact foldl_every_line (windowLine_lines g) (fun s i => by simp) (s.setPGroup g groupIdle) i

/-- An expiry of a group's stage whose timer has not run out changes nothing (log entry 2). -/
theorem groupExpiry_early {s : State} {g : Fin 8} (h : s.pgroups[g].timer ≠ some 0) :
    exec (.resetExpiry g) s = .next s ∧ exec (.settleExpiry g) s = .next s ∧
      exec (.windowExpiry g) s = .next s := by
  have hd : ¬ timerDue s.pgroups[g].timer = true := mt (timerDue_iff _).mp h
  exact ⟨congrArg _ (if_neg (hd ·.2)), congrArg _ (if_neg (hd ·.2)), congrArg _ (if_neg (hd ·.2))⟩

theorem settleMember_eq (s : State) (g : Fin 8) (i : Fin 64) :
    settleMember s g i =
      if s.config.lines[i].mode = .supervised ∧ s.config.lines[i].powerGroup = g then
        emptyHistory (clearQualification s.lines[i])
      else s.lines[i] := by
  simp only [settleMember, groupMember_iff]

/-- The group goes to SETTLE and its members start afresh (R33). -/
theorem reset_ends {s : State} {g : Fin 8} (hr : s.pgroups[g].state = .reset) (hd : s.pgroups[g].timer = some 0) :
    exec (.resetExpiry g) s =
      .next { s.setPGroup g ⟨.settle, some 6000⟩ with lines := tabulate fun i => settleMember s g i } :=
  congrArg _ (if_pos ⟨hr, (timerDue_iff _).mpr hd⟩)

/-- Settles O30: the start by the line's own event, the window by the state machine, and each stage's end by its
timer. -/
theorem verificationRunsItsStages : Obligations.VerificationRunsItsStages := by
  refine ⟨fun s i c h hm hk hv hr hg ha => verification_starts h ((startsVerification_iff s i).mpr
      ⟨hk, hv, hm, hg, ha, hr⟩), fun s i c h hm hg hs => alarm_in_window h hm hg ?_,
    fun s i c b hb h hm hg hs => ?_, fun s g h => groupExpiry_early h, fun s g hr hd => ?_, fun s g hw hd => ?_,
    fun s g hw hd => ?_⟩
  · obtain hs | hs | hs | hs := hs
    · exact .inl (.inl hs)
    · exact .inr hs
    · exact .inl (.inr (.inl hs))
    · exact .inl (.inr (.inr hs))
  · obtain ⟨t, ht, hstate, hrest⟩ := band_of_verifying_line hb h hg hs
    refine ⟨t, ht, hstate.trans ?_, hrest⟩
    cases b <;> rfl
  · refine ⟨_, reset_ends hr hd, rfl, fun i => ?_⟩
    exact (getElem_tabulate _ _ _).trans (settleMember_eq s g i)
  · refine congrArg _ ((if_pos ⟨hw, (timerDue_iff _).mpr hd⟩).trans ?_)
    rw [seconds_eq]
    rfl
  · obtain ⟨t, ht, hcounted, hlines⟩ := window_ends hw hd
    exact ⟨t, ht, hcounted.frame, hcounted.regime, hcounted.floor, hcounted.quiet, hlines⟩


end Sys2Proof.Machine
end

section
/-! SUPPORT. A controlled command that its holder sends, refused or accepted by its own rule. -/

namespace Sys2Proof.Machine

/-- A byte below the number of items names the item of that number. -/
theorem argIndex_ofNat {n : Nat} (h : n ≤ 256) (i : Fin n) : argIndex n (BitVec.ofNat 8 i.val) = some i := by
  have hi : (BitVec.ofNat 8 i.val).toNat = i.val := by
    rw [BitVec.toNat_ofNat]
    exact Nat.mod_eq_of_lt (Nat.lt_of_lt_of_le i.isLt h)
  simp [argIndex, hi]

theorem argIndex_of_le {n : Nat} {b : Byte} (h : n ≤ b.toNat) : argIndex n b = none := by
  simp [argIndex, Nat.not_lt.mpr h]

section
variable {s u : State} {p : Fin 4} {i : Instr} {body : State → State × Result}

/-- Notices that join a port leave its context. -/
theorem NoticesJoined.contextKept {c d : Port} (h : NoticesJoined c d) : ContextKept c d := by
  rw [h.1]
  exact ⟨rfl, rfl, rfl, rfl, rfl, rfl, rfl, rfl, rfl, rfl⟩

theorem setResult_self (p : Fin 4) (r : Result) (u : State) :
    (setResult p r u).ports[p] = { u.ports[p] with lastResult := r } := setPort_self u p _

theorem setResult_other {p q : Fin 4} (r : Result) (u : State) (h : q ≠ p) :
    (setResult p r u).ports[q] = u.ports[q] := setPort_other u p _ q h

theorem setResult_pgroups (p : Fin 4) (r : Result) (u : State) : (setResult p r u).pgroups = u.pgroups := rfl

theorem setResult_notices (p : Fin 4) (r : Result) (u : State) (q : Fin 4) :
    (setResult p r u).ports[q].notices = u.ports[q].notices := by
  by_cases h : q = p
  · subst h; rw [setResult_self]
  · rw [setResult_other r u h]

/-- A kind that is raised stays so as the result is set. -/
theorem Raised.setResult {k : Notice} (h : Raised k s u) (p : Fin 4) (r : Result) :
    Raised k s (setResult p r u) := fun q hq => by
  rw [setResult_notices]
  exact h q hq

/-- What the ports show of an accepted command whose own rule only joins notices to them. -/
theorem accepted_setResult (hq : QuietPorts (opened p i s) u) : Accepted p s (setResult p .ok u) := by
  refine ⟨⟨by rw [setResult_self], ?_⟩, fun q hne => ?_⟩
  · have hopen : ContextKept s.ports[p] (opened p i s).ports[p] := by
      simpa [opened] using (openFrame_kept (Instr.bytes i) s.ports[p]).1
    have hbody := (hq p).contextKept
    rw [setResult_self]
    unfold ContextKept at hopen hbody ⊢
    grind
  · rw [setResult_other _ u hne, ← opened_other i s hne]
    exact hq q

/-- From the holder after the load a controlled command is judged by its own rule (R48). -/
theorem controlled_opened (h : InControl s p i) : controlled p body (opened p i s) = body (opened p i s) := by
  obtain ⟨⟨hl, -⟩, hp⟩ := h
  exact controlled_holder hl hp

theorem controlled_accepted (h : InControl s p i) (hb : body (opened p i s) = accept u) :
    command p (Instr.bytes i) (controlled p body) s = setResult p .ok u := by
  rw [command_heard h.1.2, controlled_opened h, hb]
  rfl

theorem controlled_refused {r : Result} (h : InControl s p i)
    (hb : body (opened p i s) = refuse r (opened p i s)) :
    RefusedAs p r s (command p (Instr.bytes i) (controlled p body) s) :=
  command_refused h.1.2 ((controlled_opened h).trans hb)

end

end Sys2Proof.Machine
end

section
/-! SUPPORT. ISOLATE LINE and RESTORE LINE (O31). -/

namespace Sys2Proof.Machine

/-- A line is not isolated while UNUSED, while ISOLATED, or in a latched ACTIVE (the table of R37). -/
theorem isolable_eq_false_iff (c : LineCfg) (l : Line) :
    isolable c l = false ↔
      l.state = .unused ∨ l.state = .isolated ∨ (l.state = .active ∧ LineKind.latched c.kind = true) := by
  unfold isolable
  cases l.state <;> simp

theorem freezes_iff (g : PGroupState) : freezes g = true ↔ g = .reset ∨ g = .settle := by
  cases g <;> simp [freezes]

/-- Isolation ends no accepted fire alarm: a latched ACTIVE line is not isolated (R37). -/
theorem isolated_fireActive {c : LineCfg} {l : Line} (h : isolable c l = true) :
    fireActive c (isolated l) = fireActive c l := by
  have hne : (isolated l).state ≠ .active := nofun
  rw [fireActive_eq_false_of_state c hne]
  refine (Bool.eq_false_iff.mpr fun hf => ?_).symm
  obtain ⟨hkind, hs⟩ := (fireActive_iff c l).mp hf
  exact Bool.false_ne_true (((isolable_eq_false_iff c l).mpr (.inr (.inr ⟨hs, hkind⟩))).symm.trans h)

/-- The power group of a VERIFYING line that is isolated returns to IDLE (R38). -/
def isolationGroups (i : Fin 64) (s : State) : State :=
  { s with
    pgroups :=
      if s.lines[i].state = .verifying then s.pgroups.set s.config.lines[i].powerGroup groupIdle else s.pgroups }

section
variable {s : State} {i : Fin 64} {b : Byte}

theorem isolateLineBody_refused (hb : argIndex 64 b = some i)
    (h : s.lines[i].state = .unused ∨ s.lines[i].state = .isolated ∨
      (s.lines[i].state = .active ∧ LineKind.latched s.config.lines[i].kind = true)) :
    isolateLineBody b s = refuse .state s := by
  have hi := (isolable_eq_false_iff s.config.lines[i] s.lines[i]).mpr h
  simp only [isolateLineBody, hb, hi, Bool.false_eq_true, if_false]

theorem isolateLineBody_accepted (hb : argIndex 64 b = some i)
    (h : isolable s.config.lines[i] s.lines[i] = true) :
    isolateLineBody b s = accept (changeLine i (isolated s.lines[i]) (isolationGroups i s)) := by
  simp only [isolateLineBody, hb, h, if_true, isolationGroups]
  split <;> rfl

theorem restoreLineBody_refused (hb : argIndex 64 b = some i)
    (h : s.lines[i].state ≠ .isolated ∨
      (s.config.lines[i].mode = .supervised ∧
        ((groupOf s i).state = .reset ∨ (groupOf s i).state = .settle))) :
    restoreLineBody b s = refuse .state s := by
  rw [← freezes_iff] at h
  simp only [restoreLineBody, hb]
  obtain h | h := h
  · rw [if_neg h]
  · rw [if_pos h, ite_self]

theorem restoreLineBody_accepted (hb : argIndex 64 b = some i) (hs : s.lines[i].state = .isolated)
    (h : ¬(s.config.lines[i].mode = .supervised ∧
        ((groupOf s i).state = .reset ∨ (groupOf s i).state = .settle))) :
    restoreLineBody b s = accept (changeLine i (restored s.lines[i]) s) := by
  rw [← freezes_iff] at h
  simp only [restoreLineBody, hb]
  rw [if_pos hs, if_neg h]

end

section
variable {s u : State} {p : Fin 4} {i : Instr}

/-- What an accepted command of one line leaves, when its rule changed the power groups and one line alone. -/
theorem setResult_eq_of_troubleCounted {g : Vector PGroup 8} (h : TroubleCounted { opened p i s with pgroups := g } u)
    (r : Result) :
    setResult p r u =
      { s with
        lines := u.lines, pgroups := g, floors := u.floors, regime := u.regime, ports := (setResult p r u).ports } :=
  congrArg (fun v : State => { v with ports := (setResult p r u).ports }) h.frame

/-- An accepted ISOLATE LINE (R37, R38). -/
theorem isolate_accepted {k : Fin 64} (hc : InControl s p (.isolateLine p (BitVec.ofNat 8 k.val)))
    (h : isolable s.config.lines[k] s.lines[k] = true) :
    ∃ t : State, exec (.isolateLine p (BitVec.ofNat 8 k.val)) s = .next t ∧
      t = { s with
        lines := s.lines.set k { s.lines[k] with state := .isolated, retard := none }, pgroups := t.pgroups
        floors := t.floors, regime := t.regime, ports := t.ports } ∧
      t.pgroups =
        (if s.lines[k].state = .verifying then s.pgroups.set s.config.lines[k].powerGroup ⟨.idle, none⟩
          else s.pgroups) ∧
      t.regime = { s.regime with trouble := { s.regime.trouble with lines := t.regime.trouble.lines } } ∧
      (∀ f : Fin 48, t.floors[f] = { s.floors[f] with troubleCount := t.floors[f].troubleCount }) ∧
      Accepted p s t := by
  have hbody : isolateLineBody (BitVec.ofNat 8 k.val) (opened p (.isolateLine p (BitVec.ofNat 8 k.val)) s) =
      accept (changeLine k (isolated s.lines[k])
        (isolationGroups k (opened p (.isolateLine p (BitVec.ofNat 8 k.val)) s))) :=
    isolateLineBody_accepted (argIndex_ofNat (by decide) k) h
  have hcounted := troubleCounted_changeLine (i := k) (l' := isolated s.lines[k])
    (s := isolationGroups k (opened p (.isolateLine p (BitVec.ofNat 8 k.val)) s)) (isolated_fireActive h)
  have heq := setResult_eq_of_troubleCounted hcounted .ok
  rw [changeLine_lines] at heq
  have hquiet : QuietPorts (opened p (.isolateLine p (BitVec.ofNat 8 k.val)) s) _ :=
    QuietPorts.trans (quiet_of_ports rfl) hcounted.quiet
  have hgroups : (changeLine k (isolated s.lines[k])
      (isolationGroups k (opened p (.isolateLine p (BitVec.ofNat 8 k.val)) s))).pgroups =
      if s.lines[k].state = .verifying then s.pgroups.set s.config.lines[k].powerGroup groupIdle
      else s.pgroups := by
    rw [hcounted.frame]
    rfl
  refine ⟨_, congrArg Host.Outcome.next (controlled_accepted hc hbody), heq.trans ?_, hgroups, hcounted.regime,
    hcounted.floor, accepted_setResult hquiet⟩
  rw [setResult_pgroups, hgroups]
  rfl

/-- An accepted RESTORE LINE (R39). -/
theorem restore_accepted {k : Fin 64} (hc : InControl s p (.restoreLine p (BitVec.ofNat 8 k.val)))
    (hs : s.lines[k].state = .isolated)
    (h : ¬(s.config.lines[k].mode = .supervised ∧
      ((groupOf s k).state = .reset ∨ (groupOf s k).state = .settle))) :
    ∃ t : State, exec (.restoreLine p (BitVec.ofNat 8 k.val)) s = .next t ∧
      t = { s with
        lines := s.lines.set k
          { s.lines[k] with
            state := .normal, history := [], rawBand := none, candidate := none, agree := 0, qualified := none
            clearCount := 0, unstable := false }
        floors := t.floors, regime := t.regime, ports := t.ports } ∧
      t.regime = { s.regime with trouble := { s.regime.trouble with lines := t.regime.trouble.lines } } ∧
      (∀ f : Fin 48, t.floors[f] = { s.floors[f] with troubleCount := t.floors[f].troubleCount }) ∧
      Accepted p s t := by
  have hbody := restoreLineBody_accepted (s := opened p (.restoreLine p (BitVec.ofNat 8 k.val)) s)
    (argIndex_ofNat (by decide) k) hs h
  have hfire : fireActive s.config.lines[k] (restored s.lines[k]) = fireActive s.config.lines[k] s.lines[k] := by
    have hne : s.lines[k].state ≠ .active := by rw [hs]; exact nofun
    rw [fireActive_eq_false_of_state _ hne]
    exact fireActive_eq_false_of_state _ nofun
  have hcounted := troubleCounted_changeLine (i := k) (l' := restored s.lines[k])
    (s := opened p (.restoreLine p (BitVec.ofNat 8 k.val)) s) hfire
  have heq := setResult_eq_of_troubleCounted (g := s.pgroups) hcounted .ok
  rw [changeLine_lines] at heq
  exact ⟨_, congrArg Host.Outcome.next (controlled_accepted hc hbody), heq, hcounted.regime, hcounted.floor,
    accepted_setResult hcounted.quiet⟩

end

/-- Settles O31: the argument, then the line's state, then the power group decide whether the line is taken. -/
theorem linesAreIsolatedAndRestored : Obligations.LinesAreIsolatedAndRestored := by
  refine ⟨fun s p b hc hb => ?_, fun s p b hc hb => ?_, fun s p i hc => ?_, fun s p i hc => ?_⟩
  · refine ⟨_, rfl, controlled_refused hc ?_⟩
    simp only [isolateLineBody, argIndex_of_le hb]
  · refine ⟨_, rfl, controlled_refused hc ?_⟩
    simp only [restoreLineBody, argIndex_of_le hb]
  · split
    · next h =>
      exact ⟨_, rfl, controlled_refused hc (isolateLineBody_refused (argIndex_ofNat (by decide) i) h)⟩
    · next h =>
      exact isolate_accepted hc (Bool.not_eq_false _ ▸ mt (isolable_eq_false_iff _ _).mp h)
  · split
    · next h =>
      exact ⟨_, rfl, controlled_refused hc (restoreLineBody_refused (argIndex_ofNat (by decide) i) h)⟩
    · next h =>
      obtain ⟨hs, hg⟩ := not_or.mp h
      exact restore_accepted hc (not_not.mp hs) hg

end Sys2Proof.Machine
end

section
/-! SUPPORT. The slots of the announcement queue that stay empty while the router works. -/

namespace Sys2Proof.Machine

/-! ## The entries that the assignment takes up (R140, R150, R151) -/

theorem mem_insertRanked {x y : Fin 16 × Entry} {l : List (Fin 16 × Entry)} (h : y ∈ insertRanked x l) :
    y = x ∨ y ∈ l := by
  induction l with
  | nil => exact .inl (List.mem_singleton.mp h)
  | cons z zs ih =>
    rw [insertRanked] at h
    split at h
    · exact List.mem_cons.mp h
    · obtain rfl | h := List.mem_cons.mp h
      · exact .inr List.mem_cons_self
      · exact (ih h).imp_right (List.mem_cons_of_mem z)

theorem mem_rankOrder {y : Fin 16 × Entry} {l : List (Fin 16 × Entry)} (h : y ∈ rankOrder l) : y ∈ l := by
  induction l with
  | nil => exact h
  | cons x xs ih =>
    obtain rfl | h := mem_insertRanked h
    · exact List.mem_cons_self
    · exact List.mem_cons_of_mem x (ih h)

/-- A WAITING entry stands in its slot. -/
theorem entry_of_mem_waiting {s : State} {sl : Fin 16} {e : Entry} (h : (sl, e) ∈ waiting s) :
    s.entries[sl] = some e := by
  obtain ⟨k, -, hk⟩ := List.mem_filterMap.mp (mem_rankOrder h)
  unfold slotIf at hk
  split at hk
  · next x hx =>
    split at hk
    · cases hk; exact hx
    · cases hk
  · cases hk

theorem lowestOf_mem {l : List (Fin 4 × Fin 16 × Entry)} {x : Fin 4 × Fin 16 × Entry} (h : lowestOf l = some x) :
    x ∈ l := by
  induction l with
  | nil => cases h
  | cons z zs ih =>
    rw [lowestOf] at h
    split at h
    · cases h; exact List.mem_cons_self
    · next y hy =>
      split at h
      · cases h; exact List.mem_cons_of_mem z (ih hy)
      · cases h; exact List.mem_cons_self

/-- A PLAYING entry stands in its slot. -/
theorem entry_of_mem_playing {s : State} {c : Fin 4} {sl : Fin 16} {e : Entry} (h : (c, sl, e) ∈ playing s) :
    s.entries[sl] = some e := by
  obtain ⟨k, -, hk⟩ := List.mem_filterMap.mp h
  unfold playingEntry at hk
  (repeat' split at hk) <;> cases hk
  assumption

/-! ## Empty slots -/

/-- A slot that an entry leaves or enters is not the empty one. -/
theorem set_entry_none {s : State} {k sl : Fin 16} {e : Entry} (x : Option Entry) (hk : s.entries[k] = none)
    (hs : s.entries[sl] = some e) : (s.entries.set sl x)[k] = none := by
  have hne : k ≠ sl := fun h => by subst h; rw [hk] at hs; cases hs
  rw [getElem_set_fin, if_neg hne, hk]

theorem fillIdle_keeps_empty {k : Fin 16} : ∀ (n : Nat) {s : State}, s.entries[k] = none →
    (fillIdle n s).entries[k] = none
  | 0, _, h => h
  | n + 1, s, h => by
    rw [fillIdle]
    split
    · next c sl e rest _ hw =>
      have he : s.entries[sl] = some e := entry_of_mem_waiting (by rw [hw]; exact List.mem_cons_self)
      exact fillIdle_keeps_empty n (set_entry_none _ h he)
    · exact h

theorem preempt_keeps_empty {k : Fin 16} : ∀ (n : Nat) {s : State}, s.entries[k] = none →
    (preempt n s).entries[k] = none
  | 0, _, h => h
  | n + 1, s, h => by
    rw [preempt]
    split
    · next c sl e _ w hl _ =>
      have he : s.entries[sl] = some e := entry_of_mem_playing (lowestOf_mem hl)
      dsimp only
      split
      · exact preempt_keeps_empty n (set_entry_none _ h he)
      · exact h
    · exact h

/-- The assignment fills no empty slot (R150, R151). -/
theorem assign_keeps_empty {k : Fin 16} {s : State} (h : s.entries[k] = none) : (assign s).entries[k] = none :=
  preempt_keeps_empty 4 (fillIdle_keeps_empty 4 h)

theorem withoutSlot_eq_none {es : Vector (Option Entry) 16} {sl k : Fin 16} (age : Nat)
    (h : k = sl ∨ es[k] = none) : (withoutSlot es sl age)[k] = none := by
  have hk : (withoutSlot es sl age)[k] =
      if k = sl then none else es[k].map fun x => if age < x.age then { x with age := x.age - 1 } else x :=
    getElem_tabulate _ _ _
  rw [hk]
  obtain h | h := h
  · rw [if_pos h]
  · rw [h, Option.map_none, ite_self]

/-- The slot of a removed entry is empty, and so is every slot that was (R142). -/
theorem removeEntry_eq_none {s : State} {sl k : Fin 16} (h : k = sl ∨ s.entries[k] = none) :
    (removeEntry sl s).entries[k] = none := by
  unfold removeEntry
  split
  · next hs =>
    obtain rfl | h := h
    · exact hs
    · exact h
  · next e _ =>
    dsimp only
    split
    · exact withoutSlot_eq_none e.age h
    · exact withoutSlot_eq_none e.age h

/-- Outside ACTIVE the regime has no entries (R148). -/
theorem regimeEntries_of_not_active {s : State} (h : s.regime.state ≠ .active) :
    (regimeEntries s).entries[evacuateSlot] = none ∧ (regimeEntries s).entries[alertSlot] = none := by
  have hr : regimeEntries s = removeEntry alertSlot (removeEntry evacuateSlot s) := if_neg fun hc => h hc.1
  rw [hr]
  exact ⟨removeEntry_eq_none (.inr (removeEntry_eq_none (.inl rfl))), removeEntry_eq_none (.inl rfl)⟩

theorem routerSettle_entries (s0 s : State) :
    (routerSettle s0 s).entries = (assign (regimeEntries (stripTenants s))).entries := by
  simp [routerSettle, routerFinish]

/-- Outside ACTIVE the work of every unit leaves the regime no entries (R148). -/
theorem settle_entries_of_not_active {s0 s : State} (h : s.regime.state ≠ .active) :
    (settle s0 s).entries[evacuateSlot] = none ∧ (settle s0 s).entries[alertSlot] = none := by
  have hr : (doorSettle s0 (liftSettle s0 (floorSettle s0 s))).regime.state = s.regime.state := by
    rw [onlyTroubles_doorSettle, onlyTroubles_liftSettle, floorSettle_regime, spreadStop_regime]
    rfl
  have hne : (stripTenants (doorSettle s0 (liftSettle s0 (floorSettle s0 s)))).regime.state ≠ .active := by
    simpa [hr] using h
  obtain ⟨hevac, halert⟩ := regimeEntries_of_not_active hne
  unfold settle
  rw [routerSettle_entries]
  exact ⟨assign_keeps_empty hevac, assign_keeps_empty halert⟩

end Sys2Proof.Machine
end

section
/-! SUPPORT. RESET REGIME (O38). -/

namespace Sys2Proof.Machine

section
variable (s : State)

/-! ## The lines (R40) -/

theorem resetLineOf_lines (i : Fin 64) :
    (resetLineOf s i).lines = s.lines.set i (resetLine s.config.lines[i] s.lines[i]) :=
  changeLine_lines i _ s

theorem resetEachLine_line (i : Fin 64) :
    (resetEachLine s).lines[i] = resetLine s.config.lines[i] s.lines[i] :=
  foldl_every_line (f := resetLineOf) (new := fun k i l => resetLine k.lines[i] l) resetLineOf_lines
    (fun s i => by simp) s i

theorem resetEachLine_onlyTroubles : OnlyTroubles s.regime (resetEachLine s).regime := by
  rw [resetEachLine]
  exact foldl_relates (R := fun u v => OnlyTroubles u.regime v.regime) (f := resetLineOf) (fun _ => rfl)
    (fun h k => h.trans k) (fun u i => changeLine_onlyTroubles i _ u) _ s

theorem clearManual_lgroup (g : Fin 3) : (clearManual s).lgroups[g] = { s.lgroups[g] with manual := false } :=
  getElem_tabulate _ _ _

/-! ## The reset before the work of every unit -/

/-- The lines reset, the regime record returned to QUIET and the manual recalls cleared (R40, R62, R63). -/
def regimeReturned (s : State) : State :=
  clearManual ((resetLines s).setRegime (quietRegime (resetLines s).regime))

theorem resetRegime_eq : resetRegime s = settle s (regimeReturned s) := rfl

theorem regimeReturned_regime :
    (regimeReturned s).regime = { quietRegime s.regime with trouble := (resetEachLine s).regime.trouble } := by
  have h : (regimeReturned s).regime = quietRegime (resetEachLine s).regime := by
    simp [regimeReturned, resetLines]
  rw [h, resetEachLine_onlyTroubles s]
  rfl

theorem regimeReturned_not_active : (regimeReturned s).regime.state ≠ .active := nofun

theorem regimeReturned_load_config :
    (regimeReturned s).load = s.load ∧ (regimeReturned s).config = s.config := by
  simp [regimeReturned]

/-! ## What an accepted RESET REGIME leaves -/

theorem resetRegime_regime :
    (resetRegime s).regime =
      { s.regime with
        state := .quiet, firstAlarm := none, hold := none, silenced := false, inhibit := none, r := 0
        spread := .stopped, spreadHeld := false, evacuateAll := false
        trouble := (resetRegime s).regime.trouble } := by
  have h : OnlyTroubles (regimeReturned s).regime (resetRegime s).regime :=
    settle_regime_of_not_active (regimeReturned_not_active s)
  unfold OnlyTroubles at h
  rw [regimeReturned_regime] at h
  exact h

theorem resetRegime_status {f : Fin 48} (h : s.present f = true) : (resetRegime s).floors[f].status = .none := by
  have hp : (regimeReturned s).present f = true := by
    rw [State.present, (regimeReturned_load_config s).2]
    exact h
  rw [resetRegime_eq, settle_status, deriveFloors_status hp]
  rfl

theorem resetRegime_pgroup (g : Fin 8) : (resetRegime s).pgroups[g] = ⟨.idle, none⟩ := by
  have h : (resetRegime s).pgroups = tabulate fun _ => groupIdle := by
    simp [resetRegime_eq, regimeReturned, resetLines]
  rw [h]
  exact getElem_tabulate _ _ _

/-- No cause of recall stands in QUIET (R90, R105; log entry 10). -/
theorem trigger_of_quiet {s : State} (h : s.regime.state = .quiet) (g : Fin 3) : trigger s g = false := by
  simp [trigger, automaticCause, h]

theorem resetRegime_lgroup (g : Fin 3) :
    (resetRegime s).lgroups[g].manual = false ∧ (resetRegime s).lgroups[g].triggered = false := by
  have hq : (floorSettle s (regimeReturned s)).regime.state = .quiet := by
    rw [floorSettle_regime, spreadStop_regime]
    rfl
  have hm : (regimeReturned s).lgroups[g].manual = false := by
    rw [regimeReturned, clearManual_lgroup]
  rw [resetRegime_eq, settle_lgroup]
  exact ⟨hm, trigger_of_quiet hq g⟩

theorem resetRegime_override (g : Fin 16) :
    (resetRegime s).dgroups[g].override = s.dgroups[g].override := by
  rw [resetRegime_eq, settle_override]
  simp [regimeReturned]

theorem resetRegime_line (i : Fin 64) :
    (resetRegime s).lines[i] = resetLine s.config.lines[i] s.lines[i] := by
  have h : (resetRegime s).lines = (resetEachLine s).lines := by
    simp [resetRegime_eq, regimeReturned, resetLines]
  rw [h, resetEachLine_line]

theorem resetRegime_entries :
    (resetRegime s).entries[evacuateSlot] = none ∧ (resetRegime s).entries[alertSlot] = none :=
  settle_entries_of_not_active (regimeReturned_not_active s)

theorem resetRegime_eq_with :
    resetRegime s =
      { s with
        lines := (resetRegime s).lines, pgroups := (resetRegime s).pgroups, regime := (resetRegime s).regime
        floors := (resetRegime s).floors, lgroups := (resetRegime s).lgroups, cars := (resetRegime s).cars
        doors := (resetRegime s).doors, dgroups := (resetRegime s).dgroups, resecure := (resetRegime s).resecure
        stagger := (resetRegime s).stagger, entries := (resetRegime s).entries
        channels := (resetRegime s).channels, chain := (resetRegime s).chain, ports := (resetRegime s).ports } := by
  obtain ⟨hload, hconfig, henable, hstore, hbusy, hslot, hfree, hpending⟩ := resetRegime_frame s
  rw [← hload, ← hconfig, ← henable, ← hstore, ← hbusy, ← hslot, ← hfree, ← hpending]

end

/-- A NORMAL line at RESET REGIME: a retard that runs stops, and the line is qualified afresh (R40). -/
theorem resetLine_normal {c : LineCfg} {l : Line} (h : l.state = .normal) :
    resetLine c l =
      if l.retard = none then l
      else { l with retard := none, candidate := none, agree := 0, qualified := none } := by
  cases hr : l.retard <;> simp [resetLine, h, hr, clearQualification]

/-- RESET REGIME in HOLD_INVESTIGATE or ACTIVE is accepted (R62). -/
theorem resetRegimeBody_accepted {s : State} (h : s.regime.state = .holdInvestigate ∨ s.regime.state = .active) :
    resetRegimeBody s = accept (resetRegime s) := by
  obtain h | h := h <;> simp only [resetRegimeBody, h]

section
variable {s : State} {p : Fin 4}

theorem resetRegime_raises (h0 : s.load = none) (h : s.regime.state ≠ .quiet) :
    Raised .regime s (resetRegime s) := by
  obtain ⟨hl, hc⟩ := regimeReturned_load_config s
  exact raised_regime_settle hl hc h0 (regimeView_ne_of_state (.inl h))

theorem resetRegime_noticed (s : State) :
    FloorNoticed s (resetRegime s) ∧ LiftNoticed s (resetRegime s) ∧ DoorNoticed s (resetRegime s) := by
  obtain ⟨hl, hc⟩ := regimeReturned_load_config s
  exact ⟨floorNoticed_settle hl hc, liftNoticed_settle hl hc, doorNoticed_settle hl hc⟩

end

/-- What an accepted RESET REGIME outside QUIET leaves, unit by unit (R40, R62, R63). -/
structure RegimeReset (p : Fin 4) (s t : State) : Prop where
  accepted : Accepted p s t
  raised : Raised .regime s t
  floorNoticed : FloorNoticed s t
  liftNoticed : LiftNoticed s t
  doorNoticed : DoorNoticed s t
  frame : t = { s with
    lines := t.lines, pgroups := t.pgroups, regime := t.regime, floors := t.floors, lgroups := t.lgroups
    cars := t.cars, doors := t.doors, dgroups := t.dgroups, resecure := t.resecure, stagger := t.stagger
    entries := t.entries, channels := t.channels, chain := t.chain, ports := t.ports }
  override : ∀ g : Fin 16, t.dgroups[g].override = s.dgroups[g].override
  regime : t.regime =
    { s.regime with
      state := .quiet, firstAlarm := none, hold := none, silenced := false, inhibit := none, r := 0
      spread := .stopped, spreadHeld := false, evacuateAll := false, trouble := t.regime.trouble }
  status : ∀ f : Fin 48, s.present f = true → t.floors[f].status = .none
  pgroup : ∀ g : Fin 8, t.pgroups[g] = ⟨.idle, none⟩
  lgroup : ∀ g : Fin 3, t.lgroups[g].manual = false ∧ t.lgroups[g].triggered = false
  evacuate : t.entries[evacuateSlot] = none
  alert : t.entries[alertSlot] = none
  line : ∀ i : Fin 64, t.lines[i] = resetLine s.config.lines[i] s.lines[i]

theorem regimeReset_of_accepted {s : State} {p : Fin 4} (hc : InControl s p (.resetRegime p))
    (hs : s.regime.state = .holdInvestigate ∨ s.regime.state = .active) :
    ∃ t : State, exec (.resetRegime p) s = .next t ∧ RegimeReset p s t := by
  have hbody : resetRegimeBody (opened p (.resetRegime p) s) = accept (resetRegime (opened p (.resetRegime p) s)) :=
    resetRegimeBody_accepted hs
  have h0 : (opened p (.resetRegime p) s).load = none := hc.1.1
  have hne : (opened p (.resetRegime p) s).regime.state ≠ .quiet := by
    obtain h | h := hs <;> exact fun e => by cases h.symm.trans e
  have hraised := resetRegime_raises h0 hne
  have hquiet := quiet_resetRegime (opened p (.resetRegime p) s)
  have hframe := resetRegime_eq_with (opened p (.resetRegime p) s)
  have hoverride := resetRegime_override (opened p (.resetRegime p) s)
  have hregime := resetRegime_regime (opened p (.resetRegime p) s)
  have hstatus := fun f => resetRegime_status (opened p (.resetRegime p) s) (f := f)
  have hpgroup := resetRegime_pgroup (opened p (.resetRegime p) s)
  have hlgroup := resetRegime_lgroup (opened p (.resetRegime p) s)
  have hline := resetRegime_line (opened p (.resetRegime p) s)
  obtain ⟨hfloor, hlift, hdoor⟩ := resetRegime_noticed (opened p (.resetRegime p) s)
  obtain ⟨hevacuate, halert⟩ := resetRegime_entries (opened p (.resetRegime p) s)
  generalize resetRegime (opened p (.resetRegime p) s) = u at *
  exact ⟨setResult p .ok u, congrArg Host.Outcome.next (controlled_accepted hc hbody), {
    accepted := accepted_setResult hquiet
    raised := Raised.setResult (s := s) hraised p .ok
    floorNoticed := fun hl hf => Raised.setResult (s := s) (hfloor hl hf) p .ok
    liftNoticed := fun hl hf => Raised.setResult (s := s) (hlift hl hf) p .ok
    doorNoticed := fun hl hf => Raised.setResult (s := s) (hdoor hl hf) p .ok
    frame := congrArg (fun v : State => { v with ports := (setResult p .ok u).ports }) hframe
    override := hoverride
    regime := hregime
    status := hstatus
    pgroup := hpgroup
    lgroup := hlgroup
    evacuate := hevacuate
    alert := halert
    line := hline }⟩

/-- Settles O38: nothing in QUIET, refused in HOLD_ACK, and otherwise read off the reset unit by unit. -/
theorem resetRegimeReturnsToQuiet : Obligations.ResetRegimeReturnsToQuiet := by
  intro s p hc
  cases hs : s.regime.state with
  | quiet =>
    have hbody : resetRegimeBody (opened p (.resetRegime p) s) = accept (opened p (.resetRegime p) s) := by
      have hw : (opened p (.resetRegime p) s).regime.state = .quiet := hs
      simp only [resetRegimeBody, hw]
    exact ⟨_, congrArg Host.Outcome.next (controlled_accepted hc hbody), rfl, accepted_setResult (.refl _)⟩
  | holdAck =>
    refine ⟨_, rfl, controlled_refused hc ?_⟩
    have hw : (opened p (.resetRegime p) s).regime.state = .holdAck := hs
    simp only [resetRegimeBody, hw]
  | holdInvestigate | active =>
    obtain ⟨t, ht, h⟩ := regimeReset_of_accepted hc (by simp [hs])
    refine ⟨t, ht, h.accepted, h.raised, h.floorNoticed, h.liftNoticed, h.doorNoticed, h.frame, h.override, h.regime,
      h.status, h.pgroup, h.lgroup, h.evacuate, h.alert, fun i => ?_⟩
    rw [h.line i]
    cases hl : s.lines[i].state with
    | normal => exact resetLine_normal hl
    | active | verifying | troubleOpen | troubleShort | isolated | unused =>
      simp only [resetLine, hl, resetToNormal, emptyHistory, clearQualification]

end Sys2Proof.Machine
end


section
/-! SUPPORT. The trouble summary at the work of each unit (R66): the flags follow the standing troubles. -/

namespace Sys2Proof.Machine

/-! ## The standing troubles of a state -/

/-- The trouble summary that the standing troubles of a state give (R66). -/
def standing (s : State) : TroubleSummary :=
  ⟨anyLineTrouble s.floors, anyDoorTrouble s, anyLiftTrouble s, anyVoiceTrouble s, anyStoreTrouble s.store⟩

theorem troubleInv_iff (s : State) : TroubleInv s ↔ s.regime.trouble = standing s := by
  unfold TroubleInv standing
  cases s.regime.trouble
  simp only [TroubleSummary.mk.injEq]

/-- A flag that showed the troubles before an event shows those after it. -/
theorem summaryFlag_follows (before after : Bool) : summaryFlag before before after = after := by
  unfold summaryFlag
  split
  · assumption
  · rfl

/-! ## What each standing trouble rests on -/

theorem any_toList_iff {n : Nat} {α : Type} (v : Vector α n) (p : α → Bool) :
    v.toList.any p = true ↔ ∃ i : Fin n, p v[i] = true := by
  simp only [List.any_eq_true, Vector.mem_toList_iff, Vector.mem_iff_getElem]
  constructor
  · rintro ⟨_, ⟨i, hi, rfl⟩, hp⟩
    exact ⟨⟨i, hi⟩, hp⟩
  · rintro ⟨i, hp⟩
    exact ⟨_, ⟨i.val, i.isLt, rfl⟩, hp⟩

section
variable {s t : State}

theorem anyLineTrouble_congr (h : ∀ f : Fin 48, t.floors[f].troubleCount = s.floors[f].troubleCount) :
    anyLineTrouble t.floors = anyLineTrouble s.floors := by
  rw [Bool.eq_iff_iff]
  simp only [anyLineTrouble, any_toList_iff, h]

theorem anyDoorTrouble_congr (hc : t.config = s.config)
    (hd : ∀ c : Fin 32, t.doors[c].state = s.doors[c].state ∧ t.doors[c].openFault = s.doors[c].openFault)
    (hg : ∀ g : Fin 16, t.dgroups[g].notSecured = s.dgroups[g].notSecured) :
    anyDoorTrouble t = anyDoorTrouble s := by
  rw [Bool.eq_iff_iff]
  simp only [anyDoorTrouble, latchTrouble, openTrouble, notSecuredTrouble, hc, hd, hg, Bool.or_eq_true,
    List.any_eq_true]

theorem anyDoorTrouble_of_eq (hc : t.config = s.config) (hd : t.doors = s.doors) (hg : t.dgroups = s.dgroups) :
    anyDoorTrouble t = anyDoorTrouble s :=
  anyDoorTrouble_congr hc (by simp [hd]) (by simp [hg])

theorem anyLiftTrouble_congr (hc : t.config = s.config)
    (h : ∀ c : Fin 12, t.cars[c].lapsed = s.cars[c].lapsed) : anyLiftTrouble t = anyLiftTrouble s :=
  congrArg (List.finRange 12).any (funext fun c => by simp only [carInTrouble, hc, h])

theorem anyVoiceTrouble_congr (h : ∀ c : Fin 4, t.channels[c].lapse = s.channels[c].lapse) :
    anyVoiceTrouble t = anyVoiceTrouble s := by
  rw [Bool.eq_iff_iff]
  simp only [anyVoiceTrouble, any_toList_iff, h]

end

/-! ## The flag that each unit sets -/

section
variable (s0 s : State)

theorem doorNotices_trouble :
    (doorNotices s0 s).regime.trouble =
      { s.regime.trouble with
        doors := summaryFlag s.regime.trouble.doors (anyDoorTrouble s0) (anyDoorTrouble (doorNotices s0 s)) } := by
  rw [anyDoorTrouble_of_eq (s := s) (t := doorNotices s0 s) (by simp) (by simp) (by simp)]
  simp [doorNotices, doorsFlag, setTrouble]

theorem liftNotices_trouble :
    (liftNotices s0 s).regime.trouble =
      { s.regime.trouble with
        lifts := summaryFlag s.regime.trouble.lifts (anyLiftTrouble s0) (anyLiftTrouble (liftNotices s0 s)) } := by
  rw [anyLiftTrouble_congr (s := s) (t := liftNotices s0 s) (by simp) (by simp)]
  simp [liftNotices, liftsFlag, setTrouble]

theorem routerFinish_trouble :
    (routerFinish s0 s).regime.trouble =
      { s.regime.trouble with
        voice := summaryFlag s.regime.trouble.voice (anyVoiceTrouble s0) (anyVoiceTrouble (routerFinish s0 s)) } := by
  rw [anyVoiceTrouble_congr (s := route (assign s)) (t := routerFinish s0 s) (by simp [routerFinish])]
  simp [routerFinish, routerNotices, voiceFlag, setTrouble]

theorem changeLine_trouble (i : Fin 64) (l : Line) :
    (changeLine i l s).regime.trouble =
      { s.regime.trouble with
        lines := summaryFlag s.regime.trouble.lines (anyLineTrouble s.floors)
          (anyLineTrouble (changeLine i l s).floors) } := by
  simp [changeLine, linesFlag, setTrouble]

theorem writeEnds_trouble (n : Fin 136) (x : StoreRec) :
    (writeEnds n x s).regime.trouble =
      { s.regime.trouble with
        store := summaryFlag s.regime.trouble.store (anyStoreTrouble s.store)
          (anyStoreTrouble (writeEnds n x s).store) } := by
  simp [writeEnds, storeFlag, setTrouble]

end

end Sys2Proof.Machine
end


section
/-! SUPPORT. Events of one unit: what they leave of the regime and of the door groups, and the trouble summary after. -/

namespace Sys2Proof.Machine

/-! ## The relation -/

/-- An event of one unit that is none of the regime's: the load, the configuration, the regime record but for its
trouble summary, the floors' statuses, the door groups' overrides and states, the re-secure queue and its timer are as
they were, and the trouble summary still shows the standing troubles (R66). -/
structure UnitEvent (s t : State) : Prop where
  load : t.load = s.load
  config : t.config = s.config
  regime : OnlyTroubles s.regime t.regime
  status : ∀ f : Fin 48, t.floors[f].status = s.floors[f].status
  override : ∀ g : Fin 16, t.dgroups[g].override = s.dgroups[g].override
  groupState : ∀ g : Fin 16, t.dgroups[g].state = s.dgroups[g].state
  resecure : t.resecure = s.resecure
  stagger : t.stagger = s.stagger
  trouble : TroubleInv s → TroubleInv t

section
variable {s t u w : State}

@[simp] theorem UnitEvent.refl (s : State) : UnitEvent s s :=
  ⟨rfl, rfl, rfl, fun _ => rfl, fun _ => rfl, fun _ => rfl, rfl, rfl, id⟩

theorem UnitEvent.trans (h : UnitEvent s t) (k : UnitEvent t u) : UnitEvent s u where
  load := k.load.trans h.load
  config := k.config.trans h.config
  regime := h.regime.trans k.regime
  status f := (k.status f).trans (h.status f)
  override g := (k.override g).trans (h.override g)
  groupState g := (k.groupState g).trans (h.groupState g)
  resecure := k.resecure.trans h.resecure
  stagger := k.stagger.trans h.stagger
  trouble := k.trouble ∘ h.trouble

/-- An event that takes effect only on a condition. -/
theorem UnitEvent.ite {c : Prop} [Decidable c] (h : UnitEvent s t) : UnitEvent s (if c then t else s) := by
  split
  · exact h
  · exact .refl s

/-- The ports, the counter of free values, the scan slot, the lines, the power groups, the enable input, the store
write in progress and the routing chain bear on none of it. -/
theorem unitEvent_of_frame
    (h : t = { s with
      ports := t.ports, free := t.free, scanSlot := t.scanSlot, lines := t.lines, pgroups := t.pgroups
      enable := t.enable, busy := t.busy, chain := t.chain }) : UnitEvent s t := by
  rw [h]
  exact ⟨rfl, rfl, rfl, fun _ => rfl, fun _ => rfl, fun _ => rfl, rfl, rfl, id⟩

@[simp] theorem unitEvent_setPort (s : State) (p : Fin 4) (c : Port) : UnitEvent s (s.setPort p c) :=
  unitEvent_of_frame rfl

/-! ## Commands -/

theorem unitEvent_command {p : Fin 4} {bytes : List Byte} {body : State → State × Result}
    (h : ∀ u, UnitEvent u (body u).1) : UnitEvent s (command p bytes body s) :=
  command_preserves (fun k => k.trans (unitEvent_setPort _ _ _)) (fun u k => k.trans (h u))
    (fun _ _ k => k.trans (unitEvent_setPort _ _ _)) (.refl s)

theorem unitEvent_afterLoad {body : State → State × Result} (h : ∀ u, UnitEvent u (body u).1) (s : State) :
    UnitEvent s (afterLoad body s).1 :=
  afterLoad_preserves (fun _ => h s) (.refl s)

theorem unitEvent_controlled {p : Fin 4} {body : State → State × Result} (h : ∀ u, UnitEvent u (body u).1)
    (s : State) : UnitEvent s (controlled p body s).1 :=
  controlled_preserves (fun _ => h s) (.refl s)

/-! ## The events of each unit -/

/-- The doors flag follows an event of the door unit (R134). -/
theorem troubleInv_doorNotices (h0 : TroubleInv s) (hr : w.regime.trouble = s.regime.trouble)
    (hs : standing w = { standing s with doors := anyDoorTrouble w }) : TroubleInv (doorNotices s w) := by
  have hd : anyDoorTrouble (doorNotices s w) = anyDoorTrouble w :=
    anyDoorTrouble_of_eq (by simp) (by simp) (by simp)
  have hl : anyLiftTrouble (doorNotices s w) = anyLiftTrouble w := anyLiftTrouble_congr (by simp) (by simp)
  have hv : anyVoiceTrouble (doorNotices s w) = anyVoiceTrouble w := anyVoiceTrouble_congr (by simp)
  have hw : standing (doorNotices s w) = standing w := by simp [standing, hd, hl, hv]
  rw [troubleInv_iff] at h0 ⊢
  rw [doorNotices_trouble, hr, h0, hw, hs, hd]
  exact congrArg (fun b => { standing s with doors := b }) (summaryFlag_follows _ _)

/-- An event of the door unit that changes circuits, and of the groups their timers and not-secured flags alone. -/
theorem unitEvent_doorNotices
    (hw : w = { s with doors := w.doors, dgroups := w.dgroups, scanSlot := w.scanSlot })
    (hg : ∀ g : Fin 16, w.dgroups[g].override = s.dgroups[g].override ∧ w.dgroups[g].state = s.dgroups[g].state) :
    UnitEvent s (doorNotices s w) where
  load := by rw [hw]; simp
  config := by rw [hw]; simp
  regime := by rw [OnlyTroubles, doorNotices_regime, hw]
  status f := by rw [hw]; simp
  override g := by simpa using (hg g).1
  groupState g := by simpa using (hg g).2
  resecure := by rw [hw]; simp
  stagger := by rw [hw]; simp
  trouble h0 := troubleInv_doorNotices h0 (by rw [hw]) (by rw [hw]; rfl)

/-- The lift unit's notices change the lifts flag of the regime record alone. -/
theorem liftNotices_regime (s0 s : State) :
    (liftNotices s0 s).regime =
      { s.regime with trouble := { s.regime.trouble with lifts := (liftNotices s0 s).regime.trouble.lifts } } := by
  simp [liftNotices, liftsFlag, setTrouble]

/-- The lifts flag follows an event of the lift unit (R102). -/
theorem unitEvent_liftNotices (hw : w = { s with cars := w.cars, lgroups := w.lgroups }) :
    UnitEvent s (liftNotices s w) where
  load := by rw [hw]; simp
  config := by rw [hw]; simp
  regime := by rw [OnlyTroubles, liftNotices_regime, hw]
  status f := by rw [hw]; simp
  override g := by rw [hw]; simp
  groupState g := by rw [hw]; simp
  resecure := by rw [hw]; simp
  stagger := by rw [hw]; simp
  trouble h0 := by
    have hd : anyDoorTrouble (liftNotices s w) = anyDoorTrouble s := by
      rw [hw]; exact anyDoorTrouble_of_eq (by simp) (by simp) (by simp)
    have hv : anyVoiceTrouble (liftNotices s w) = anyVoiceTrouble s := by
      rw [hw]; exact anyVoiceTrouble_congr (by simp)
    have hr : w.regime = s.regime := by rw [hw]
    have hf : w.floors = s.floors := by rw [hw]
    have hst : w.store = s.store := by rw [hw]
    rw [troubleInv_iff] at h0 ⊢
    rw [liftNotices_trouble, hr, h0]
    simp [standing, summaryFlag_follows, hd, hv, hf, hst]

/-- Deriving the routing anew changes the routed channels of the floors alone (R82, R154). -/
theorem routerFinish_floor (s0 s : State) (f : Fin 48) :
    (routerFinish s0 s).floors[f] = { s.floors[f] with routed := (routerFinish s0 s).floors[f].routed } := by
  have h : (routerFinish s0 s).floors = (deriveRouting (assign s)).floors := by
    simp only [routerFinish, routerNotices_frame, route]
    split <;> simp
  have hf : (deriveRouting (assign s)).floors[f] =
      { (assign s).floors[f] with routed := routeOf (assign s) f } := getElem_tabulate _ _ _
  rw [h, hf]
  simp

/-- The router's notices change the voice flag of the regime record alone. -/
theorem routerFinish_regime (s0 s : State) :
    (routerFinish s0 s).regime =
      { s.regime with trouble := { s.regime.trouble with voice := (routerFinish s0 s).regime.trouble.voice } } := by
  simp [routerFinish, routerNotices, voiceFlag, setTrouble]

/-- A change of the announcement queue and of the channels alone. -/
def AnnouncementsChanged (s w : State) : Prop := w = { s with entries := w.entries, channels := w.channels }

/-- The voice flag follows an event of the router (R162). -/
theorem unitEvent_routerFinish (hw : AnnouncementsChanged s w) : UnitEvent s (routerFinish s w) where
  load := by rw [hw]; simp
  config := by rw [hw]; simp
  regime := by rw [OnlyTroubles, routerFinish_regime, hw]
  status f := by rw [routerFinish_floor, hw]
  override g := by rw [hw]; simp
  groupState g := by rw [hw]; simp
  resecure := by rw [hw]; simp
  stagger := by rw [hw]; simp
  trouble h0 := by
    have hd : anyDoorTrouble (routerFinish s w) = anyDoorTrouble s := by
      rw [hw]; exact anyDoorTrouble_of_eq (by simp) (by simp) (by simp)
    have hl : anyLiftTrouble (routerFinish s w) = anyLiftTrouble s := by
      rw [hw]; exact anyLiftTrouble_congr (by simp) (by simp)
    have hf : anyLineTrouble (routerFinish s w).floors = anyLineTrouble s.floors := by
      refine anyLineTrouble_congr fun f => ?_
      rw [routerFinish_floor, hw]
    have hr : w.regime = s.regime := by rw [hw]
    have hst : w.store = s.store := by rw [hw]
    rw [troubleInv_iff] at h0 ⊢
    rw [routerFinish_trouble, hr, h0]
    simp [standing, summaryFlag_follows, hd, hl, hf, hst]

/-- A change of a line counts in its floor and in the lines flag alone (R66, R71). -/
@[simp] theorem unitEvent_changeLine (i : Fin 64) (l : Line) (s : State) : UnitEvent s (changeLine i l s) where
  load := by simp
  config := by simp
  regime := changeLine_onlyTroubles i l s
  status f := by
    rw [changeLine_floors, getElem_set_fin]
    split
    · next e => subst e; rfl
    · rfl
  override g := by simp
  groupState g := by simp
  resecure := by simp
  stagger := by simp
  trouble h0 := by
    have hd : anyDoorTrouble (changeLine i l s) = anyDoorTrouble s :=
      anyDoorTrouble_of_eq (by simp) (by simp) (by simp)
    have hl : anyLiftTrouble (changeLine i l s) = anyLiftTrouble s := anyLiftTrouble_congr (by simp) (by simp)
    have hv : anyVoiceTrouble (changeLine i l s) = anyVoiceTrouble s := anyVoiceTrouble_congr (by simp)
    rw [troubleInv_iff] at h0 ⊢
    rw [changeLine_trouble, h0]
    simp [standing, summaryFlag_follows, hd, hl, hv]

/-- The end of a store write shows in the store flag (R186, R189). -/
@[simp] theorem unitEvent_writeEnds (n : Fin 136) (x : StoreRec) (s : State) : UnitEvent s (writeEnds n x s) where
  load := by simp
  config := by simp
  regime := by simp [OnlyTroubles, writeEnds, storeFlag, setTrouble]
  status f := by simp
  override g := by simp
  groupState g := by simp
  resecure := by simp
  stagger := by simp
  trouble h0 := by
    have hd : anyDoorTrouble (writeEnds n x s) = anyDoorTrouble s :=
      anyDoorTrouble_of_eq (by simp) (by simp) (by simp)
    have hl : anyLiftTrouble (writeEnds n x s) = anyLiftTrouble s := anyLiftTrouble_congr (by simp) (by simp)
    have hv : anyVoiceTrouble (writeEnds n x s) = anyVoiceTrouble s := anyVoiceTrouble_congr (by simp)
    rw [troubleInv_iff] at h0 ⊢
    rw [writeEnds_trouble, h0]
    simp [standing, summaryFlag_follows, hd, hl, hv]

end

end Sys2Proof.Machine
end


section
/-! SUPPORT. The steps that are events of one unit: they leave the regime and the door groups' demand alone. -/

namespace Sys2Proof.Machine

/-! ## The commands' own rules -/

theorem selectBody_unitEvent {p : Fin 4} {t r f : Byte} (s : State) : UnitEvent s (selectBody p t r f s).1 := by
  unfold selectBody
  (repeat' split) <;> simp

theorem windowBody_unitEvent {p : Fin 4} {fr lr ff lf o : Byte} (s : State) :
    UnitEvent s (windowBody p fr lr ff lf o s).1 := by
  unfold windowBody
  (repeat' split) <;> simp

theorem maskBody_unitEvent {p : Fin 4} {w : Word} (s : State) : UnitEvent s (maskBody p w s).1 := by
  unfold maskBody
  split <;> simp

theorem checkConfigBody_unitEvent {p : Fin 4} (s : State) : UnitEvent s (checkConfigBody p s).1 := by
  unfold checkConfigBody setConflict
  (repeat' split) <;> simp

theorem isolateLineBody_unitEvent {b : Byte} (s : State) : UnitEvent s (isolateLineBody b s).1 := by
  have hg (i : Fin 64) (l : Line) (g : Fin 8) (x : PGroup) : UnitEvent s (changeLine i l (s.setPGroup g x)) :=
    .trans (unitEvent_of_frame rfl) (unitEvent_changeLine ..)
  unfold isolateLineBody
  (repeat' split) <;> simp [hg]

theorem restoreLineBody_unitEvent {b : Byte} (s : State) : UnitEvent s (restoreLineBody b s).1 := by
  unfold restoreLineBody
  (repeat' split) <;> simp

theorem unitEvent_liftSettle_setLGroup (s : State) (g : Fin 3) (x : LGroup) :
    UnitEvent s (liftSettle s (s.setLGroup g x)) :=
  unitEvent_liftNotices rfl

theorem recallGroupBody_unitEvent {b : Byte} (s : State) : UnitEvent s (recallGroupBody b s).1 := by
  unfold recallGroupBody
  (repeat' split) <;> simp [unitEvent_liftSettle_setLGroup]

theorem releaseGroupBody_unitEvent {b : Byte} (s : State) : UnitEvent s (releaseGroupBody b s).1 := by
  unfold releaseGroupBody
  (repeat' split) <;> simp [unitEvent_liftSettle_setLGroup]

theorem carReportBody_unitEvent {p : Fin 4} {c x m d v : Byte} (s : State) :
    UnitEvent s (carReportBody p c x m d v s).1 := by
  have hr (c : Fin 12) (r : Report) : UnitEvent s (takeReport c r s) := unitEvent_liftNotices rfl
  unfold carReportBody
  dsimp only
  (repeat' split) <;> simp [hr]

/-- An event of one circuit is one of the door unit that touches no group. -/
theorem unitEvent_doorNotices_setDoor (s : State) (c : Fin 32) (d : Door) :
    UnitEvent s (doorNotices s (s.setDoor c d)) :=
  unitEvent_doorNotices rfl fun _ => ⟨rfl, rfl⟩

theorem clearDoorFaultBody_unitEvent {b : Byte} (s : State) : UnitEvent s (clearDoorFaultBody b s).1 := by
  unfold clearDoorFaultBody
  (repeat' split) <;> simp [unitEvent_doorNotices_setDoor]

theorem storeWriteBody_unitEvent {p : Fin 4} {k n e : Byte} {im : Image} (s : State) :
    UnitEvent s (storeWriteBody p k n e im s).1 := by
  have hb (b : StoreBusy) : UnitEvent s { s with busy := some b } := unitEvent_of_frame rfl
  unfold storeWriteBody storeWriteRecord
  (repeat' split) <;> simp [hb]

/-! ### The announcement router -/

theorem announcementsChanged_removeEntry (s : State) (sl : Fin 16) : AnnouncementsChanged s (removeEntry sl s) := by
  unfold removeEntry
  dsimp only
  (repeat' split) <;> rfl

theorem announcementsChanged_countPlay (s : State) (c : Fin 4) : AnnouncementsChanged s (countPlay c s) := by
  unfold countPlay
  (repeat' split) <;> rfl

theorem AnnouncementsChanged.trans {s t u : State} (h : AnnouncementsChanged s t) (k : AnnouncementsChanged t u) :
    AnnouncementsChanged s u := by
  unfold AnnouncementsChanged at h k ⊢
  rw [k, h]

/-- A channel whose entry is removed keeps its voice lapse (R149, R162). -/
theorem removeEntry_lapse (s : State) (sl : Fin 16) (c : Fin 4) :
    (removeEntry sl s).channels[c].lapse = s.channels[c].lapse := by
  unfold removeEntry
  dsimp only
  (repeat' split)
  · rfl
  · rfl
  · rw [setChannel_channels, getElem_set_fin]
    split
    · next e => subst e; rfl
    · rfl

theorem removeEntry_unitEvent (s : State) (sl : Fin 16) : UnitEvent s (removeEntry sl s) where
  load := by simp
  config := by simp
  regime := by simp [OnlyTroubles]
  status f := by simp
  override g := by simp
  groupState g := by simp
  resecure := by simp
  stagger := by simp
  trouble h0 := by
    have hd : anyDoorTrouble (removeEntry sl s) = anyDoorTrouble s :=
      anyDoorTrouble_of_eq (by simp) (by simp) (by simp)
    have hl : anyLiftTrouble (removeEntry sl s) = anyLiftTrouble s := anyLiftTrouble_congr (by simp) (by simp)
    have hv : anyVoiceTrouble (removeEntry sl s) = anyVoiceTrouble s := anyVoiceTrouble_congr (removeEntry_lapse s sl)
    rw [troubleInv_iff] at h0 ⊢
    simp [standing, hd, hl, hv, h0]

/-- A post makes room in the queue and creates its entry (R145). -/
theorem postJudged_unitEvent {p : Fin 4} {k : AnnClass} {m : Byte} {fs : FloorSet} {n : Nat} (s : State) :
    UnitEvent s (postJudged p k m fs n s).1 := by
  have room {u : State} (h : roomFor k s = some u) : UnitEvent s u ∧ AnnouncementsChanged s u := by
    unfold roomFor at h
    split at h
    · cases h
      exact ⟨.refl s, rfl⟩
    · split at h
      · obtain ⟨sl, -, rfl⟩ := Option.map_eq_some_iff.mp h
        exact ⟨removeEntry_unitEvent s sl, announcementsChanged_removeEntry s sl⟩
      all_goals cases h
  unfold postJudged
  split
  · exact .refl s
  · split
    · exact .refl s
    · split
      · exact .refl s
      · next u hu =>
        obtain ⟨hkept, hroom⟩ := room hu
        rw [accept_state]
        unfold postEntry
        split
        · exact hkept
        · next sl _ =>
          have hc : AnnouncementsChanged u (createEntry sl k m (trimmed k s fs) n (some p) u) := rfl
          exact unitEvent_routerFinish (hroom.trans hc)

theorem postBody_unitEvent {p : Fin 4} {k m : Byte} {fs : FloorSet} {n : Byte} (s : State) :
    UnitEvent s (postBody p k m fs n s).1 := by
  unfold postBody
  (repeat' split) <;> simp [postJudged_unitEvent]

theorem cancelBody_unitEvent {p : Fin 4} {sl m : Byte} (s : State) : UnitEvent s (cancelBody p sl m s).1 := by
  have hr (sl : Fin 16) : UnitEvent s (routerFinish s (removeEntry sl s)) :=
    unitEvent_routerFinish (announcementsChanged_removeEntry s sl)
  unfold cancelBody
  (repeat' split) <;> simp [hr]

theorem playEnded_unitEvent (s : State) (c : Fin 4) : UnitEvent s (playEnded c s) := by
  have hl : AnnouncementsChanged s (setLapse c false s) := rfl
  unfold playEnded
  dsimp only
  split
  · exact unitEvent_routerFinish (hl.trans (announcementsChanged_countPlay _ c))
  · exact unitEvent_routerFinish rfl
  · exact .refl s

theorem playEndBody_unitEvent {p : Fin 4} {c m : Byte} (s : State) : UnitEvent s (playEndBody p c m s).1 := by
  unfold playEndBody
  (repeat' split) <;> simp [playEnded_unitEvent]

/-! ## The steps -/

/-- The steps that move the regime, the holder of control or the door groups' demand, and those that begin and end the
start-up load. -/
def regimeActs : Instr → Bool
  | .powerOnReset | .startUpLoadEnd | .restart _ => true
  | .zoneLineSlotCompletion .. | .retardExpiry _ | .resetRegime _ => true
  | .holdTimerExpiry | .silenceInhibitExpiry | .spreadExpiry => true
  | .portReset _ | .takeControl _ | .releaseControl _ => true
  | .acknowledge _ | .silence _ | .resound _ | .evacuateAll _ | .spreadHold _ | .spreadResume _ => true
  | .staggerExpiry | .doorOverride .. => true
  | _ => false

/-- Every other step is an event of one unit. -/
theorem exec_unitEvent {i : Instr} {s t : State} (hi : regimeActs i = false) (h : exec i s = .next t) :
    UnitEvent s t := by
  cases i with
  | powerOnReset | startUpLoadEnd | restart | zoneLineSlotCompletion | retardExpiry | resetRegime | holdTimerExpiry
  | silenceInhibitExpiry | spreadExpiry | portReset | takeControl | releaseControl | acknowledge | silence | resound
  | evacuateAll | spreadHold | spreadResume | staggerExpiry | doorOverride => cases hi
  | doorSenseSlotCompletion =>
    refine of_next h (.ite ?_)
    dsimp only
    split
    · exact unitEvent_doorNotices rfl fun _ => ⟨rfl, rfl⟩
    · exact unitEvent_of_frame rfl
  | resetExpiry | settleExpiry => exact of_next h (.ite (unitEvent_of_frame rfl))
  | windowExpiry g =>
    have hg : UnitEvent s (s.setPGroup g groupIdle) := unitEvent_of_frame rfl
    exact of_next h (.ite (hg.trans
      (foldl_relates .refl .trans (fun u i => .ite (unitEvent_changeLine ..)) _ _)))
  | carReportTimeout => exact of_next h (.ite (unitEvent_liftNotices rfl))
  | openWaitExpiry g =>
    refine of_next h (.ite (unitEvent_doorNotices rfl fun k => ?_))
    rw [setDGroup_dgroups, getElem_set_fin]
    split
    · next e => subst e; exact ⟨rfl, rfl⟩
    · exact ⟨rfl, rfl⟩
  | coolDownExpiry => exact of_next h (.ite (unitEvent_doorNotices_setDoor ..))
  | stopTimerExpiry => exact of_next h (.ite (unitEvent_routerFinish rfl))
  | playTimerExpiry c =>
    have hl (u : State) : AnnouncementsChanged u (setLapse c true u) := rfl
    exact of_next h (.ite (unitEvent_routerFinish ((announcementsChanged_countPlay s c).trans (hl _))))
  | chainRefreshExpiry =>
    refine of_next h (.ite (unitEvent_of_frame ?_))
    unfold beginShift
    split <;> rfl
  | routingShiftComplete =>
    refine of_next h ?_
    split
    · exact .refl s
    · refine .ite (unitEvent_of_frame ?_)
      unfold shiftEnds beginShift
      (repeat' split) <;> rfl
  | storeWriteCompletion =>
    refine of_next h ?_
    split
    · exact .refl s
    · exact .ite (unitEvent_writeEnds ..)
  | enableInputDrop =>
    refine of_next h ?_
    have hd : UnitEvent s { s with enable := false } := unitEvent_of_frame rfl
    split
    · exact hd
    · exact hd.trans (unitEvent_writeEnds ..)
  | enableInputAssert => exact of_next h (unitEvent_of_frame rfl)
  | frameBegin => exact of_next h (.ite (unitEvent_setPort ..))
  | frameEnd => exact of_next h (unitEvent_of_frame rfl)
  | unknownCommand =>
    refine of_next h ?_
    split
    · exact .refl s
    · exact unitEvent_command fun u => .refl u
  | readWordShifted =>
    refine of_next h ?_
    split
    · exact unitEvent_setPort ..
    · exact unitEvent_of_frame rfl
    all_goals exact .refl s
  | noticesReplyComplete =>
    refine of_next h ?_
    split
    · exact unitEvent_setPort ..
    all_goals exact .refl s
  | select => exact of_next h (unitEvent_command selectBody_unitEvent)
  | window => exact of_next h (unitEvent_command windowBody_unitEvent)
  | read => exact of_next h (unitEvent_command fun u => unitEvent_setPort u _ _)
  | status => exact of_next h (unitEvent_command fun u => unitEvent_setPort u _ _)
  | notices => exact of_next h (unitEvent_command (unitEvent_afterLoad fun u => unitEvent_setPort u _ _))
  | mask => exact of_next h (unitEvent_command (unitEvent_afterLoad maskBody_unitEvent))
  | carReport => exact of_next h (unitEvent_command (unitEvent_afterLoad carReportBody_unitEvent))
  | postAnnouncement => exact of_next h (unitEvent_command (unitEvent_afterLoad postBody_unitEvent))
  | cancelAnnouncement => exact of_next h (unitEvent_command (unitEvent_afterLoad cancelBody_unitEvent))
  | playEnd => exact of_next h (unitEvent_command (unitEvent_afterLoad playEndBody_unitEvent))
  | storeWrite => exact of_next h (unitEvent_command (unitEvent_afterLoad storeWriteBody_unitEvent))
  | checkConfig => exact of_next h (unitEvent_command (unitEvent_afterLoad checkConfigBody_unitEvent))
  | isolateLine => exact of_next h (unitEvent_command (unitEvent_controlled isolateLineBody_unitEvent))
  | restoreLine => exact of_next h (unitEvent_command (unitEvent_controlled restoreLineBody_unitEvent))
  | recallGroup => exact of_next h (unitEvent_command (unitEvent_controlled recallGroupBody_unitEvent))
  | releaseGroup => exact of_next h (unitEvent_command (unitEvent_controlled releaseGroupBody_unitEvent))
  | clearDoorFault => exact of_next h (unitEvent_command (unitEvent_controlled clearDoorFaultBody_unitEvent))

end Sys2Proof.Machine
end


section
/-! SUPPORT. Every step keeps the trouble summary at the standing troubles (O21). -/

namespace Sys2Proof.Machine

/-! ## The work of every unit -/

section
variable (s0 s : State)

theorem liftSettle_trouble :
    (liftSettle s0 s).regime.trouble =
      { s.regime.trouble with
        lifts := summaryFlag s.regime.trouble.lifts (anyLiftTrouble s0) (anyLiftTrouble (liftSettle s0 s)) } := by
  simp [liftSettle, liftNotices_trouble]

theorem doorSettle_trouble :
    (doorSettle s0 s).regime.trouble =
      { s.regime.trouble with
        doors := summaryFlag s.regime.trouble.doors (anyDoorTrouble s0) (anyDoorTrouble (doorSettle s0 s)) } := by
  simp [doorSettle, doorNotices_trouble]

theorem routerSettle_trouble :
    (routerSettle s0 s).regime.trouble =
      { s.regime.trouble with
        voice := summaryFlag s.regime.trouble.voice (anyVoiceTrouble s0) (anyVoiceTrouble (routerSettle s0 s)) } := by
  simp [routerSettle, routerFinish_trouble]

theorem floorSettle_trouble : (floorSettle s0 s).regime.trouble = s.regime.trouble := by
  rw [floorSettle_regime, spreadStop_regime]
  simp

/-- The work of every unit sets the flags of the lifts, the doors and the voices, each by its own unit's troubles. -/
theorem settle_trouble :
    (settle s0 s).regime.trouble =
      { s.regime.trouble with
        doors := summaryFlag s.regime.trouble.doors (anyDoorTrouble s0) (anyDoorTrouble (settle s0 s))
        lifts := summaryFlag s.regime.trouble.lifts (anyLiftTrouble s0) (anyLiftTrouble (settle s0 s))
        voice := summaryFlag s.regime.trouble.voice (anyVoiceTrouble s0) (anyVoiceTrouble (settle s0 s)) } := by
  have hl : anyLiftTrouble (settle s0 s) = anyLiftTrouble (liftSettle s0 (floorSettle s0 s)) :=
    anyLiftTrouble_congr (by simp) (by simp [settle])
  have hd : anyDoorTrouble (settle s0 s) = anyDoorTrouble (doorSettle s0 (liftSettle s0 (floorSettle s0 s))) :=
    anyDoorTrouble_of_eq (by simp) (by simp [settle]) (by simp [settle])
  rw [hl, hd, settle, routerSettle_trouble, doorSettle_trouble, liftSettle_trouble, floorSettle_trouble]

end

section
variable {s0 s : State}

theorem settle_anyLineTrouble : anyLineTrouble (settle s0 s).floors = anyLineTrouble s.floors := by
  refine anyLineTrouble_congr fun f => ?_
  rw [settle_floor, deriveFloors_floor]

/-- The flags follow an event of the regime that begins with the flags of the state before it, but for the lines flag,
which the event has set already. -/
theorem troubleInv_settle (h0 : TroubleInv s0)
    (hr : s.regime.trouble = { s0.regime.trouble with lines := anyLineTrouble s.floors })
    (hs : s.store = s0.store) : TroubleInv (settle s0 s) := by
  rw [troubleInv_iff] at h0 ⊢
  rw [settle_trouble, hr, h0]
  simp [standing, summaryFlag_follows, settle_anyLineTrouble, hs]

/-- The same where the event has touched no floor count. -/
theorem troubleInv_settle_of_kept (h0 : TroubleInv s0) (hr : s.regime.trouble = s0.regime.trouble)
    (hf : s.floors = s0.floors) (hs : s.store = s0.store) : TroubleInv (settle s0 s) := by
  refine troubleInv_settle h0 ?_ hs
  obtain ⟨hlines, -⟩ := h0
  rw [hr, hf, ← hlines]

/-! ## Events that leave the units alone -/

/-- An event that changes the regime record but for the trouble summary, and the ports. -/
theorem TroubleInv.of_record {t : State} (h : TroubleInv s)
    (ht : t = { s with regime := t.regime, ports := t.ports, free := t.free, pending := t.pending })
    (hr : t.regime.trouble = s.regime.trouble) : TroubleInv t := by
  rw [troubleInv_iff] at h ⊢
  have hst : standing t = standing s := by rw [ht]; rfl
  rw [hr, h, hst]

/-! ## The line scanner -/

/-- A fire line moves the regime and leaves the trouble summary (R66). -/
theorem fireLine_trouble (i : Fin 64) (s : State) : (fireLine i s).regime.trouble = s.regime.trouble := by
  unfold fireLine
  (repeat' split) <;> simp [enterHold, enterActive, activeRegime]

/-- The flags follow the event of a line, which sets the lines flag first (R66). -/
theorem TroubleInv.lineEvent (h : TroubleInv s) (i : Fin 64) (l : Line) : TroubleInv (lineEvent i l s) := by
  have hc : TroubleInv (changeLine i l s) := (unitEvent_changeLine i l s).trouble h
  unfold Machine.lineEvent
  dsimp only
  split
  · refine troubleInv_settle h ?_ (by simp)
    obtain ⟨hlines, -⟩ := hc
    have hfl : (fireLine i (changeLine i l s)).floors = (changeLine i l s).floors := by simp
    rw [fireLine_trouble, hfl, ← hlines, changeLine_regime]
  · exact hc

theorem TroubleInv.takeSample (h : TroubleInv s) (i : Fin 64) (code : BitVec 10) :
    TroubleInv (takeSample i code s) := by
  obtain e | e | e := takeSample_cases i code s <;> rw [e]
  · exact (unitEvent_of_frame rfl).trouble h
  · exact h.lineEvent i _
  · have hg : TroubleInv (s.setPGroup s.config.lines[i].powerGroup groupReset) := (unitEvent_of_frame rfl).trouble h
    exact hg.lineEvent i _

/-- The lines of RESET REGIME set the lines flag one after another, and the other units follow at the end (R84). -/
theorem TroubleInv.resetRegime (h : TroubleInv s) : TroubleInv (resetRegime s) := by
  have he : UnitEvent s (resetEachLine s) :=
    foldl_relates .refl .trans (fun u i => unitEvent_changeLine i _ u) _ _
  have hr := (troubleInv_iff _).mp (he.trouble h)
  have hs := (troubleInv_iff s).mp h
  have hd : anyDoorTrouble (resetEachLine s) = anyDoorTrouble s :=
    anyDoorTrouble_of_eq (by simp) (by simp) (by simp)
  have hl : anyLiftTrouble (resetEachLine s) = anyLiftTrouble s := anyLiftTrouble_congr (by simp) (by simp)
  have hv : anyVoiceTrouble (resetEachLine s) = anyVoiceTrouble s := anyVoiceTrouble_congr (by simp)
  have hf : (regimeReturned s).floors = (resetEachLine s).floors := by simp [regimeReturned, resetLines]
  refine troubleInv_settle h ?_ (by simp)
  rw [← regimeReturned, regimeReturned_regime, hf, hs, hr]
  simp [standing, hd, hl, hv]

/-! ## The commands and the expiries of the regime -/

/-- Taking or releasing control leaves the trouble summary (R44). -/
theorem TroubleInv.setHolder (h : TroubleInv s) (p : Option (Fin 4)) : TroubleInv (setHolder p s) :=
  h.of_record rfl rfl

/-- The REGIME notice changes the ports alone. -/
theorem regimeNotice_eq_with (s0 s : State) :
    regimeNotice s0 s = { s with ports := (regimeNotice s0 s).ports } := by
  unfold regimeNotice raiseIf
  split <;> rfl

/-- A change of the regime record that reaches no other unit. -/
theorem TroubleInv.regimeNotice (h : TroubleInv s) {g : Regime} (hg : g.trouble = s.regime.trouble) :
    TroubleInv (regimeNotice s (s.setRegime g)) := by
  have he := regimeNotice_eq_with s (s.setRegime g)
  refine h.of_record ?_ ?_
  · rw [he]; rfl
  · rw [he]; exact hg

/-- The voice flag follows the router's work at a change of the regime record (R146, R162). -/
theorem TroubleInv.routerSettle (h : TroubleInv s) {g : Regime} (hg : g.trouble = s.regime.trouble) :
    TroubleInv (routerSettle s (s.setRegime g)) := by
  have hd : anyDoorTrouble (Machine.routerSettle s (s.setRegime g)) = anyDoorTrouble s :=
    anyDoorTrouble_of_eq (by simp) (by simp) (by simp)
  have hl : anyLiftTrouble (Machine.routerSettle s (s.setRegime g)) = anyLiftTrouble s :=
    anyLiftTrouble_congr (by simp) (by simp)
  have hf : anyLineTrouble (Machine.routerSettle s (s.setRegime g)).floors = anyLineTrouble s.floors :=
    anyLineTrouble_congr fun f => by rw [routerSettle_floor]; rfl
  rw [troubleInv_iff] at h ⊢
  rw [routerSettle_trouble, setRegime_regime, hg, h]
  simp [standing, summaryFlag_follows, hd, hl, hf]

/-- Silencing is an event of the router, and the REGIME notice leaves the record (R57, R58). -/
theorem TroubleInv.setSilenced (h : TroubleInv s) (b : Bool) : TroubleInv (setSilenced b s) := by
  have hw : TroubleInv (Machine.routerSettle s (s.setRegime { s.regime with silenced := b })) := h.routerSettle rfl
  rw [Machine.setSilenced, regimeNotice_eq_with]
  exact hw

theorem TroubleInv.acknowledgeBody (h : TroubleInv s) : TroubleInv (acknowledgeBody s).1 := by
  unfold Machine.acknowledgeBody
  split
  · split
    · exact troubleInv_settle_of_kept h rfl rfl rfl
    · exact h.regimeNotice rfl
  all_goals exact h

theorem TroubleInv.evacuateAllBody (h : TroubleInv s) : TroubleInv (evacuateAllBody s).1 := by
  unfold Machine.evacuateAllBody
  dsimp only
  split
  · exact troubleInv_settle_of_kept h (by simp [enterActive, activeRegime]) (by simp) (by simp)
  · exact troubleInv_settle_of_kept h rfl rfl rfl
  · exact troubleInv_settle_of_kept h rfl rfl rfl
  · split
    · exact h
    · exact troubleInv_settle_of_kept h rfl rfl rfl

theorem TroubleInv.takeControlBody (h : TroubleInv s) (p : Fin 4) : TroubleInv (takeControlBody p s).1 := by
  unfold Machine.takeControlBody
  (repeat' split) <;> simp [h, h.setHolder]

theorem TroubleInv.silenceBody (h : TroubleInv s) : TroubleInv (silenceBody s).1 := by
  unfold Machine.silenceBody
  (repeat' split) <;> simp [h, h.setSilenced]

theorem TroubleInv.resoundBody (h : TroubleInv s) : TroubleInv (resoundBody s).1 := by
  unfold Machine.resoundBody
  split <;> simp [h, h.setSilenced]

theorem TroubleInv.spreadHoldBody (h : TroubleInv s) : TroubleInv (spreadHoldBody s).1 := by
  unfold Machine.spreadHoldBody
  (repeat' split) <;> simp [h, h.regimeNotice]

theorem TroubleInv.spreadResumeBody (h : TroubleInv s) : TroubleInv (spreadResumeBody s).1 := by
  unfold Machine.spreadResumeBody
  split <;> simp [h, h.regimeNotice]

theorem TroubleInv.resetRegimeBody (h : TroubleInv s) : TroubleInv (resetRegimeBody s).1 := by
  unfold Machine.resetRegimeBody
  split <;> simp [h, h.resetRegime]

/-! ## The door unit -/

/-- The head of the re-secure queue is taken with the doors flag after it (R120, R134). -/
theorem TroubleInv.takeHead (h : TroubleInv s) (g : Fin 16) (rest : List (Fin 16)) (n : Option Nat) :
    TroubleInv (doorNotices s (takeHead g rest { s with stagger := n })) := by
  refine troubleInv_doorNotices h ?_ ?_
  · simp
  · unfold Machine.takeHead
    dsimp only
    split <;> rfl

theorem TroubleInv.doorOverrideBody (h : TroubleInv s) (g o : Byte) : TroubleInv (doorOverrideBody g o s).1 := by
  have hj (k : Fin 16) (x : DGroup) : TroubleInv (doorNotices s (judgeDemand (s.setDGroup k x) k)) := by
    refine troubleInv_doorNotices h (by simp) ?_
    obtain e | e | e := judgeDemand_cases (s.setDGroup k x) k <;> rw [e] <;> rfl
  unfold Machine.doorOverrideBody overrideGroup
  (repeat' split) <;> simp [h, hj]

/-! ## Power and load -/

/-- At a power-on reset no unit but the store has a standing trouble (R191). -/
theorem troubleInv_powerOn (s : State) : TroubleInv (powerOn s) := by
  have hf : anyLineTrouble (powerOn s).floors = false := by
    rw [anyLineTrouble, ← Bool.not_eq_true, any_toList_iff]
    simp [powerOn, floorReset]
  have hd : anyDoorTrouble (powerOn s) = false := by
    simp [anyDoorTrouble, latchTrouble, openTrouble, notSecuredTrouble, powerOn, doorReset, dgroupReset]
  have hl : anyLiftTrouble (powerOn s) = false := by
    simp [anyLiftTrouble, carInTrouble, powerOn, carReset]
  have hv : anyVoiceTrouble (powerOn s) = false := by
    rw [anyVoiceTrouble, ← Bool.not_eq_true, any_toList_iff]
    simp [powerOn, channelReset]
  rw [troubleInv_iff, standing, hf, hd, hl, hv]
  rfl

/-- The end of the load begins and ends no trouble (R192). -/
theorem TroubleInv.startUp (h : TroubleInv s) : TroubleInv (startUp s) := by
  have hd : anyDoorTrouble (startBlocks s) = anyDoorTrouble s := by
    refine anyDoorTrouble_congr rfl (fun _ => ⟨rfl, rfl⟩) fun g => ?_
    have hg : (startBlocks s).dgroups[g] = startDGroup s g := getElem_tabulate _ _ _
    rw [hg, startDGroup]
    split <;> rfl
  have hl : anyLiftTrouble (startBlocks s) = anyLiftTrouble s := by
    refine anyLiftTrouble_congr rfl fun c => ?_
    have hc : (startBlocks s).cars[c] = startCar s c := getElem_tabulate _ _ _
    rw [hc, startCar]
    split <;> rfl
  have hb : TroubleInv (startBlocks s) := by
    rw [troubleInv_iff] at h ⊢
    rw [standing, hd, hl]
    exact h
  rw [startUp_eq_with]
  exact hb

theorem TroubleInv.restartBody (h : TroubleInv s) (p : Fin 4) : TroubleInv (restartBody p s).1 := by
  unfold Machine.restartBody setConflict
  (repeat' split) <;> simp [h, troubleInv_powerOn, (unitEvent_setPort s p _).trouble h]

/-- One millisecond begins and ends no trouble. -/
theorem TroubleInv.tick (h : TroubleInv s) : TroubleInv (tick s) := by
  have hd : anyDoorTrouble (Machine.tick s) = anyDoorTrouble s :=
    anyDoorTrouble_congr rfl (fun c => by rw [tick_door]; exact ⟨rfl, rfl⟩) fun g => by rw [tick_dgroup]
  have hl : anyLiftTrouble (Machine.tick s) = anyLiftTrouble s :=
    anyLiftTrouble_congr rfl fun c => by rw [tick_car]
  have hv : anyVoiceTrouble (Machine.tick s) = anyVoiceTrouble s :=
    anyVoiceTrouble_congr fun c => by rw [tick_channel]; rfl
  rw [troubleInv_iff] at h ⊢
  rw [standing, hd, hl, hv]
  exact h

/-! ## Every step -/

theorem TroubleInv.command {p : Fin 4} {bytes : List Byte} {body : State → State × Result} (h : TroubleInv s)
    (hbody : ∀ u, TroubleInv u → TroubleInv (body u).1) : TroubleInv (command p bytes body s) :=
  command_preserves id hbody (fun _ _ => id) h

theorem TroubleInv.controlled {p : Fin 4} {bytes : List Byte} {body : State → State × Result} (h : TroubleInv s)
    (hbody : ∀ u, TroubleInv u → TroubleInv (body u).1) :
    TroubleInv (Machine.command p bytes (Machine.controlled p body) s) :=
  h.command fun u hu => controlled_preserves (fun _ => hbody u hu) hu

end

theorem exec_keeps_troubleInv {i : Instr} {s t : State} (hs : TroubleInv s) (h : exec i s = .next t) :
    TroubleInv t := by
  cases hi : regimeActs i with
  | false => exact (exec_unitEvent hi h).trouble hs
  | true =>
    cases i with
    | powerOnReset => exact of_next h (troubleInv_powerOn s)
    | startUpLoadEnd =>
      refine of_next h ?_
      split
      · exact hs.startUp
      · exact hs
    | restart p => exact of_next h (hs.controlled fun u hu => hu.restartBody p)
    | zoneLineSlotCompletion i code =>
      refine of_next h ?_
      have hc : TroubleInv (codeStored i code s) := (unitEvent_of_frame rfl).trouble hs
      split
      · dsimp only
        split
        · exact hc.takeSample i code
        · exact hc
      · exact hs
    | retardExpiry i =>
      refine of_next h ?_
      split
      · exact hs.lineEvent i _
      · exact hs
    | resetRegime => exact of_next h (hs.controlled fun u hu => hu.resetRegimeBody)
    | holdTimerExpiry | spreadExpiry =>
      refine of_next h ?_
      split
      · exact troubleInv_settle_of_kept hs rfl rfl rfl
      · exact hs
    | silenceInhibitExpiry =>
      refine of_next h ?_
      split
      · exact hs.of_record rfl rfl
      · exact hs
    | portReset x =>
      refine of_next h ?_
      dsimp only
      split
      · exact hs.of_record rfl rfl
      · exact hs
    | takeControl p => exact of_next h (hs.command fun u hu => afterLoad_preserves (fun _ => hu.takeControlBody p) hu)
    | releaseControl => exact of_next h (hs.controlled fun u hu => hu.setHolder none)
    | acknowledge => exact of_next h (hs.controlled fun u hu => hu.acknowledgeBody)
    | silence => exact of_next h (hs.controlled fun u hu => hu.silenceBody)
    | resound => exact of_next h (hs.controlled fun u hu => hu.resoundBody)
    | evacuateAll => exact of_next h (hs.controlled fun u hu => hu.evacuateAllBody)
    | spreadHold => exact of_next h (hs.controlled fun u hu => hu.spreadHoldBody)
    | spreadResume => exact of_next h (hs.controlled fun u hu => hu.spreadResumeBody)
    | staggerExpiry =>
      refine of_next h ?_
      split
      · split
        · exact hs
        · exact hs.takeHead _ _ _
      · exact hs
    | doorOverride p g o => exact of_next h (hs.controlled fun u hu => hu.doorOverrideBody g o)
    | _ => cases hi

/-- Settles O21: the events of one unit set its flag, the work of every unit sets three of them, and one millisecond
begins and ends no trouble. -/
theorem stepKeepsTroubleFlags : Obligations.StepKeepsTroubleFlags := by
  intro s t hs h
  unfold step at h
  split at h
  · exact of_next h hs.tick
  · next i rest _ =>
    have hrest : TroubleInv { s with pending := rest } := hs
    exact exec_keeps_troubleInv hrest h

end Sys2Proof.Machine
end


section
/-! SUPPORT. Every step keeps the law of the regime record, and console control with a CONSOLE port or with none (O11). -/

namespace Sys2Proof.Machine

/-! ## The law as one of the regime record -/

/-- The law of the regime record, of the record alone (R43, R56, R59, R60, R61). -/
structure RegimeGood (g : Regime) : Prop where
  hold : g.hold.isSome = true ↔ g.state = .holdAck ∨ g.state = .holdInvestigate
  firstAlarm : g.state = .quiet → g.firstAlarm = none
  silenced : g.silenced = true → g.state = .active
  inhibit : g.inhibit.isSome = true → g.state = .active
  evacuateAll : g.evacuateAll = true → g.state = .active ∧ g.spread = .stopped
  spread : spreadTime g.spread ≠ none → g.state = .active
  held : g.spreadHeld = true ↔ spreadCode g.spread = 1

theorem regimeInv_iff (s : State) : RegimeInv s ↔ RegimeGood s.regime :=
  ⟨fun ⟨h1, h2, h3, h4, h5, h6, h7⟩ => ⟨h1, h2, h3, h4, h5, h6, h7⟩,
    fun ⟨h1, h2, h3, h4, h5, h6, h7⟩ => ⟨h1, h2, h3, h4, h5, h6, h7⟩⟩

section
variable {g h : Regime}

theorem RegimeGood.of_onlyTroubles (hg : RegimeGood g) (ht : OnlyTroubles g h) : RegimeGood h := by
  rw [ht]
  obtain ⟨h1, h2, h3, h4, h5, h6, h7⟩ := hg
  exact ⟨h1, h2, h3, h4, h5, h6, h7⟩

/-- The law does not speak of the holder (R44). -/
theorem RegimeGood.with_holder (hg : RegimeGood g) (p : Option (Fin 4)) : RegimeGood { g with holder := p } := by
  obtain ⟨h1, h2, h3, h4, h5, h6, h7⟩ := hg
  exact ⟨h1, h2, h3, h4, h5, h6, h7⟩

/-- Whatever stood in it, a record in ACTIVE whose hold timer does not run is good when its spread timer is stopped
under evacuate-all and spread-held tells whether it is frozen. -/
theorem regimeGood_of_active (hs : g.state = .active) (hh : g.hold = none)
    (he : g.evacuateAll = true → g.spread = .stopped) (hf : g.spreadHeld = true ↔ spreadCode g.spread = 1) :
    RegimeGood g where
  hold := by simp [hs, hh]
  firstAlarm hq := by simp [hs] at hq
  silenced _ := hs
  inhibit _ := hs
  evacuateAll hv := ⟨hs, he hv⟩
  spread _ := hs
  held := hf

theorem RegimeGood.hold_none (hg : RegimeGood g) (hs : g.state = .active) : g.hold = none := by
  have hn : ¬ g.hold.isSome = true := fun hh => by simpa [hs] using hg.hold.mp hh
  simpa using hn

/-! ## The record after each change of the regime -/

theorem spreadCode_spreadStart_ne_one (n : Nat) : spreadCode (spreadStart n) ≠ 1 := by
  unfold spreadStart
  split <;> nofun

/-- Entry to ACTIVE starts every timer anew, from any record (R50). -/
theorem regimeGood_activeRegime (sys : SystemCfg) (g : Regime) : RegimeGood (activeRegime sys g) := by
  refine regimeGood_of_active rfl rfl (fun he => if_pos he) ?_
  simp only [activeRegime, Bool.false_eq_true, false_iff]
  split
  · nofun
  · exact spreadCode_spreadStart_ne_one _

/-- The spread timer may stop with spread-held at any moment in ACTIVE (R59, R78). -/
theorem RegimeGood.stop (hg : RegimeGood g) (hs : g.state = .active) (b : Bool) :
    RegimeGood { g with evacuateAll := b, spread := .stopped, spreadHeld := false } :=
  regimeGood_of_active hs (hg.hold_none hs) (fun _ => rfl) (by simp [spreadCode])

/-- In ACTIVE silenced is free (R57, R58). -/
theorem RegimeGood.with_silenced (hg : RegimeGood g) (hs : g.state = .active) (b : Bool) :
    RegimeGood { g with silenced := b } :=
  regimeGood_of_active hs (hg.hold_none hs) (fun he => (hg.evacuateAll he).2) hg.held

/-- A spread timer that runs out in ACTIVE starts again, evacuate-all being clear (R77). -/
theorem RegimeGood.spreadExpired (hg : RegimeGood g) (hd : g.spread = .running 0) (r n : Nat) :
    RegimeGood { g with r := r, spread := spreadStart n } := by
  have hs : g.state = .active := hg.spread (by simp [hd, spreadTime])
  have hheld : g.spreadHeld = false := by simpa [hd, spreadCode] using hg.held
  have he : g.evacuateAll = false := by
    cases hev : g.evacuateAll with
    | false => rfl
    | true => have := (hg.evacuateAll hev).2; rw [hd] at this; cases this
  refine regimeGood_of_active hs (hg.hold_none hs) (fun hv => by simp [he] at hv) ?_
  simp [hheld, spreadCode_spreadStart_ne_one]

/-- SPREAD HOLD freezes a running timer (R60). -/
theorem RegimeGood.frozen (hg : RegimeGood g) {n : Nat} (hr : g.spread = .running n) :
    RegimeGood { g with spread := .frozen n, spreadHeld := true } := by
  have hs : g.state = .active := hg.spread (by simp [hr, spreadTime])
  refine regimeGood_of_active hs (hg.hold_none hs) (fun hv => ?_) (by simp [spreadCode])
  have hstop := (hg.evacuateAll hv).2
  rw [hr] at hstop
  cases hstop

/-- SPREAD RESUME runs a frozen timer on (R61). -/
theorem RegimeGood.thawed (hg : RegimeGood g) (hs : g.state = .active) :
    RegimeGood { g with spread := thaw g.spread, spreadHeld := false } := by
  refine regimeGood_of_active hs (hg.hold_none hs) (fun hv => ?_) ?_
  · show thaw g.spread = .stopped
    rw [(hg.evacuateAll hv).2]
    rfl
  · show _ ↔ spreadCode (thaw g.spread) = 1
    cases g.spread <;> simp [thaw, spreadCode]

/-- A hold timer that starts in a state that holds (R49, R52). -/
theorem RegimeGood.held_in (hg : RegimeGood g) (hs : g.state ≠ .active) {k : RegimeState} (a : Option (Fin 64))
    (hk : k = .holdAck ∨ k = .holdInvestigate) (n : Nat) :
    RegimeGood { g with state := k, firstAlarm := a, hold := some n } where
  hold := by simpa using hk
  firstAlarm hq := by obtain rfl | rfl := hk <;> cases hq
  silenced h := absurd (hg.silenced h) hs
  inhibit h := absurd (hg.inhibit h) hs
  evacuateAll h := absurd (hg.evacuateAll h).1 hs
  spread h := absurd (hg.spread h) hs
  held := hg.held

theorem regimeGood_quietRegime (g : Regime) : RegimeGood (quietRegime g) := by
  constructor <;> simp [quietRegime, spreadTime, spreadCode]

theorem RegimeGood.inhibit_none (hg : RegimeGood g) : RegimeGood { g with inhibit := none } := by
  obtain ⟨h1, h2, h3, h4, h5, h6, h7⟩ := hg
  exact ⟨h1, h2, h3, nofun, h5, h6, h7⟩

/-- A millisecond starts, stops and freezes no timer. -/
theorem RegimeGood.tick (hg : RegimeGood g) : RegimeGood (tickRegime g) := by
  have hsome (t : Option Nat) : (tickTimer t).isSome = t.isSome := by cases t <;> rfl
  have hcode (t : SpreadTimer) : spreadCode (tickSpread t) = spreadCode t := by cases t <;> rfl
  have htime (t : SpreadTimer) : spreadTime (tickSpread t) ≠ none ↔ spreadTime t ≠ none := by
    cases t <;> simp [tickSpread, spreadTime]
  have hstop (t : SpreadTimer) : t = .stopped → tickSpread t = .stopped := by rintro rfl; rfl
  obtain ⟨h1, h2, h3, h4, h5, h6, h7⟩ := hg
  refine ⟨?_, h2, h3, ?_, fun he => ⟨(h5 he).1, hstop _ (h5 he).2⟩, fun ht => h6 ((htime _).mp ht), ?_⟩
  · simpa [tickRegime, hsome] using h1
  · simpa [tickRegime, hsome] using h4
  · simpa [tickRegime, hcode] using h7

end

/-! ## The events of the regime -/

section
variable {s w : State}

theorem RegimeInv.of_onlyTroubles {t : State} (h : RegimeInv s) (ht : OnlyTroubles s.regime t.regime) :
    RegimeInv t := by
  rw [regimeInv_iff] at h ⊢
  exact h.of_onlyTroubles ht

/-- The work of every unit may stop the spread timer of a regime in ACTIVE (R78). -/
theorem RegimeInv.settle (h : RegimeInv w) (s0 : State) : RegimeInv (settle s0 w) := by
  rw [regimeInv_iff] at h ⊢
  have hstop : RegimeGood (spreadStop (deriveFloors w)).regime := by
    unfold spreadStop
    split
    · next hc =>
      have ha : w.regime.state = .active := by
        simp only [Bool.and_eq_true, beq_iff_eq] at hc
        exact hc.1.1
      exact h.stop ha w.regime.evacuateAll
    · exact h
  exact hstop.of_onlyTroubles (onlyTroubles_settle s0 w)

theorem regimeInv_enterActive (s : State) : RegimeInv (enterActive s) :=
  (regimeInv_iff _).mpr (regimeGood_activeRegime _ _)

theorem RegimeInv.fireLine (h : RegimeInv s) (i : Fin 64) : RegimeInv (fireLine i s) := by
  unfold Machine.fireLine
  split
  · next hq =>
    dsimp only
    split
    · rw [regimeInv_iff] at h ⊢
      exact h.held_in (by simp [hq]) (some i) (.inl rfl) _
    · exact regimeInv_enterActive _
  · exact regimeInv_enterActive _
  · exact regimeInv_enterActive _
  · next ha =>
    rw [regimeInv_iff] at h ⊢
    exact h.with_silenced ha false

theorem RegimeInv.lineEvent (h : RegimeInv s) (i : Fin 64) (l : Line) : RegimeInv (lineEvent i l s) := by
  have hc : RegimeInv (changeLine i l s) := h.of_onlyTroubles (changeLine_onlyTroubles i l s)
  unfold Machine.lineEvent
  dsimp only
  split
  · exact (hc.fireLine i).settle s
  · exact hc

theorem RegimeInv.takeSample (h : RegimeInv s) (i : Fin 64) (code : BitVec 10) : RegimeInv (takeSample i code s) := by
  obtain e | e | e := takeSample_cases i code s <;> rw [e]
  · exact h
  · exact h.lineEvent i _
  · have hg : RegimeInv (s.setPGroup s.config.lines[i].powerGroup groupReset) := h
    exact hg.lineEvent i _

theorem regimeInv_resetRegime (s : State) : RegimeInv (resetRegime s) :=
  ((regimeInv_iff _).mpr (regimeGood_quietRegime _)).settle s

theorem RegimeInv.setHolder (h : RegimeInv s) (p : Option (Fin 4)) : RegimeInv (setHolder p s) := by
  rw [regimeInv_iff] at h ⊢
  exact h.with_holder p

theorem regimeInv_regimeNotice (s0 : State) {g : Regime} (hg : RegimeGood g) :
    RegimeInv (regimeNotice s0 (s.setRegime g)) := by
  rw [regimeNotice_eq_with, regimeInv_iff]
  exact hg

theorem RegimeInv.acknowledgeBody (h : RegimeInv s) : RegimeInv (acknowledgeBody s).1 := by
  unfold Machine.acknowledgeBody
  split
  · next ha =>
    split
    · exact (regimeInv_enterActive s).settle s
    · rw [regimeInv_iff] at h
      exact regimeInv_regimeNotice s (h.held_in (by simp [ha]) _ (.inr rfl) _)
  all_goals exact h

theorem RegimeInv.setSilenced (h : RegimeInv s) (ha : s.regime.state = .active) (b : Bool) :
    RegimeInv (setSilenced b s) := by
  rw [regimeInv_iff] at h
  have hw : RegimeInv (routerSettle s (s.setRegime { s.regime with silenced := b })) :=
    RegimeInv.of_onlyTroubles ((regimeInv_iff _).mpr (h.with_silenced ha b)) (onlyTroubles_routerSettle _ _)
  rw [Machine.setSilenced, regimeNotice_eq_with]
  exact hw

theorem RegimeInv.silenceBody (h : RegimeInv s) : RegimeInv (silenceBody s).1 := by
  unfold Machine.silenceBody
  split
  · next ha =>
    split
    · exact h
    · split
      · exact h
      · exact h.setSilenced ha true
  all_goals exact h

theorem RegimeInv.resoundBody (h : RegimeInv s) : RegimeInv (resoundBody s).1 := by
  unfold Machine.resoundBody
  split
  · next hc => exact h.setSilenced hc.1 false
  · exact h

theorem RegimeInv.evacuateAllBody (h : RegimeInv s) : RegimeInv (evacuateAllBody s).1 := by
  unfold Machine.evacuateAllBody
  dsimp only
  split
  · exact (regimeInv_enterActive _).settle s
  · exact (regimeInv_enterActive _).settle s
  · exact (regimeInv_enterActive _).settle s
  · next ha =>
    split
    · exact h
    · rw [regimeInv_iff] at h
      exact ((regimeInv_iff _).mpr (h.stop ha true)).settle s

theorem RegimeInv.spreadHoldBody (h : RegimeInv s) : RegimeInv (spreadHoldBody s).1 := by
  unfold Machine.spreadHoldBody
  split
  · next hr =>
    split
    · exact h
    · exact regimeInv_regimeNotice s (((regimeInv_iff _).mp h).frozen hr)
  · exact h

theorem RegimeInv.spreadResumeBody (h : RegimeInv s) : RegimeInv (spreadResumeBody s).1 := by
  unfold Machine.spreadResumeBody
  split
  · next hc => exact regimeInv_regimeNotice s (((regimeInv_iff _).mp h).thawed hc.1)
  · exact h

theorem RegimeInv.resetRegimeBody (h : RegimeInv s) : RegimeInv (resetRegimeBody s).1 := by
  unfold Machine.resetRegimeBody
  split <;> simp [h, regimeInv_resetRegime]

theorem RegimeInv.takeControlBody (h : RegimeInv s) (p : Fin 4) : RegimeInv (takeControlBody p s).1 := by
  unfold Machine.takeControlBody
  (repeat' split) <;> simp [h, h.setHolder]

/-- The door unit's work is none of the regime record's but for the doors flag. -/
theorem RegimeInv.doorNotices (h : RegimeInv s) (hw : w.regime = s.regime) : RegimeInv (doorNotices s w) :=
  h.of_onlyTroubles (by rw [OnlyTroubles, doorNotices_regime, hw])

theorem RegimeInv.takeHead (h : RegimeInv s) (g : Fin 16) (rest : List (Fin 16)) (n : Option Nat) :
    RegimeInv (Machine.doorNotices s (takeHead g rest { s with stagger := n })) :=
  h.doorNotices (by simp)

theorem RegimeInv.doorOverrideBody (h : RegimeInv s) (g o : Byte) : RegimeInv (doorOverrideBody g o s).1 := by
  have hj (k : Fin 16) (x : DGroup) :
      RegimeInv (Machine.doorNotices s (judgeDemand (s.setDGroup k x) k)) := h.doorNotices (by simp)
  unfold Machine.doorOverrideBody overrideGroup
  (repeat' split) <;> simp [h, hj]

theorem regimeInv_powerOn (s : State) : RegimeInv (powerOn s) := by
  rw [regimeInv_iff]
  constructor <;> simp [powerOn, regimeReset, spreadTime, spreadCode]

theorem RegimeInv.restartBody (h : RegimeInv s) (p : Fin 4) : RegimeInv (restartBody p s).1 := by
  unfold Machine.restartBody setConflict
  (repeat' split) <;> simp only [accept_state, refuse_state, h, regimeInv_powerOn]
  exact h

theorem RegimeInv.command {p : Fin 4} {bytes : List Byte} {body : State → State × Result} (h : RegimeInv s)
    (hbody : ∀ u, RegimeInv u → RegimeInv (body u).1) : RegimeInv (command p bytes body s) :=
  command_preserves id hbody (fun _ _ => id) h

theorem RegimeInv.controlled {p : Fin 4} {bytes : List Byte} {body : State → State × Result} (h : RegimeInv s)
    (hbody : ∀ u, RegimeInv u → RegimeInv (body u).1) :
    RegimeInv (Machine.command p bytes (Machine.controlled p body) s) :=
  h.command fun u hu => controlled_preserves (fun _ => hbody u hu) hu

end

theorem exec_keeps_regimeInv {i : Instr} {s t : State} (hs : RegimeInv s) (h : exec i s = .next t) : RegimeInv t := by
  cases hi : regimeActs i with
  | false => exact hs.of_onlyTroubles (exec_unitEvent hi h).regime
  | true =>
    cases i with
    | powerOnReset => exact of_next h (regimeInv_powerOn s)
    | startUpLoadEnd =>
      refine of_next h ?_
      split
      · rw [startUp_eq_with]; exact hs
      · exact hs
    | restart p => exact of_next h (hs.controlled fun u hu => hu.restartBody p)
    | zoneLineSlotCompletion i code =>
      refine of_next h ?_
      have hc : RegimeInv (codeStored i code s) := hs
      split
      · dsimp only
        split
        · exact hc.takeSample i code
        · exact hc
      · exact hs
    | retardExpiry i =>
      refine of_next h ?_
      split
      · exact hs.lineEvent i _
      · exact hs
    | resetRegime => exact of_next h (hs.controlled fun u hu => hu.resetRegimeBody)
    | holdTimerExpiry =>
      refine of_next h ?_
      split
      · exact (regimeInv_enterActive s).settle s
      · exact hs
    | spreadExpiry =>
      refine of_next h ?_
      split
      · next hd =>
        have hg := ((regimeInv_iff s).mp hs).spreadExpired ((spreadDue_iff _).mp hd)
        exact ((regimeInv_iff _).mpr (hg _ _)).settle s
      · exact hs
    | silenceInhibitExpiry =>
      refine of_next h ?_
      split
      · exact (regimeInv_iff _).mpr ((regimeInv_iff s).mp hs).inhibit_none
      · exact hs
    | portReset x =>
      refine of_next h ?_
      dsimp only
      split
      · exact hs.setHolder none
      · exact hs
    | takeControl p => exact of_next h (hs.command fun u hu => afterLoad_preserves (fun _ => hu.takeControlBody p) hu)
    | releaseControl => exact of_next h (hs.controlled fun u hu => hu.setHolder none)
    | acknowledge => exact of_next h (hs.controlled fun u hu => hu.acknowledgeBody)
    | silence => exact of_next h (hs.controlled fun u hu => hu.silenceBody)
    | resound => exact of_next h (hs.controlled fun u hu => hu.resoundBody)
    | evacuateAll => exact of_next h (hs.controlled fun u hu => hu.evacuateAllBody)
    | spreadHold => exact of_next h (hs.controlled fun u hu => hu.spreadHoldBody)
    | spreadResume => exact of_next h (hs.controlled fun u hu => hu.spreadResumeBody)
    | staggerExpiry =>
      refine of_next h ?_
      split
      · split
        · exact hs
        · exact hs.takeHead _ _ _
      · exact hs
    | doorOverride p g o => exact of_next h (hs.controlled fun u hu => hu.doorOverrideBody g o)
    | _ => cases hi

/-! ## Console control -/

/-- The load, the configuration and the holder, of which the law of console control speaks. -/
def controlOf (s : State) : Option Nat × WorkConfig × Option (Fin 4) := (s.load, s.config, s.regime.holder)

section
variable {s t w : State}

theorem HolderInv.of_eq (h : HolderInv s) (hw : controlOf w = controlOf s) : HolderInv w := by
  simp only [controlOf, Prod.mk.injEq] at hw
  obtain ⟨hl, hc, hh⟩ := hw
  unfold HolderInv
  rw [hl, hc, hh]
  exact h

theorem holderInv_of_none (h : s.regime.holder = none) : HolderInv s := by
  rw [HolderInv, h]
  nofun

theorem controlOf_of_onlyTroubles (hl : t.load = s.load) (hc : t.config = s.config)
    (hr : OnlyTroubles s.regime t.regime) : controlOf t = controlOf s := by
  simp only [controlOf, hl, hc]
  rw [hr]

theorem UnitEvent.control (h : UnitEvent s t) : controlOf t = controlOf s :=
  controlOf_of_onlyTroubles h.load h.config h.regime

@[simp] theorem controlOf_settle (s0 s : State) : controlOf (settle s0 s) = controlOf s := by
  have hh : (settle s0 s).regime.holder = s.regime.holder := by rw [settle_regime]
  simp [controlOf, hh]

@[simp] theorem controlOf_changeLine (i : Fin 64) (l : Line) (s : State) :
    controlOf (changeLine i l s) = controlOf s := (unitEvent_changeLine i l s).control

@[simp] theorem controlOf_fireLine (i : Fin 64) (s : State) : controlOf (fireLine i s) = controlOf s := by
  unfold fireLine
  (repeat' split) <;> rfl

@[simp] theorem controlOf_lineEvent (i : Fin 64) (l : Line) (s : State) :
    controlOf (lineEvent i l s) = controlOf s := by
  unfold lineEvent
  dsimp only
  split <;> simp

theorem controlOf_takeSample (i : Fin 64) (code : BitVec 10) (s : State) :
    controlOf (takeSample i code s) = controlOf s := by
  obtain e | e | e := takeSample_cases i code s <;> rw [e]
  · rfl
  · exact controlOf_lineEvent _ _ _
  · exact controlOf_lineEvent _ _ _

@[simp] theorem controlOf_resetRegime (s : State) : controlOf (resetRegime s) = controlOf s := by
  have hh : (regimeReturned s).regime.holder = s.regime.holder := by rw [regimeReturned_regime]; rfl
  rw [resetRegime_eq, controlOf_settle]
  simp [controlOf, hh, regimeReturned_load_config]

/-- A change of the regime record that reaches no other unit, and keeps the holder. -/
theorem controlOf_regimeNotice (s0 : State) {g : Regime} (hg : g.holder = s.regime.holder) :
    controlOf (regimeNotice s0 (s.setRegime g)) = controlOf s := by
  rw [regimeNotice_eq_with]
  exact congrArg (fun h => (s.load, s.config, h)) hg

theorem controlOf_routerSettle (s0 s : State) : controlOf (routerSettle s0 s) = controlOf s :=
  controlOf_of_onlyTroubles (by simp) (by simp) (onlyTroubles_routerSettle _ _)

@[simp] theorem controlOf_setSilenced (b : Bool) (s : State) : controlOf (setSilenced b s) = controlOf s := by
  rw [setSilenced, regimeNotice_eq_with]
  exact controlOf_routerSettle s (s.setRegime _)

@[simp] theorem controlOf_doorNotices (s0 s : State) : controlOf (doorNotices s0 s) = controlOf s :=
  controlOf_of_onlyTroubles (by simp) (by simp) (by rw [OnlyTroubles, doorNotices_regime])

theorem controlOf_command {p : Fin 4} {bytes : List Byte} {body : State → State × Result}
    (hbody : ∀ u, controlOf (body u).1 = controlOf u) : controlOf (command p bytes body s) = controlOf s :=
  command_preserves (P := fun u => controlOf u = controlOf s) id (fun u hu => (hbody u).trans hu) (fun _ _ => id) rfl

theorem controlOf_controlled {p : Fin 4} {bytes : List Byte} {body : State → State × Result}
    (hbody : ∀ u, controlOf (body u).1 = controlOf u) :
    controlOf (command p bytes (controlled p body) s) = controlOf s :=
  controlOf_command fun u =>
    controlled_preserves (P := fun v => controlOf v = controlOf u) (fun _ => hbody u) rfl

/-! ### The commands of the regime -/

theorem controlOf_acknowledgeBody (s : State) : controlOf (acknowledgeBody s).1 = controlOf s := by
  unfold acknowledgeBody
  split
  · split
    · exact controlOf_settle _ _
    · exact controlOf_regimeNotice s rfl
  all_goals rfl

theorem controlOf_silenceBody (s : State) : controlOf (silenceBody s).1 = controlOf s := by
  unfold silenceBody
  (repeat' split) <;> simp

theorem controlOf_resoundBody (s : State) : controlOf (resoundBody s).1 = controlOf s := by
  unfold resoundBody
  split <;> simp

theorem controlOf_evacuateAllBody (s : State) : controlOf (evacuateAllBody s).1 = controlOf s := by
  unfold evacuateAllBody
  dsimp only
  split
  · exact controlOf_settle _ _
  · exact controlOf_settle _ _
  · exact controlOf_settle _ _
  · split
    · rfl
    · exact controlOf_settle _ _

theorem controlOf_spreadHoldBody (s : State) : controlOf (spreadHoldBody s).1 = controlOf s := by
  unfold spreadHoldBody
  split
  · split
    · rfl
    · exact controlOf_regimeNotice s rfl
  · rfl

theorem controlOf_spreadResumeBody (s : State) : controlOf (spreadResumeBody s).1 = controlOf s := by
  unfold spreadResumeBody
  split
  · exact controlOf_regimeNotice s rfl
  · rfl

theorem controlOf_resetRegimeBody (s : State) : controlOf (resetRegimeBody s).1 = controlOf s := by
  unfold resetRegimeBody
  split <;> simp

theorem controlOf_takeHead (g : Fin 16) (rest : List (Fin 16)) (s : State) :
    controlOf (takeHead g rest s) = controlOf s := by
  unfold takeHead
  dsimp only
  split <;> rfl

theorem controlOf_judgeDemand (g : Fin 16) (s : State) : controlOf (judgeDemand s g) = controlOf s := by
  obtain e | e | e := judgeDemand_cases s g <;> rw [e] <;> rfl

theorem controlOf_doorOverrideBody (g o : Byte) (s : State) : controlOf (doorOverrideBody g o s).1 = controlOf s := by
  have hj (k : Fin 16) (x : DGroup) : controlOf (judgeDemand (s.setDGroup k x) k) = controlOf s :=
    controlOf_judgeDemand k _
  unfold doorOverrideBody overrideGroup
  (repeat' split) <;> simp [hj]

/-! ### The steps that set the holder -/

/-- After the load a CONSOLE port may hold control (R44). -/
theorem holderInv_setHolder {h : Option (Fin 4)} (hl : s.load = none)
    (hr : ∀ p ∈ h, s.config.ports[p].role = .console) : HolderInv (setHolder h s) := by
  intro p hp
  have hf : (setHolder h s).load = s.load ∧ (setHolder h s).config = s.config := by simp
  rw [hf.1, hf.2]
  refine ⟨hl, hr p ?_⟩
  simpa [setHolder] using hp

theorem holderInv_setHolder_none (s : State) : HolderInv (setHolder none s) :=
  holderInv_of_none (by simp [setHolder])

theorem HolderInv.takeControlBody (h : HolderInv s) (hl : s.load = none) (p : Fin 4) :
    HolderInv (takeControlBody p s).1 := by
  have htake (hr : s.role p = some .console) : HolderInv (setHolder (some p) s) := by
    refine holderInv_setHolder hl fun q hq => ?_
    obtain rfl : p = q := Option.some.inj hq
    simp only [State.role, Option.ite_none_left_eq_some, Option.some.injEq] at hr
    exact hr.2
  unfold Machine.takeControlBody
  split
  · next hr =>
    split
    · exact htake hr
    · split
      · exact h
      · split
        · exact htake hr
        · exact h
  · exact h

theorem holderInv_powerOn (s : State) : HolderInv (powerOn s) := holderInv_of_none rfl

/-- The load ends with the holder it began with (R192). -/
theorem HolderInv.startUp (h : HolderInv s) : HolderInv (startUp s) := by
  rw [startUp_eq_with]
  exact fun p hp => ⟨rfl, (h p hp).2⟩

theorem HolderInv.restartBody (h : HolderInv s) (p : Fin 4) : HolderInv (restartBody p s).1 := by
  unfold Machine.restartBody setConflict
  (repeat' split) <;> simp only [accept_state, refuse_state, h, holderInv_powerOn]
  exact h

/-- A millisecond ends no control and begins no load. -/
theorem HolderInv.tick (h : HolderInv s) : HolderInv (tick s) := by
  intro p hp
  have hl : (Machine.tick s).load = tickTimer s.load := rfl
  rw [hl, tickTimer_eq_none_iff]
  exact h p hp

end

theorem exec_keeps_holderInv {i : Instr} {s t : State} (hs : HolderInv s) (h : exec i s = .next t) :
    HolderInv t := by
  cases hi : regimeActs i with
  | false => exact hs.of_eq (exec_unitEvent hi h).control
  | true =>
    cases i with
    | powerOnReset => exact of_next h (holderInv_powerOn s)
    | startUpLoadEnd =>
      refine of_next h ?_
      split
      · exact hs.startUp
      · exact hs
    | restart p =>
      refine of_next h ?_
      exact command_preserves id (fun u hu => controlled_preserves (fun _ => hu.restartBody p) hu) (fun _ _ => id) hs
    | takeControl p =>
      refine of_next h ?_
      exact command_preserves id (fun u hu => afterLoad_preserves (fun hl => hu.takeControlBody hl p) hu)
        (fun _ _ => id) hs
    | releaseControl p =>
      refine of_next h ?_
      exact command_preserves id (fun u hu => controlled_preserves (fun _ => holderInv_setHolder_none u) hu)
        (fun _ _ => id) hs
    | portReset x =>
      refine of_next h ?_
      dsimp only
      split
      · exact holderInv_setHolder_none _
      · exact hs
    | zoneLineSlotCompletion i code =>
      refine of_next h (hs.of_eq ?_)
      split
      · dsimp only
        split
        · exact controlOf_takeSample i code (codeStored i code s)
        · rfl
      · rfl
    | retardExpiry i =>
      refine of_next h (hs.of_eq ?_)
      split
      · exact controlOf_lineEvent _ _ _
      · rfl
    | holdTimerExpiry | spreadExpiry =>
      refine of_next h (hs.of_eq ?_)
      split
      · exact controlOf_settle _ _
      · rfl
    | silenceInhibitExpiry =>
      refine of_next h (hs.of_eq ?_)
      split <;> rfl
    | staggerExpiry =>
      refine of_next h (hs.of_eq ?_)
      split
      · split
        · rfl
        · rw [controlOf_doorNotices, controlOf_takeHead]; rfl
      · rfl
    | resetRegime => exact of_next h (hs.of_eq (controlOf_controlled controlOf_resetRegimeBody))
    | acknowledge => exact of_next h (hs.of_eq (controlOf_controlled controlOf_acknowledgeBody))
    | silence => exact of_next h (hs.of_eq (controlOf_controlled controlOf_silenceBody))
    | resound => exact of_next h (hs.of_eq (controlOf_controlled controlOf_resoundBody))
    | evacuateAll => exact of_next h (hs.of_eq (controlOf_controlled controlOf_evacuateAllBody))
    | spreadHold => exact of_next h (hs.of_eq (controlOf_controlled controlOf_spreadHoldBody))
    | spreadResume => exact of_next h (hs.of_eq (controlOf_controlled controlOf_spreadResumeBody))
    | doorOverride p g o => exact of_next h (hs.of_eq (controlOf_controlled (controlOf_doorOverrideBody g o)))
    | _ => cases hi

/-- Settles O11: the law of the regime record is one of the record alone, and each change of the record keeps it; the
holder changes only at TAKE CONTROL, to none, and with the load. -/
theorem stepKeepsRegimeAndHolderLaws : Obligations.StepKeepsRegimeAndHolderLaws := by
  intro s t h
  unfold step at h
  split at h
  · refine ⟨fun hs => of_next h ?_, fun hs => of_next h hs.tick⟩
    exact (regimeInv_iff _).mpr ((regimeInv_iff s).mp hs).tick
  · next i rest _ =>
    refine ⟨fun hs => ?_, fun hs => ?_⟩
    · have hrest : RegimeInv { s with pending := rest } := hs
      exact exec_keeps_regimeInv hrest h
    · have hrest : HolderInv { s with pending := rest } := hs
      exact exec_keeps_holderInv hrest h

end Sys2Proof.Machine
end


section
/-! SUPPORT. The re-secure queue and the demands of the door groups, at the work of the door unit (R115 to R120). -/

namespace Sys2Proof.Machine

/-! ## The law of the queue and of the demands, after the load -/

/-- The re-secure queue holds exactly the groups that wait, each once, and its timer runs while it holds one. -/
structure QueueGood (s : State) : Prop where
  nodup : s.resecure.Nodup
  mem : ∀ g : Fin 16, g ∈ s.resecure ↔ s.dgroups[g].state = .resecureWait
  stagger : s.resecure ≠ [] → s.stagger.isSome = true

/-- A group is RELEASED exactly while it has demand. -/
def DemandMet (s : State) (g : Fin 16) : Prop := s.dgroups[g].state = .released ↔ demand s g = true

/-- The queue is good, and no absent group is RELEASED: what the door unit needs to judge the demands anew. -/
structure QueueReady (s : State) : Prop where
  queue : QueueGood s
  absent : ∀ g : Fin 16, s.dgroups[g].state = .released → s.config.dgroups[g].present = true

/-- The law of the queue and of the demands while no load is in progress. -/
structure DoorsGood (s : State) : Prop where
  queue : QueueGood s
  demand : ∀ g : Fin 16, DemandMet s g

section
variable {s t : State}

theorem doorsGood_iff (hl : s.load = none) : DoorsGood s ↔ QueueInv s ∧ DemandInv s :=
  ⟨fun ⟨⟨hn, hm, hs⟩, hd⟩ => ⟨⟨hn, fun _ => hm, hs, fun h => absurd hl h⟩, fun _ => hd⟩,
    fun ⟨⟨hn, hm, hs, _⟩, hd⟩ => ⟨⟨hn, hm hl, hs⟩, hd hl⟩⟩

/-- During the load the law says that the queue is empty. -/
theorem queueInv_demandInv_of_loading (hl : s.load ≠ none) (hr : s.resecure = []) : QueueInv s ∧ DemandInv s :=
  ⟨⟨by simp [hr], fun h => absurd h hl, fun h => absurd hr h, fun _ => hr⟩, fun h => absurd h hl⟩

theorem demand_of_absent {g : Fin 16} (h : s.config.dgroups[g].present = false) : demand s g = false := by
  simp only [demand, h, Bool.false_and]

theorem DoorsGood.ready (h : DoorsGood s) : QueueReady s where
  queue := h.queue
  absent g hg := by
    have hd := (h.demand g).mp hg
    cases hp : s.config.dgroups[g].present with
    | true => rfl
    | false => rw [demand_of_absent hp] at hd; cases hd

/-! ## What bears on the law -/

/-- The group states, the queue and whether its timer runs are as they were. -/
structure QueueKept (s t : State) : Prop where
  config : t.config = s.config
  groupState : ∀ g : Fin 16, t.dgroups[g].state = s.dgroups[g].state
  resecure : t.resecure = s.resecure
  stagger : t.stagger.isSome = s.stagger.isSome

/-- What a demand is judged by is as it was: the overrides, whether the regime is ACTIVE and the floors' statuses
(R115). -/
structure DemandKept (s t : State) : Prop where
  config : t.config = s.config
  override : ∀ g : Fin 16, t.dgroups[g].override = s.dgroups[g].override
  active : (t.regime.state == .active) = (s.regime.state == .active)
  status : ∀ f : Fin 48, t.floors[f].status = s.floors[f].status

theorem QueueGood.of_kept (h : QueueGood s) (hk : QueueKept s t) : QueueGood t where
  nodup := by rw [hk.resecure]; exact h.nodup
  mem g := by rw [hk.resecure, hk.groupState]; exact h.mem g
  stagger hne := by rw [hk.resecure] at hne; rw [hk.stagger]; exact h.stagger hne

theorem QueueReady.of_kept (h : QueueReady s) (hk : QueueKept s t) : QueueReady t where
  queue := h.queue.of_kept hk
  absent g hg := by rw [hk.groupState] at hg; rw [hk.config]; exact h.absent g hg

theorem DemandKept.demand (h : DemandKept s t) (g : Fin 16) : demand t g = demand s g := by
  have hm : memberEvacuates t g = memberEvacuates s g := by
    simp only [memberEvacuates, memberOf, State.present, h.config, h.status]
  simp only [Machine.demand, h.config, h.override g, h.active, hm]

theorem DemandMet.of_kept {g : Fin 16} (h : DemandMet s g) (hq : t.dgroups[g].state = s.dgroups[g].state)
    (hd : DemandKept s t) : DemandMet t g := by
  rw [DemandMet, hq, hd.demand]
  exact h

theorem DoorsGood.of_kept (h : DoorsGood s) (hq : QueueKept s t) (hd : DemandKept s t) : DoorsGood t :=
  ⟨h.queue.of_kept hq, fun g => (h.demand g).of_kept (hq.groupState g) hd⟩

/-! ## One demand judged anew (R115 to R117) -/

section
variable {g : Fin 16}

theorem demandKept_judgeDemand (s : State) (g : Fin 16) : DemandKept s (judgeDemand s g) where
  config := by simp
  override := judgeDemand_override s g
  active := by simp
  status f := by simp

/-- A released group leaves the queue, and every other keeps its place. -/
theorem QueueGood.releaseGroup (h : QueueGood s) (g : Fin 16) : QueueGood (releaseGroup g s) where
  nodup := h.nodup.filter _
  mem k := by
    simp only [Machine.releaseGroup, List.mem_filter, decide_eq_true_eq, getElem_set_fin]
    split
    · next e => simp [e]
    · next e => rw [h.mem k]; exact and_iff_left e
  stagger hne := by
    refine h.stagger fun he => hne ?_
    simp [Machine.releaseGroup, he]

/-- A group that does not wait joins the queue once. -/
theorem QueueGood.joinQueue (h : QueueGood s) (hg : s.dgroups[g].state ≠ .resecureWait) :
    QueueGood (joinQueue g s) where
  nodup := by
    have hn : g ∉ s.resecure := fun hm => hg ((h.mem g).mp hm)
    exact List.nodup_append.mpr ⟨h.nodup, List.nodup_singleton g, fun a ha b hb hab => by
      rw [List.mem_singleton.mp hb] at hab; exact hn (hab ▸ ha)⟩
  mem k := by
    simp only [Machine.joinQueue, List.mem_append, List.mem_singleton, getElem_set_fin]
    split
    · next e => simp [e]
    · next e => rw [h.mem k]; exact or_iff_left e
  stagger _ := rfl

theorem releaseGroup_state (k : Fin 16) :
    (releaseGroup g s).dgroups[k].state = if k = g then .released else s.dgroups[k].state := by
  simp only [releaseGroup, getElem_set_fin]
  split <;> rfl

theorem joinQueue_state (k : Fin 16) :
    (joinQueue g s).dgroups[k].state = if k = g then .resecureWait else s.dgroups[k].state := by
  simp only [joinQueue, getElem_set_fin]
  split <;> rfl

/-- Judging a group leaves every other group's state. -/
theorem judgeDemand_state_other {k : Fin 16} (hk : k ≠ g) :
    (judgeDemand s g).dgroups[k].state = s.dgroups[k].state := by
  obtain h | h | h := judgeDemand_cases s g <;> rw [h]
  · rw [releaseGroup_state, if_neg hk]
  · rw [joinQueue_state, if_neg hk]

/-- A judged group is RELEASED exactly when it has demand; an absent one is not touched. -/
theorem QueueReady.demandMet_judgeDemand (h : QueueReady s) (g : Fin 16) : DemandMet (judgeDemand s g) g := by
  rw [DemandMet, (demandKept_judgeDemand s g).demand]
  unfold judgeDemand
  split
  · split
    · next hd =>
      split
      · next hr => simp only [hr, hd]
      · simp only [releaseGroup_state, if_true, hd]
    · next hd =>
      split
      · simp only [joinQueue_state, if_true, hd, reduceCtorEq]
      · next hr => simp only [hr, hd, Bool.false_eq_true]
  · next hp =>
    have hr : s.dgroups[g].state ≠ .released := fun hr => hp (h.absent g hr)
    simp only [hr, demand_of_absent (Bool.eq_false_iff.mpr hp), Bool.false_eq_true]

theorem QueueReady.judgeDemand (h : QueueReady s) (g : Fin 16) : QueueReady (judgeDemand s g) := by
  unfold Machine.judgeDemand
  split
  · next hp =>
    have habsent {v : State} (hc : v.config = s.config)
        (ho : ∀ k, k ≠ g → v.dgroups[k].state = s.dgroups[k].state) :
        ∀ k : Fin 16, v.dgroups[k].state = .released → v.config.dgroups[k].present = true := by
      intro k hk
      rw [hc]
      by_cases e : k = g
      · exact e ▸ hp
      · rw [ho k e] at hk
        exact h.absent k hk
    split
    · split
      · exact h
      · exact ⟨h.queue.releaseGroup g, habsent (by simp) fun k hk => by rw [releaseGroup_state, if_neg hk]⟩
    · split
      · next hr =>
        have hw : s.dgroups[g].state ≠ .resecureWait := by rw [hr]; nofun
        exact ⟨h.queue.joinQueue hw, habsent (by simp) fun k hk => by rw [joinQueue_state, if_neg hk]⟩
      · exact h
  · exact h

/-- A group whose demand is met stays so while other groups, or it again, are judged. -/
theorem QueueReady.demandMet_judgeDemand_of_met (h : QueueReady s) {k : Fin 16} (hk : DemandMet s k) (g : Fin 16) :
    DemandMet (Machine.judgeDemand s g) k := by
  by_cases e : k = g
  · exact e ▸ h.demandMet_judgeDemand k
  · exact hk.of_kept (judgeDemand_state_other e) (demandKept_judgeDemand s g)

end

/-! ## Every demand judged anew -/

theorem QueueReady.judgeEach : ∀ (l : List (Fin 16)) {s : State}, QueueReady s →
    QueueReady (l.foldl Machine.judgeDemand s) ∧
      ∀ k : Fin 16, k ∈ l ∨ DemandMet s k → DemandMet (l.foldl Machine.judgeDemand s) k
  | [], _, h => ⟨h, fun k hk => hk.resolve_left List.not_mem_nil⟩
  | g :: l, s, h => by
    obtain ⟨hready, hmet⟩ := judgeEach l (h.judgeDemand g)
    refine ⟨hready, fun k hk => hmet k ?_⟩
    obtain hk | hk := hk
    · obtain rfl | hk := List.mem_cons.mp hk
      · exact .inr (h.demandMet_judgeDemand k)
      · exact .inl hk
    · exact .inr (h.demandMet_judgeDemand_of_met hk g)

theorem QueueReady.judgeDemands (h : QueueReady s) : DoorsGood (judgeDemands s) := by
  obtain ⟨hready, hmet⟩ := h.judgeEach (List.finRange 16)
  exact ⟨hready.queue, fun k => hmet k (.inl (List.mem_finRange k))⟩

/-! ## Notices, and the work of the other units -/

theorem queueKept_doorNotices (s0 s : State) : QueueKept s (doorNotices s0 s) := by
  constructor <;> simp

theorem demandKept_doorNotices (s0 s : State) : DemandKept s (doorNotices s0 s) where
  config := by simp
  override g := by simp
  active := by rw [doorNotices_regime]
  status f := by simp

theorem DoorsGood.doorNotices (h : DoorsGood s) (s0 : State) : DoorsGood (doorNotices s0 s) :=
  h.of_kept (queueKept_doorNotices s0 s) (demandKept_doorNotices s0 s)

theorem queueKept_routerSettle (s0 s : State) : QueueKept s (routerSettle s0 s) := by
  constructor <;> simp

theorem demandKept_routerSettle (s0 s : State) : DemandKept s (routerSettle s0 s) where
  config := by simp
  override g := by simp
  active := by rw [onlyTroubles_routerSettle]
  status f := by rw [routerSettle_floor]

theorem queueKept_floorSettle (s0 s : State) : QueueKept s (liftSettle s0 (floorSettle s0 s)) := by
  constructor <;> simp

/-- The work of every unit judges every demand on the floors and the regime as the event leaves them (R115). -/
theorem QueueReady.settle (h : QueueReady s) (s0 : State) : DoorsGood (settle s0 s) := by
  have hj : DoorsGood (doorSettle s0 (liftSettle s0 (floorSettle s0 s))) :=
    ((h.of_kept (queueKept_floorSettle s0 s)).judgeDemands).doorNotices s0
  exact hj.of_kept (queueKept_routerSettle s0 _) (demandKept_routerSettle s0 _)

/-! ## The head taken (R120) -/

/-- The head leaves the queue secured, or rejoins the tail. -/
theorem QueueGood.takeHead {g : Fin 16} {rest : List (Fin 16)} (h : QueueGood s) (hr : s.resecure = g :: rest)
    (n : Nat) : QueueGood (takeHead g rest { s with stagger := some n }) := by
  have hnodup := h.nodup
  rw [hr, List.nodup_cons] at hnodup
  obtain ⟨hg, hrest⟩ := hnodup
  have hmem (k : Fin 16) : s.dgroups[k].state = .resecureWait ↔ k = g ∨ k ∈ rest := by
    rw [← h.mem k, hr, List.mem_cons]
  unfold Machine.takeHead
  dsimp only
  split
  · refine ⟨hrest, fun k => ?_, fun _ => rfl⟩
    simp only [secureGroup, getElem_set_fin]
    split
    · next e => subst e; simp [hg]
    · next e => rw [hmem k, or_iff_right e]
  · refine ⟨?_, fun k => ?_, fun _ => rfl⟩
    · exact List.nodup_append.mpr ⟨hrest, List.nodup_singleton g, fun a ha b hb hab => by
        rw [List.mem_singleton.mp hb] at hab; exact hg (hab ▸ ha)⟩
    · have hstate : (rejoin g { s with resecure := rest, stagger := some n }).dgroups[k].state =
          s.dgroups[k].state := by
        simp only [rejoin, getElem_set_fin]
        split
        · next e => subst e; rfl
        · rfl
      rw [hstate, hmem k]
      simp [rejoin, or_comm]

theorem demandKept_takeHead (g : Fin 16) (rest : List (Fin 16)) (n : Nat) :
    DemandKept s (takeHead g rest { s with stagger := some n }) := by
  unfold takeHead
  dsimp only
  split
  all_goals
    refine ⟨rfl, fun k => ?_, rfl, fun _ => rfl⟩
    simp only [secureGroup, rejoin, getElem_set_fin]
    split
    · next e => subst e; rfl
    · rfl

/-- A group that is taken is not RELEASED, before or after. -/
theorem takeHead_released {g : Fin 16} {rest : List (Fin 16)} (hg : s.dgroups[g].state = .resecureWait) (n : Nat)
    (k : Fin 16) :
    (takeHead g rest { s with stagger := some n }).dgroups[k].state = .released ↔ s.dgroups[k].state = .released := by
  unfold takeHead
  dsimp only
  split
  all_goals
    simp only [secureGroup, rejoin, getElem_set_fin]
    split
    · next e => subst e; simp only [hg, reduceCtorEq]
    · rfl

theorem DoorsGood.takeHead {g : Fin 16} {rest : List (Fin 16)} (h : DoorsGood s) (hr : s.resecure = g :: rest)
    (n : Nat) : DoorsGood (Machine.doorNotices s (takeHead g rest { s with stagger := some n })) := by
  have hg : s.dgroups[g].state = .resecureWait := (h.queue.mem g).mp (by rw [hr]; exact List.mem_cons_self)
  refine DoorsGood.doorNotices ⟨h.queue.takeHead hr n, fun k => ?_⟩ s
  rw [DemandMet, takeHead_released hg, (demandKept_takeHead g rest n).demand]
  exact h.demand k

/-! ## DOOR OVERRIDE (R130) -/

theorem setDGroup_dgroup (s : State) (g k : Fin 16) (x : DGroup) :
    (s.setDGroup g x).dgroups[k] = if k = g then x else s.dgroups[k] :=
  getElem_set_fin _ _ _ _

/-- A new override bears on the demand of its group alone. -/
theorem DoorsGood.overrideGroup (h : DoorsGood s) (g : Fin 16) (o : Override) : DoorsGood (overrideGroup g o s) := by
  unfold Machine.overrideGroup
  split
  · exact h
  · have hkept : QueueKept s (s.setDGroup g { s.dgroups[g] with override := o }) :=
      ⟨rfl, fun k => by
        rw [setDGroup_dgroup]
        split
        · next e => subst e; rfl
        · rfl, rfl, rfl⟩
    have hready := h.ready.of_kept hkept
    refine DoorsGood.doorNotices ⟨(hready.judgeDemand g).queue, fun k => ?_⟩ s
    by_cases e : k = g
    · exact e ▸ hready.demandMet_judgeDemand k
    · refine hready.demandMet_judgeDemand_of_met ?_ g
      have hother : (s.setDGroup g { s.dgroups[g] with override := o }).dgroups[k] = s.dgroups[k] := by
        rw [setDGroup_dgroup, if_neg e]
      rw [DemandMet, Machine.demand, hother]
      exact h.demand k

end

end Sys2Proof.Machine
end


section
/-! SUPPORT. Every step keeps the re-secure queue, the demands of the door groups, and FORCE_SECURE to QUIET (O17). -/

namespace Sys2Proof.Machine

section
variable {s t w : State}

/-! ## Events that leave the door groups and what they are judged by -/

theorem UnitEvent.queueKept (h : UnitEvent s t) : QueueKept s t :=
  ⟨h.config, h.groupState, h.resecure, by rw [h.stagger]⟩

theorem UnitEvent.demandKept (h : UnitEvent s t) : DemandKept s t :=
  ⟨h.config, h.override, by rw [h.regime], h.status⟩

theorem QueueKept.trans {u : State} (h : QueueKept s t) (k : QueueKept t u) : QueueKept s u :=
  ⟨k.config.trans h.config, fun g => (k.groupState g).trans (h.groupState g), k.resecure.trans h.resecure,
    k.stagger.trans h.stagger⟩

/-- An event that changes the regime record and the ports, and does not enter or leave ACTIVE. -/
theorem DoorsGood.of_record (h : DoorsGood s) (ht : t = { s with regime := t.regime, ports := t.ports, free := t.free })
    (hr : (t.regime.state == .active) = (s.regime.state == .active)) : DoorsGood t :=
  h.of_kept (by rw [ht]; exact ⟨rfl, fun _ => rfl, rfl, rfl⟩)
    ⟨by rw [ht], fun _ => by rw [ht], hr, fun _ => by rw [ht]⟩

theorem DoorsGood.setHolder (h : DoorsGood s) (p : Option (Fin 4)) : DoorsGood (setHolder p s) :=
  h.of_record rfl rfl

/-- A change of the regime record that reaches no other unit. -/
theorem DoorsGood.regimeNotice (h : DoorsGood s) {g : Regime}
    (hg : (g.state == .active) = (s.regime.state == .active)) :
    DoorsGood (regimeNotice s (s.setRegime g)) := by
  have he := regimeNotice_eq_with s (s.setRegime g)
  refine h.of_record ?_ ?_
  · rw [he]; rfl
  · rw [he]; exact hg

theorem DoorsGood.setSilenced (h : DoorsGood s) (b : Bool) : DoorsGood (setSilenced b s) := by
  have hw : DoorsGood (s.setRegime { s.regime with silenced := b }) := h.of_record rfl rfl
  have hrouted := hw.of_kept (queueKept_routerSettle s _) (demandKept_routerSettle s _)
  rw [Machine.setSilenced, regimeNotice_eq_with]
  exact hrouted.of_record rfl rfl

/-! ## The events of the regime -/

theorem queueKept_setRegime (s : State) (g : Regime) : QueueKept s (s.setRegime g) :=
  ⟨rfl, fun _ => rfl, rfl, rfl⟩

/-- The groups that leave FORCE_SECURE at the exit from QUIET keep their state (R51). -/
theorem queueKept_revertForceSecure (s : State) : QueueKept s (revertForceSecure s) where
  config := rfl
  groupState g := by
    have h : (revertForceSecure s).dgroups[g] =
        if s.dgroups[g].override = .forceSecure then { s.dgroups[g] with override := .auto } else s.dgroups[g] :=
      getElem_tabulate _ _ _
    rw [h]
    split <;> rfl
  resecure := rfl
  stagger := rfl

theorem queueKept_fireLine (i : Fin 64) (s : State) : QueueKept s (fireLine i s) := by
  unfold fireLine
  split
  · have hq := (queueKept_setRegime s { s.regime with firstAlarm := some i }).trans (queueKept_revertForceSecure _)
    dsimp only
    split
    · exact hq.trans (queueKept_setRegime _ _)
    · exact hq.trans (queueKept_setRegime _ _)
  all_goals exact queueKept_setRegime _ _

/-- An event that changes the regime, with the work of every unit after it. -/
theorem DoorsGood.settle (h : DoorsGood s) (hw : QueueKept s w) : DoorsGood (settle s w) :=
  (h.ready.of_kept hw).settle s

theorem DoorsGood.lineEvent (h : DoorsGood s) (i : Fin 64) (l : Line) : DoorsGood (lineEvent i l s) := by
  have hc := unitEvent_changeLine i l s
  unfold Machine.lineEvent
  dsimp only
  split
  · exact h.settle (hc.queueKept.trans (queueKept_fireLine i _))
  · exact h.of_kept hc.queueKept hc.demandKept

theorem DoorsGood.of_frame (h : DoorsGood s)
    (ht : t = { s with scanSlot := t.scanSlot, lines := t.lines, pgroups := t.pgroups }) : DoorsGood t := by
  have he : UnitEvent s t := unitEvent_of_frame (by rw [ht])
  exact h.of_kept he.queueKept he.demandKept

theorem DoorsGood.takeSample (h : DoorsGood s) (i : Fin 64) (code : BitVec 10) :
    DoorsGood (takeSample i code s) := by
  obtain e | e | e := takeSample_cases i code s <;> rw [e]
  · exact h.of_frame rfl
  · exact h.lineEvent i _
  · have hg : DoorsGood (s.setPGroup s.config.lines[i].powerGroup groupReset) := h.of_frame rfl
    exact hg.lineEvent i _

theorem DoorsGood.resetRegime (h : DoorsGood s) : DoorsGood (resetRegime s) := by
  rw [resetRegime_eq]
  exact h.settle ⟨by simp [regimeReturned], fun g => by simp [regimeReturned], by simp [regimeReturned],
    by simp [regimeReturned]⟩

/-! ## The commands of the regime -/

theorem DoorsGood.acknowledgeBody (h : DoorsGood s) : DoorsGood (acknowledgeBody s).1 := by
  unfold Machine.acknowledgeBody
  split
  · next ha =>
    split
    · exact h.settle (queueKept_setRegime _ _)
    · exact h.regimeNotice (by rw [ha]; rfl)
  all_goals exact h

theorem DoorsGood.silenceBody (h : DoorsGood s) : DoorsGood (silenceBody s).1 := by
  unfold Machine.silenceBody
  (repeat' split) <;> simp [h, h.setSilenced]

theorem DoorsGood.resoundBody (h : DoorsGood s) : DoorsGood (resoundBody s).1 := by
  unfold Machine.resoundBody
  split <;> simp [h, h.setSilenced]

theorem DoorsGood.evacuateAllBody (h : DoorsGood s) : DoorsGood (evacuateAllBody s).1 := by
  have hset := queueKept_setRegime s { s.regime with evacuateAll := true }
  unfold Machine.evacuateAllBody
  dsimp only
  split
  · exact h.settle ((hset.trans (queueKept_revertForceSecure _)).trans (queueKept_setRegime _ _))
  · exact h.settle (hset.trans (queueKept_setRegime _ _))
  · exact h.settle (hset.trans (queueKept_setRegime _ _))
  · split
    · exact h
    · exact h.settle (hset.trans (queueKept_setRegime _ _))

theorem DoorsGood.spreadHoldBody (h : DoorsGood s) : DoorsGood (spreadHoldBody s).1 := by
  unfold Machine.spreadHoldBody
  (repeat' split) <;> simp [h, h.regimeNotice]

theorem DoorsGood.spreadResumeBody (h : DoorsGood s) : DoorsGood (spreadResumeBody s).1 := by
  unfold Machine.spreadResumeBody
  split <;> simp [h, h.regimeNotice]

theorem DoorsGood.resetRegimeBody (h : DoorsGood s) : DoorsGood (resetRegimeBody s).1 := by
  unfold Machine.resetRegimeBody
  split <;> simp [h, h.resetRegime]

theorem DoorsGood.takeControlBody (h : DoorsGood s) (p : Fin 4) : DoorsGood (takeControlBody p s).1 := by
  unfold Machine.takeControlBody
  (repeat' split) <;> simp [h, h.setHolder]

theorem takeControlBody_load (p : Fin 4) (s : State) : (takeControlBody p s).1.load = s.load := by
  unfold takeControlBody
  (repeat' split) <;> simp

theorem DoorsGood.doorOverrideBody (h : DoorsGood s) (g o : Byte) : DoorsGood (doorOverrideBody g o s).1 := by
  unfold Machine.doorOverrideBody
  (repeat' split) <;> simp [h, h.overrideGroup]

/-! ## The law, during the load and after it -/

/-- The two laws of the door groups together. -/
def DoorLaw (s : State) : Prop := QueueInv s ∧ DemandInv s

theorem doorLaw_of_loading (hl : s.load ≠ none) (hr : s.resecure = []) : DoorLaw s :=
  queueInv_demandInv_of_loading hl hr

theorem DoorsGood.law (h : DoorsGood s) (hl : s.load = none) : DoorLaw s := (doorsGood_iff hl).mp h

theorem DoorLaw.good (h : DoorLaw s) (hl : s.load = none) : DoorsGood s := (doorsGood_iff hl).mpr h

theorem doorLaw_powerOn (s : State) : DoorLaw (powerOn s) := doorLaw_of_loading nofun rfl

theorem DoorLaw.setPort (h : DoorLaw s) (p : Fin 4) (c : Port) : DoorLaw (s.setPort p c) := h

theorem DoorLaw.restartBody (h : DoorLaw s) (p : Fin 4) : DoorLaw (restartBody p s).1 := by
  unfold Machine.restartBody setConflict
  (repeat' split) <;> simp [h, doorLaw_powerOn, h.setPort]

/-- A command that is judged after the load and ends no load. -/
theorem DoorLaw.afterLoad {p : Fin 4} {bytes : List Byte} {body : State → State × Result} (h : DoorLaw s)
    (hbody : ∀ u, DoorsGood u → DoorsGood (body u).1) (hload : ∀ u, u.load = none → (body u).1.load = none) :
    DoorLaw (command p bytes (afterLoad body) s) :=
  command_preserves id
    (fun u hu => afterLoad_preserves (fun hl => (hbody u (hu.good hl)).law (hload u hl)) hu) (fun _ _ => id) h

/-- A controlled command that touches neither the load nor the holder. -/
theorem DoorLaw.controlled {p : Fin 4} {bytes : List Byte} {body : State → State × Result} (h : DoorLaw s)
    (hbody : ∀ u, DoorsGood u → DoorsGood (body u).1) (hc : ∀ u, controlOf (body u).1 = controlOf u) :
    DoorLaw (command p bytes (Machine.controlled p body) s) := by
  refine command_preserves id (fun u hu => controlled_preserves (fun hl => ?_) hu) (fun _ _ => id) h
  have hload : (body u).1.load = u.load := congrArg Prod.fst (hc u)
  exact (hbody u (hu.good hl)).law (hload.trans hl)

/-- The load ends with every present group waiting once, in ascending order, and no demand: the regime is QUIET, no
floor is EVACUATE and every override is AUTO (R137, R192). -/
theorem Dormant.doorLaw_startUp (h : Dormant s) : DoorLaw (startUp s) := by
  have hg : DoorsGood (startBlocks s) := by
    have hstate (g : Fin 16) : (startBlocks s).dgroups[g].state =
        if s.config.dgroups[g].present then .resecureWait else .secured :=
      congrArg DGroup.state (startBlocks_dgroup h g)
    have hnodup : (presentDGroups s).Nodup := (List.nodup_finRange 16).filter _
    refine ⟨⟨hnodup, fun g => ?_, fun _ => rfl⟩, fun g => ?_⟩
    · have hmem : g ∈ presentDGroups s ↔ s.config.dgroups[g].present = true := by
        simp only [presentDGroups, List.mem_filter, List.mem_finRange, true_and]
      rw [hstate g]
      refine hmem.trans ?_
      split
      · next hp => simp only [hp]
      · next hp => simp only [hp, reduceCtorEq, Bool.false_eq_true]
    · have hover : (startBlocks s).dgroups[g].override = .auto := by rw [startBlocks_dgroup h g]; rfl
      have hregime : (startBlocks s).regime.state = .quiet := by
        have hr : (startBlocks s).regime = regimeReset s.regime.trouble.store := h.regime
        rw [hr]
        rfl
      have hm : memberEvacuates (startBlocks s) g = false := by
        have hf (f : Fin 48) : (startBlocks s).floors[f].status = .none := congrArg Floor.status (h.floor f)
        have hne : (FloorStatus.none == FloorStatus.evacuate) = false := rfl
        simp only [memberEvacuates, hf, hne, Bool.and_false, List.any_eq_false, Bool.false_eq_true, not_false_eq_true,
          implies_true]
      have hd : demand (startBlocks s) g = false := by
        simp only [demand, hover, hregime, hm]
        cases (startBlocks s).config.dgroups[g].policy <;> simp
      rw [DemandMet, hd, hstate g]
      split <;> simp
  rw [startUp_eq_with]
  exact (hg.of_record (t := { startBlocks s with ports := (startUp s).ports }) rfl rfl).law rfl

/-- A millisecond stops no timer, and changes nothing that a demand is judged by. -/
theorem DoorLaw.tick (h : DoorLaw s) : DoorLaw (tick s) := by
  have hstate (g : Fin 16) : (Machine.tick s).dgroups[g].state = s.dgroups[g].state := by rw [tick_dgroup]
  have hover (g : Fin 16) : (Machine.tick s).dgroups[g].override = s.dgroups[g].override := by rw [tick_dgroup]
  by_cases hl : s.load = none
  · have hgood : DoorsGood (Machine.tick s) :=
      (h.good hl).of_kept ⟨rfl, hstate, rfl, by cases hs : s.stagger <;> simp [Machine.tick, tickTimers, hs, tickTimer]⟩
        ⟨rfl, hover, rfl, fun _ => rfl⟩
    exact hgood.law ((tickTimer_eq_none_iff _).mpr hl)
  · obtain ⟨⟨-, -, -, hempty⟩, -⟩ := h
    exact doorLaw_of_loading (fun hn => hl ((tickTimer_eq_none_iff _).mp hn)) (hempty hl)

end

/-! ## Every step -/

theorem exec_keeps_doorLaw_of_loading {i : Instr} {s t : State} (hd : Dormant s) (h : exec i s = .next t) :
    DoorLaw t := by
  by_cases hon : i = .powerOnReset
  · subst hon
    exact of_next h (doorLaw_powerOn s)
  · by_cases hend : i = .startUpLoadEnd
    · subst hend
      refine of_next h ?_
      split
      · exact hd.doorLaw_startUp
      · exact doorLaw_of_loading hd.load hd.resecure
    · have ht := exec_keeps_dormant hd hon hend h
      exact doorLaw_of_loading ht.load ht.resecure

theorem exec_keeps_doorLaw_of_ready {i : Instr} {s t : State} (hl : s.load = none) (hs : DoorLaw s)
    (h : exec i s = .next t) : DoorLaw t := by
  have hg : DoorsGood s := hs.good hl
  cases hi : regimeActs i with
  | false =>
    have he := exec_unitEvent hi h
    exact (hg.of_kept he.queueKept he.demandKept).law (he.load.trans hl)
  | true =>
    cases i with
    | powerOnReset => exact of_next h (doorLaw_powerOn s)
    | startUpLoadEnd => exact of_next h (by simpa [hl, timerDue] using hs)
    | restart p =>
      refine of_next h ?_
      exact command_preserves id (fun u hu => controlled_preserves (fun _ => hu.restartBody p) hu) (fun _ _ => id) hs
    | zoneLineSlotCompletion i code =>
      refine of_next h ?_
      split
      · have hc : DoorsGood (codeStored i code s) := hg.of_frame rfl
        dsimp only
        split
        · have hk := controlOf_takeSample i code (codeStored i code s)
          exact (hc.takeSample i code).law ((congrArg Prod.fst hk).trans hl)
        · exact hc.law hl
      · exact hs
    | retardExpiry i =>
      refine of_next h ?_
      split
      · have hk := controlOf_lineEvent i (toActive s.lines[i]) s
        exact (hg.lineEvent i _).law ((congrArg Prod.fst hk).trans hl)
      · exact hs
    | holdTimerExpiry | spreadExpiry =>
      refine of_next h ?_
      split
      · exact (hg.settle (queueKept_setRegime s _)).law ((congrArg Prod.fst (controlOf_settle s _)).trans hl)
      · exact hs
    | silenceInhibitExpiry =>
      refine of_next h ?_
      split
      · exact (hg.of_record (t := s.setRegime { s.regime with inhibit := none }) rfl rfl).law hl
      · exact hs
    | portReset x =>
      refine of_next h ?_
      dsimp only
      split
      · exact hs
      · exact hs
    | takeControl p =>
      exact of_next h (hs.afterLoad (fun u hu => hu.takeControlBody p) fun u hu => (takeControlBody_load p u).trans hu)
    | releaseControl =>
      refine of_next h ?_
      refine command_preserves id (fun u hu => controlled_preserves (fun hl => ?_) hu) (fun _ _ => id) hs
      exact ((hu.good hl).setHolder none).law (by simpa [releaseControlBody] using hl)
    | resetRegime => exact of_next h (hs.controlled (fun u hu => hu.resetRegimeBody) controlOf_resetRegimeBody)
    | acknowledge => exact of_next h (hs.controlled (fun u hu => hu.acknowledgeBody) controlOf_acknowledgeBody)
    | silence => exact of_next h (hs.controlled (fun u hu => hu.silenceBody) controlOf_silenceBody)
    | resound => exact of_next h (hs.controlled (fun u hu => hu.resoundBody) controlOf_resoundBody)
    | evacuateAll => exact of_next h (hs.controlled (fun u hu => hu.evacuateAllBody) controlOf_evacuateAllBody)
    | spreadHold => exact of_next h (hs.controlled (fun u hu => hu.spreadHoldBody) controlOf_spreadHoldBody)
    | spreadResume => exact of_next h (hs.controlled (fun u hu => hu.spreadResumeBody) controlOf_spreadResumeBody)
    | staggerExpiry =>
      refine of_next h ?_
      split
      · split
        · next he =>
          have hq : QueueGood { s with stagger := none } :=
            ⟨hg.queue.nodup, hg.queue.mem, fun hne => absurd he hne⟩
          exact DoorsGood.law ⟨hq, hg.demand⟩ hl
        · next hr =>
          refine (hg.takeHead hr _).law ?_
          simpa using hl
      · exact hs
    | doorOverride p g o =>
      exact of_next h (hs.controlled (fun u hu => hu.doorOverrideBody g o) (controlOf_doorOverrideBody g o))
    | _ => cases hi

theorem exec_keeps_doorLaw {i : Instr} {s t : State} (hload : LoadInv s) (hs : DoorLaw s) (h : exec i s = .next t) :
    DoorLaw t := by
  by_cases hl : s.load = none
  · exact exec_keeps_doorLaw_of_ready hl hs h
  · exact exec_keeps_doorLaw_of_loading (hload.dormant hl) h

/-! ## FORCE_SECURE and QUIET (R51, R130, R131) -/

section
variable {s t w : State}

theorem OverrideInv.of_kept (h : OverrideInv s) (hr : t.regime.state = s.regime.state)
    (ho : ∀ g : Fin 16, t.dgroups[g].override = s.dgroups[g].override) : OverrideInv t := by
  intro hq g
  rw [hr] at hq
  rw [ho g]
  exact h hq g

theorem OverrideInv.unit (h : OverrideInv s) (he : UnitEvent s t) : OverrideInv t :=
  h.of_kept (by rw [he.regime]) he.override

/-- Outside QUIET the law speaks of the overrides alone, whatever the regime's state. -/
theorem OverrideInv.of_not_quiet (h : OverrideInv s) (hs : s.regime.state ≠ .quiet)
    (ho : ∀ g : Fin 16, t.dgroups[g].override = s.dgroups[g].override) : OverrideInv t :=
  fun _ g => by rw [ho g]; exact h hs g

theorem overrideInv_of_quiet (h : s.regime.state = .quiet) : OverrideInv s := fun hne => absurd h hne

theorem OverrideInv.settle (h : OverrideInv w) (s0 : State) : OverrideInv (settle s0 w) :=
  h.of_kept (by rw [settle_regime]) (settle_override s0 w)

/-- Every FORCE_SECURE group reverts at the exit from QUIET (R51). -/
theorem overrideInv_revertForceSecure (s : State) (g : Regime) : OverrideInv ((revertForceSecure s).setRegime g) := by
  intro _ k
  have hk : ((revertForceSecure s).setRegime g).dgroups[k] = (revertForceSecure s).dgroups[k] := rfl
  rw [hk, revertForceSecure_override]
  split
  · nofun
  · next hne => exact hne

theorem OverrideInv.fireLine (h : OverrideInv s) (i : Fin 64) : OverrideInv (fireLine i s) := by
  intro _ g
  rw [fireLine_override]
  split
  · nofun
  · next hne =>
    intro hforce
    exact h (fun hq => hne ⟨hq, hforce⟩) g hforce

theorem OverrideInv.lineEvent (h : OverrideInv s) (i : Fin 64) (l : Line) : OverrideInv (lineEvent i l s) := by
  have hc : OverrideInv (changeLine i l s) := h.unit (unitEvent_changeLine i l s)
  unfold Machine.lineEvent
  dsimp only
  split
  · exact (hc.fireLine i).settle s
  · exact hc

theorem OverrideInv.takeSample (h : OverrideInv s) (i : Fin 64) (code : BitVec 10) :
    OverrideInv (takeSample i code s) := by
  obtain e | e | e := takeSample_cases i code s <;> rw [e]
  · exact h
  · exact h.lineEvent i _
  · have hg : OverrideInv (s.setPGroup s.config.lines[i].powerGroup groupReset) := h
    exact hg.lineEvent i _

theorem OverrideInv.setHolder (h : OverrideInv s) (p : Option (Fin 4)) : OverrideInv (setHolder p s) := h

theorem OverrideInv.regimeNotice (h : OverrideInv w) (s0 : State) : OverrideInv (regimeNotice s0 w) := by
  rw [regimeNotice_eq_with]
  exact h

theorem OverrideInv.setSilenced (h : OverrideInv s) (b : Bool) : OverrideInv (setSilenced b s) := by
  have hw : OverrideInv (s.setRegime { s.regime with silenced := b }) := h
  have hrouted : OverrideInv (routerSettle s (s.setRegime { s.regime with silenced := b })) :=
    hw.of_kept (by rw [onlyTroubles_routerSettle]) fun g => by simp
  exact hrouted.regimeNotice s

theorem OverrideInv.acknowledgeBody (h : OverrideInv s) : OverrideInv (acknowledgeBody s).1 := by
  unfold Machine.acknowledgeBody
  split
  · next ha =>
    have hout : s.regime.state ≠ .quiet := by simp [ha]
    split
    · rw [accept_state]
      refine OverrideInv.settle ?_ s
      exact h.of_not_quiet hout fun _ => rfl
    · rw [accept_state]
      refine OverrideInv.regimeNotice ?_ s
      exact h.of_not_quiet hout fun _ => rfl
  all_goals exact h

theorem OverrideInv.silenceBody (h : OverrideInv s) : OverrideInv (silenceBody s).1 := by
  unfold Machine.silenceBody
  (repeat' split) <;> simp [h, h.setSilenced]

theorem OverrideInv.resoundBody (h : OverrideInv s) : OverrideInv (resoundBody s).1 := by
  unfold Machine.resoundBody
  split <;> simp [h, h.setSilenced]

theorem OverrideInv.evacuateAllBody (h : OverrideInv s) : OverrideInv (evacuateAllBody s).1 := by
  have hw {t : State} (hs : s.regime.state ≠ .quiet) (ht : t.dgroups = s.dgroups) : OverrideInv t :=
    h.of_not_quiet hs fun g => by rw [ht]
  unfold Machine.evacuateAllBody
  dsimp only
  split
  · refine OverrideInv.settle ?_ s
    exact overrideInv_revertForceSecure _ _
  · next hs =>
    refine OverrideInv.settle ?_ s
    exact hw (by rw [hs]; nofun) rfl
  · next hs =>
    refine OverrideInv.settle ?_ s
    exact hw (by rw [hs]; nofun) rfl
  · next hs =>
    split
    · exact h
    · refine OverrideInv.settle ?_ s
      exact hw (by rw [hs]; nofun) rfl

theorem OverrideInv.spreadHoldBody (h : OverrideInv s) : OverrideInv (spreadHoldBody s).1 := by
  unfold Machine.spreadHoldBody
  split
  · split
    · exact h
    · rw [accept_state]
      refine OverrideInv.regimeNotice ?_ s
      exact h
  · exact h

theorem OverrideInv.spreadResumeBody (h : OverrideInv s) : OverrideInv (spreadResumeBody s).1 := by
  unfold Machine.spreadResumeBody
  split
  · rw [accept_state]
    refine OverrideInv.regimeNotice ?_ s
    exact h
  · exact h

theorem overrideInv_resetRegime (s : State) : OverrideInv (resetRegime s) :=
  overrideInv_of_quiet (by rw [resetRegime_regime])

theorem OverrideInv.resetRegimeBody (h : OverrideInv s) : OverrideInv (resetRegimeBody s).1 := by
  unfold Machine.resetRegimeBody
  split <;> simp [h, overrideInv_resetRegime]

theorem OverrideInv.takeControlBody (h : OverrideInv s) (p : Fin 4) : OverrideInv (takeControlBody p s).1 := by
  unfold Machine.takeControlBody
  (repeat' split) <;> simp [h, h.setHolder]

theorem OverrideInv.doorNotices (h : OverrideInv w) (s0 : State) : OverrideInv (doorNotices s0 w) :=
  h.of_kept (by rw [doorNotices_regime]) fun g => by simp

/-- An override is set to FORCE_SECURE in QUIET only (R130). -/
theorem OverrideInv.overrideGroup (h : OverrideInv s) {o : Override} (ho : o = .forceSecure → s.regime.state = .quiet)
    (g : Fin 16) : OverrideInv (overrideGroup g o s) := by
  unfold Machine.overrideGroup
  split
  · exact h
  · have hset : OverrideInv (s.setDGroup g { s.dgroups[g] with override := o }) := by
      intro hq k
      rw [setDGroup_dgroup]
      split
      · exact fun hf => hq (ho hf)
      · exact h hq k
    exact OverrideInv.doorNotices (hset.of_kept (by simp) (judgeDemand_override _ g)) s

theorem OverrideInv.doorOverrideBody (h : OverrideInv s) (g o : Byte) : OverrideInv (doorOverrideBody g o s).1 := by
  unfold Machine.doorOverrideBody
  split
  · split
    · split
      · exact h
      · next hne => exact h.overrideGroup (fun hf => not_not.mp fun hq => hne ⟨hf, hq⟩) _
    · exact h
  · exact h

theorem overrideInv_powerOn (s : State) : OverrideInv (powerOn s) := overrideInv_of_quiet rfl

theorem OverrideInv.startUp (h : OverrideInv s) : OverrideInv (startUp s) := by
  rw [startUp_eq_with]
  refine h.of_kept rfl fun g => ?_
  have hg : (startBlocks s).dgroups[g] = startDGroup s g := getElem_tabulate _ _ _
  refine (congrArg DGroup.override hg).trans ?_
  unfold startDGroup
  split <;> rfl

theorem OverrideInv.restartBody (h : OverrideInv s) (p : Fin 4) : OverrideInv (restartBody p s).1 := by
  unfold Machine.restartBody setConflict
  (repeat' split) <;> simp only [accept_state, refuse_state, h, overrideInv_powerOn]
  exact h

theorem OverrideInv.tick (h : OverrideInv s) : OverrideInv (tick s) :=
  h.of_kept rfl fun g => by rw [tick_dgroup]

theorem OverrideInv.command {p : Fin 4} {bytes : List Byte} {body : State → State × Result} (h : OverrideInv s)
    (hbody : ∀ u, OverrideInv u → OverrideInv (body u).1) : OverrideInv (command p bytes body s) :=
  command_preserves id hbody (fun _ _ => id) h

theorem OverrideInv.controlled {p : Fin 4} {bytes : List Byte} {body : State → State × Result} (h : OverrideInv s)
    (hbody : ∀ u, OverrideInv u → OverrideInv (body u).1) :
    OverrideInv (Machine.command p bytes (Machine.controlled p body) s) :=
  h.command fun u hu => controlled_preserves (fun _ => hbody u hu) hu

end

theorem takeHead_override (g : Fin 16) (rest : List (Fin 16)) (s : State) (k : Fin 16) :
    (takeHead g rest s).dgroups[k].override = s.dgroups[k].override := by
  unfold takeHead
  dsimp only
  split
  all_goals
    simp only [secureGroup, rejoin, getElem_set_fin]
    split
    · next e => subst e; rfl
    · rfl

theorem OverrideInv.takeHead {s : State} (h : OverrideInv s) (g : Fin 16) (rest : List (Fin 16)) (n : Option Nat) :
    OverrideInv (Machine.doorNotices s (takeHead g rest { s with stagger := n })) := by
  refine OverrideInv.doorNotices ?_ s
  refine OverrideInv.of_kept h ?_ (takeHead_override g rest { s with stagger := n })
  simp

/-- A hold timer that runs tells that the regime has left QUIET. -/
theorem exec_keeps_overrideInv {i : Instr} {s t : State} (hr : RegimeInv s) (hs : OverrideInv s)
    (h : exec i s = .next t) : OverrideInv t := by
  cases hi : regimeActs i with
  | false => exact hs.unit (exec_unitEvent hi h)
  | true =>
    cases i with
    | powerOnReset => exact of_next h (overrideInv_powerOn s)
    | startUpLoadEnd =>
      refine of_next h ?_
      split
      · exact hs.startUp
      · exact hs
    | restart p => exact of_next h (hs.controlled fun u hu => hu.restartBody p)
    | zoneLineSlotCompletion i code =>
      refine of_next h ?_
      have hc : OverrideInv (codeStored i code s) := hs
      split
      · dsimp only
        split
        · exact hc.takeSample i code
        · exact hc
      · exact hs
    | retardExpiry i =>
      refine of_next h ?_
      split
      · exact hs.lineEvent i _
      · exact hs
    | holdTimerExpiry =>
      refine of_next h ?_
      split
      · next hd =>
        have hout : s.regime.state ≠ .quiet := by
          have hrun := ((regimeInv_iff s).mp hr).hold.mp (by rw [(timerDue_iff _).mp hd]; rfl)
          obtain hk | hk := hrun <;> simp [hk]
        refine OverrideInv.settle ?_ s
        exact hs.of_not_quiet hout fun _ => rfl
      · exact hs
    | spreadExpiry =>
      refine of_next h ?_
      split
      · refine OverrideInv.settle ?_ s
        exact hs
      · exact hs
    | silenceInhibitExpiry | portReset =>
      refine of_next h ?_
      dsimp only
      split
      · exact hs
      · exact hs
    | takeControl p => exact of_next h (hs.command fun u hu => afterLoad_preserves (fun _ => hu.takeControlBody p) hu)
    | releaseControl => exact of_next h (hs.controlled fun u hu => hu.setHolder none)
    | resetRegime => exact of_next h (hs.controlled fun u hu => hu.resetRegimeBody)
    | acknowledge => exact of_next h (hs.controlled fun u hu => hu.acknowledgeBody)
    | silence => exact of_next h (hs.controlled fun u hu => hu.silenceBody)
    | resound => exact of_next h (hs.controlled fun u hu => hu.resoundBody)
    | evacuateAll => exact of_next h (hs.controlled fun u hu => hu.evacuateAllBody)
    | spreadHold => exact of_next h (hs.controlled fun u hu => hu.spreadHoldBody)
    | spreadResume => exact of_next h (hs.controlled fun u hu => hu.spreadResumeBody)
    | staggerExpiry =>
      refine of_next h ?_
      split
      · split
        · exact hs
        · exact hs.takeHead _ _ _
      · exact hs
    | doorOverride p g o => exact of_next h (hs.controlled fun u hu => hu.doorOverrideBody g o)
    | _ => cases hi

/-- Settles O17: the work of the door unit judges each demand anew and keeps the queue to the groups that wait; outside
QUIET an override stays or reverts, and the hold timer runs outside QUIET only. -/
theorem stepKeepsQueueAndDemandLaws : Obligations.StepKeepsQueueAndDemandLaws := by
  refine ⟨fun s t hload hq hd h => ?_, fun s t hr hs h => ?_⟩
  · have hlaw : DoorLaw s := ⟨hq, hd⟩
    unfold step at h
    split at h
    · exact of_next h hlaw.tick
    · next i rest _ =>
      have hload' : LoadInv { s with pending := rest } := hload
      have hlaw' : DoorLaw { s with pending := rest } := hlaw
      exact exec_keeps_doorLaw hload' hlaw' h
  · unfold step at h
    split at h
    · exact of_next h hs.tick
    · next i rest _ =>
      have hr' : RegimeInv { s with pending := rest } := hr
      have hs' : OverrideInv { s with pending := rest } := hs
      exact exec_keeps_overrideInv hr' hs' h

end Sys2Proof.Machine
end


section
/-! SUPPORT. The order of judgement of a command: CONTROL and ROLE (O7), and console control taken and released (O32). -/

namespace Sys2Proof.Machine

section
variable {s : State} {p : Fin 4} {i : Instr} {bs : List Byte}

/-! ## CONTROL and ROLE come first -/

/-- Every command that needs control is judged through the control test (R48). -/
theorem exec_of_needsControl (hb : commandBytes i = some (p, bs)) (hc : needsControl i = true) (s : State) :
    ∃ body : State → State × Result,
      exec i s = .next (command p (Instr.bytes i) (controlled p body) s) := by
  cases i with
  | releaseControl | acknowledge | silence | resound | evacuateAll | spreadHold | spreadResume | resetRegime
  | isolateLine | restoreLine | recallGroup | releaseGroup | doorOverride | clearDoorFault | restart =>
    cases hb
    exact ⟨_, rfl⟩
  | _ => cases hc

theorem role_of_ready (hl : s.load = none) (p : Fin 4) : s.role p = some s.config.ports[p].role := by
  simp only [State.role, State.loading, hl, Option.isSome_none, Bool.false_eq_true, if_false]

/-- A role that may not send a command for one role is not that role. -/
theorem role_ne (hl : s.load = none) {r : Role} (h : (s.config.ports[p].role == r) = false) :
    s.role p ≠ some r := by
  rw [role_of_ready hl]
  exact fun e => by rw [Option.some.inj e, beq_self_eq_true] at h; cases h

theorem mayPost_eq (hl : s.load = none) (p : Fin 4) :
    mayPost s p = (s.config.ports[p].role == .console || s.config.ports[p].role == .voice) := by
  rw [mayPost, role_of_ready hl]
  rfl

/-- A port that may not post is refused with ROLE at once (R143, R159). -/
theorem postBody_role (h : mayPost s p = false) (cls message : Byte) (fs : FloorSet) (rpt : Byte) :
    postBody p cls message fs rpt s = refuse .role s :=
  if_neg (by simp [h])

theorem cancelBody_role (h : mayPost s p = false) (slot message : Byte) :
    cancelBody p slot message s = refuse .role s :=
  if_neg (by simp [h])

/-- Every command that some role may not send is refused with ROLE after the load from a port of such a role, before
anything else of its own rule. -/
theorem exec_of_roleMaySend (hb : commandBytes i = some (p, bs)) {r : Role} (hr : roleMaySend r i = false)
    (s : State) :
    ∃ body : State → State × Result,
      exec i s = .next (command p (Instr.bytes i) (afterLoad body) s) ∧
      ∀ u : State, u.load = none → roleMaySend u.config.ports[p].role i = false → body u = refuse .role u := by
  cases i with
  | takeControl | storeWrite | checkConfig | carReport | playEnd =>
    cases hb
    exact ⟨_, rfl, fun u hl hu => if_neg (role_ne hl hu)⟩
  | postAnnouncement =>
    cases hb
    exact ⟨_, rfl, fun u hl hu => postBody_role ((mayPost_eq hl _).trans hu) _ _ _ _⟩
  | cancelAnnouncement =>
    cases hb
    exact ⟨_, rfl, fun u hl hu => cancelBody_role ((mayPost_eq hl _).trans hu) _ _⟩
  | _ => cases hr

end

/-- Settles O7: each command that needs control passes the control test, and each command for some roles tests the role
before anything else. -/
theorem roleAndControlAreJudgedFirst : Obligations.RoleAndControlAreJudgedFirst := by
  refine ⟨fun i p bs s hb hc hready hne => ?_, fun i p bs s hb hready hr => ?_⟩
  · obtain ⟨hl, hh⟩ := hready
    obtain ⟨body, he⟩ := exec_of_needsControl hb hc s
    exact ⟨_, he, command_refused hh (controlled_other hl hne)⟩
  · obtain ⟨hl, hh⟩ := hready
    obtain ⟨body, he, hbody⟩ := exec_of_roleMaySend hb hr s
    have hw : (opened p i s).load = none := hl
    exact ⟨_, he, command_refused hh ((afterLoad_ready hw).trans (hbody _ hw hr))⟩

/-! ## A command judged in its order -/

section
variable {s : State} {p : Fin 4} {i : Instr} {body : State → State × Result} {own : Prop}

/-- A command for one role: STARTING, ROLE, and then its own conditions (R45, R188). -/
theorem forRole_command {r : Role} (hh : Hears s p i)
    (hrole : ∀ u : State, u.role p ≠ some r → body u = refuse .role u)
    (hown : s.load = none → s.config.ports[p].role = r → own) :
    ForRole p r s (command p (Instr.bytes i) (afterLoad body) s) own := by
  refine ⟨fun hl => ?_, fun hl hne => ?_, hown⟩
  · have hw : (opened p i s).load ≠ none := hl
    exact command_refused hh (afterLoad_loading hw)
  · have hw : (opened p i s).load = none := hl
    refine command_refused hh ((afterLoad_ready hw).trans (hrole _ ?_))
    rw [role_of_ready hw]
    exact fun e => hne (Option.some.inj e)

/-- A command of the holder: STARTING, CONTROL, and then its own conditions (R48). -/
theorem controlled_command (hh : Hears s p i) (hown : InControl s p i → own) :
    Controlled p s (command p (Instr.bytes i) (controlled p body) s) own := by
  refine ⟨fun hl => ?_, fun hl hne => ?_, fun hl hp => hown ⟨⟨hl, hh⟩, hp⟩⟩
  · have hw : (opened p i s).load ≠ none := hl
    exact command_refused hh (afterLoad_loading hw)
  · exact command_refused hh (controlled_other hl hne)

/-- A command for one role, of a port with that role after the load, that its own rule accepts. -/
theorem afterLoad_accepted {u : State} (hh : Hears s p i) (hl : s.load = none)
    (hb : body (opened p i s) = accept u) :
    command p (Instr.bytes i) (afterLoad body) s = setResult p .ok u := by
  have hw : (opened p i s).load = none := hl
  rw [command_heard hh, afterLoad_ready hw, hb]
  rfl

/-! ## Console control (R44 to R46) -/

theorem raised_setHolder (hl : s.load = none) (h : Option (Fin 4)) : Raised .control s (setHolder h s) :=
  raised_raise (s := s.setRegime { s.regime with holder := h }) hl

/-- What a change of the holder by a command leaves: the holder alone, with its CONTROL notice. -/
theorem setHolder_answered (hl : s.load = none) (h : Option (Fin 4)) :
    let t := setResult p .ok (setHolder h (opened p i s))
    t = { s with regime := { s.regime with holder := h }, ports := t.ports } ∧ Accepted p s t ∧
      Raised .control s t := by
  have hw : (opened p i s).load = none := hl
  have hraised := raised_setHolder hw h
  exact ⟨rfl, accepted_setResult (quiet_setHolder h _), Raised.setResult (s := s) hraised p .ok⟩

theorem rankValue_of_ready (hl : s.load = none) (q : Fin 4) : rankValue s q = s.config.ports[q].rank := by
  simp only [rankValue, State.rank, State.loading, hl, Option.isSome_none, Bool.false_eq_true, if_false,
    Option.getD_some]

end

section
variable {s : State} {p h : Fin 4} (hr : s.role p = some .console)
include hr

theorem takeControlBody_free (hh : s.regime.holder = none) : takeControlBody p s = accept (setHolder (some p) s) := by
  rw [takeControlBody, if_pos hr, hh]

theorem takeControlBody_own (hh : s.regime.holder = some p) : takeControlBody p s = accept s := by
  rw [takeControlBody, if_pos hr, hh]
  exact if_pos rfl

/-- Another holder of lower rank loses control, and one of the same rank or higher keeps it (R45). -/
theorem takeControlBody_other (hh : s.regime.holder = some h) (hne : h ≠ p) :
    takeControlBody p s =
      if rankValue s h < rankValue s p then accept (setHolder (some p) s) else refuse .held s := by
  rw [takeControlBody, if_pos hr, hh]
  exact if_neg hne

end

/-- Settles O32: the three tests of TAKE CONTROL in their order, and RELEASE CONTROL from the holder. -/
theorem consoleControlIsTakenAndReleased : Obligations.ConsoleControlIsTakenAndReleased := by
  refine ⟨fun s p hh => ⟨_, rfl, forRole_command hh (fun u hu => if_neg hu) fun hl hrole => ?_⟩,
    fun s p hh => ⟨_, rfl, controlled_command hh fun hc => ?_⟩⟩
  · have hw : (opened p (.takeControl p) s).load = none := hl
    have hr : (opened p (.takeControl p) s).role p = some .console :=
      (role_of_ready hw p).trans (congrArg some hrole)
    cases hholder : s.regime.holder with
    | none =>
      rw [afterLoad_accepted hh hl (takeControlBody_free hr hholder)]
      exact setHolder_answered hl (some p)
    | some h =>
      by_cases hp : h = p
      · subst hp
        have hok := command_refused hh ((afterLoad_ready hw).trans (takeControlBody_own hr hholder))
        obtain ⟨hframe, hothers, hanswers⟩ := hok
        dsimp only
        rw [if_pos rfl]
        exact ⟨hframe, hanswers, hothers⟩
      · have hbody := takeControlBody_other hr hholder hp
        rw [rankValue_of_ready hw, rankValue_of_ready hw] at hbody
        dsimp only
        rw [if_neg hp]
        by_cases hrank : s.config.ports[h].rank < s.config.ports[p].rank
        · rw [if_pos hrank, afterLoad_accepted hh hl (hbody.trans (if_pos hrank))]
          exact setHolder_answered hl (some p)
        · rw [if_neg hrank]
          exact command_refused hh ((afterLoad_ready hw).trans (hbody.trans (if_neg hrank)))
  · have hbody : releaseControlBody (opened p (.releaseControl p) s) =
        accept (setHolder none (opened p (.releaseControl p) s)) := rfl
    rw [controlled_accepted hc hbody]
    exact setHolder_answered hc.1.1 none

end Sys2Proof.Machine
end


section
/-! SUPPORT. The commands of the regime: ACKNOWLEDGE (O33), EVACUATE ALL (O36), SPREAD HOLD and SPREAD RESUME (O37). -/

namespace Sys2Proof.Machine

/-! ## An event of the regime as the whole part shows it -/

section
variable {s t u w : State} {p : Fin 4} {i : Instr}

/-- Nothing happens: the units keep everything and no notice is due. -/
theorem regimeWide_refl (s : State) : RegimeWide s s :=
  ⟨rfl, ⟨fun _ => rfl, fun _ => rfl, fun _ ⟨f, hf⟩ => absurd rfl hf,
    fun _ h => by simp at h, fun _ h => by simp at h⟩, fun _ => rfl, fun _ => rfl⟩

/-- The work of every unit after a change of the regime record, or of the door groups' overrides (R50, R51, R76). -/
theorem regimeWide_settle (hw : w = { s with regime := w.regime, dgroups := w.dgroups }) :
    RegimeWide s (settle s w) := by
  have hunits : UnitsKept s (settle s w) :=
    unitsKept_settle (by rw [hw]) (by rw [hw]) (by rw [hw]) (by rw [hw])
  refine ⟨?_, hunits, fun g => ?_, fun f => ?_⟩
  · exact (settle_eq_with s w).trans (by rw [hw])
  · rw [settle_lgroup, hw]
  · have hf : w.floors = s.floors := by rw [hw]
    rw [settle_floor, deriveFloors_floor, hf]

theorem UnitsKept.answered (h : UnitsKept (opened p i s) u) (r : Result) : UnitsKept s (setResult p r u) := by
  obtain ⟨hcars, hdoors, hfloor, hlift, hdoor⟩ := h
  exact ⟨hcars, hdoors, fun hl hx => Raised.setResult (s := s) (hfloor hl hx) p r,
    fun hl hx => Raised.setResult (s := s) (hlift hl hx) p r,
    fun hl hx => Raised.setResult (s := s) (hdoor hl hx) p r⟩

/-- The sender's port is not of the event. -/
theorem RegimeWide.answered (h : RegimeWide (opened p i s) u) (r : Result) : RegimeWide s (setResult p r u) := by
  obtain ⟨hframe, hunits, hmanual, hfloors⟩ := h
  exact ⟨congrArg (fun v : State => { v with ports := (setResult p r u).ports }) hframe, hunits.answered r, hmanual,
    hfloors⟩

theorem EntersActive.answered (h : EntersActive (opened p i s) u) (r : Result) :
    EntersActive s (setResult p r u) := by
  obtain ⟨hraised, hrest⟩ := h
  exact ⟨Raised.setResult (s := s) hraised p r, hrest⟩

/-- A change that the regime record shows, of no other unit, raises REGIME (R68). -/
theorem raised_regimeNotice (hl : s.load = none) {g : Regime} (h : regimeView s.regime ≠ regimeView g) :
    Raised .regime s (regimeNotice s (s.setRegime g)) :=
  raised_raiseIf hl rfl (bne_iff_ne.mpr h)

theorem quiet_regimeNotice_setRegime (s : State) (g : Regime) :
    QuietPorts s (regimeNotice s (s.setRegime g)) :=
  (quiet_of_ports rfl).trans (quiet_regimeNotice s _)

/-- The entry into ACTIVE from a hold, by ACKNOWLEDGE or by the hold's expiry: nothing else of the record is set, and no
override changes (R52 to R54). -/
theorem holdEnds (h0 : s.load = none) (hs : s.regime.state ≠ .active) :
    let t := settle s (enterActive s)
    EntersActive s t ∧ t.regime.firstAlarm = s.regime.firstAlarm ∧ t.regime.evacuateAll = s.regime.evacuateAll ∧
      RegimeWide s t ∧ QuietPorts s t ∧ ∀ g : Fin 16, t.dgroups[g].override = s.dgroups[g].override := by
  have hregime := settle_regime s (enterActive s)
  refine ⟨entersActive_settle h0 rfl rfl hs rfl, by rw [hregime]; rfl, by rw [hregime]; rfl, regimeWide_settle rfl,
    ?_, settle_override s _⟩
  exact (quiet_of_ports rfl).trans (quiet_settle s (enterActive s))

end

/-! ## ACKNOWLEDGE (R52) -/

/-- The record of HOLD_INVESTIGATE at an accepted ACKNOWLEDGE (R52). -/
def investigateRegime (s : State) : Regime :=
  { s.regime with state := .holdInvestigate, hold := some (seconds s.config.system.investigateTime) }

section
variable {s : State} {p : Fin 4}

theorem acknowledgeBody_refused (h : s.regime.state ≠ .holdAck) : acknowledgeBody s = refuse .state s := by
  unfold acknowledgeBody
  split
  · next hs => exact absurd hs h
  all_goals rfl

theorem acknowledgeBody_ends (h : s.regime.state = .holdAck) (h0 : s.config.system.investigateTime = 0) :
    acknowledgeBody s = accept (settle s (enterActive s)) := by
  simp only [acknowledgeBody, h, h0, if_true]

theorem acknowledgeBody_investigates (h : s.regime.state = .holdAck) (h0 : s.config.system.investigateTime ≠ 0) :
    acknowledgeBody s = accept (regimeNotice s (s.setRegime (investigateRegime s))) := by
  simp only [acknowledgeBody, h, h0, if_false, investigateRegime]

/-- An expiry of the hold that is not due does nothing (R55). -/
theorem holdTimerExpiry_early (h : s.regime.hold ≠ some 0) : exec .holdTimerExpiry s = .next s :=
  congrArg Host.Outcome.next (if_neg (mt (timerDue_iff _).mp h))

end

/-- Settles O33: a hold without investigate time ends at once, one with it runs on as HOLD_INVESTIGATE, and its timer is
not due. -/
theorem acknowledgeStartsTheInvestigation : Obligations.AcknowledgeStartsTheInvestigation := by
  intro s p hc
  obtain ⟨⟨hl, -⟩, -⟩ := id hc
  have hw : (opened p (.acknowledge p) s).load = none := hl
  refine ⟨_, rfl, ?_⟩
  by_cases hs : s.regime.state = .holdAck
  · have hsw : (opened p (.acknowledge p) s).regime.state = .holdAck := hs
    rw [if_pos hs]
    by_cases h0 : s.config.system.investigateTime = 0
    · rw [if_pos h0, controlled_accepted hc (acknowledgeBody_ends hsw h0)]
      obtain ⟨henters, hfirst, hevac, hwide, hquiet, hover⟩ := holdEnds hw (by rw [hsw]; nofun)
      have hactive := henters.answered (s := s) .ok
      exact ⟨accepted_setResult hquiet, hactive.1, hactive, hfirst, hevac, hwide.answered .ok, hover⟩
    · rw [if_neg h0, controlled_accepted hc (acknowledgeBody_investigates hsw h0)]
      have hview : regimeView (opened p (.acknowledge p) s).regime ≠
          regimeView (investigateRegime (opened p (.acknowledge p) s)) := by
        intro e
        have hstate := congrArg Prod.fst e
        rw [regimeView, hsw] at hstate
        cases hstate
      have hraised := raised_regimeNotice hw hview
      have hhold : some (seconds s.config.system.investigateTime) ≠ some 0 := by
        simp only [seconds_eq, ne_eq, Option.some.injEq]
        omega
      refine ⟨accepted_setResult (quiet_regimeNotice_setRegime _ _), Raised.setResult (s := s) hraised p .ok, ?_, ?_⟩
      · rw [regimeNotice_eq_with, ← seconds_eq]
        rfl
      · refine holdTimerExpiry_early ?_
        rw [regimeNotice_eq_with]
        exact hhold
  · rw [if_neg hs]
    have hsw : (opened p (.acknowledge p) s).regime.state ≠ .holdAck := hs
    exact controlled_refused hc (acknowledgeBody_refused hsw)

/-! ## SPREAD HOLD and SPREAD RESUME (R60, R61) -/

section
variable {s : State} {n : Nat}

theorem spreadHoldBody_not_running (h : ∀ n, s.regime.spread ≠ .running n) :
    spreadHoldBody s = refuse .state s := by
  unfold spreadHoldBody
  split
  · next hr => exact absurd hr (h _)
  · rfl

theorem spreadHoldBody_refused (h : ¬(s.regime.state = .active ∧ ¬ EveryFloorEvacuates s)) :
    spreadHoldBody s = refuse .state s := by
  unfold spreadHoldBody
  split
  · next ha _ => exact if_pos ((allEvacuate_iff s).mpr (not_not.mp fun he => h ⟨ha, he⟩))
  · rfl

theorem spreadHoldBody_accepted (h : s.regime.state = .active ∧ ¬ EveryFloorEvacuates s)
    (hr : s.regime.spread = .running n) :
    spreadHoldBody s =
      accept (regimeNotice s (s.setRegime { s.regime with spread := .frozen n, spreadHeld := true })) := by
  obtain ⟨ha, he⟩ := h
  simp only [spreadHoldBody, ha, hr]
  exact if_neg (mt (allEvacuate_iff s).mp he)

end

theorem spreadIsHeld {s : State} {p : Fin 4} (hc : InControl s p (.spreadHold p)) :
    let t := command p (Instr.bytes (.spreadHold p)) (controlled p spreadHoldBody) s
    match s.regime.spread with
    | .running n =>
      if s.regime.state = .active ∧ ¬ EveryFloorEvacuates s then
        t = { s with regime := { s.regime with spread := .frozen n, spreadHeld := true }, ports := t.ports } ∧
          Accepted p s t
      else RefusedAs p .state s t
    | .frozen _ => RefusedAs p .state s t
    | .stopped => RefusedAs p .state s t := by
  cases hr : s.regime.spread with
  | running n =>
    dsimp only
    by_cases h : s.regime.state = .active ∧ ¬ EveryFloorEvacuates s
    · rw [if_pos h, controlled_accepted hc (spreadHoldBody_accepted (s := opened p (.spreadHold p) s) h hr)]
      refine ⟨?_, accepted_setResult (quiet_regimeNotice_setRegime _ _)⟩
      rw [regimeNotice_eq_with]
      rfl
    · rw [if_neg h]
      exact controlled_refused hc (spreadHoldBody_refused (s := opened p (.spreadHold p) s) h)
  | frozen | stopped =>
    have hn (n : Nat) : (opened p (.spreadHold p) s).regime.spread ≠ .running n := by
      have hsp : (opened p (.spreadHold p) s).regime.spread = s.regime.spread := rfl
      rw [hsp, hr]
      nofun
    exact controlled_refused hc (spreadHoldBody_not_running hn)

theorem spreadIsResumed {s : State} {p : Fin 4} (hc : InControl s p (.spreadResume p)) :
    let t := command p (Instr.bytes (.spreadResume p)) (controlled p spreadResumeBody) s
    if s.regime.state = .active ∧ s.regime.spreadHeld = true then
      Accepted p s t ∧ Raised .regime s t ∧ t.regime.spreadHeld = false ∧
      t = { s with regime := t.regime, ports := t.ports } ∧
      t.regime = { s.regime with spread := t.regime.spread, spreadHeld := false } ∧
      ∀ n, s.regime.spread = .frozen n → t.regime.spread = .running n
    else RefusedAs p .state s t := by
  have hw : (opened p (.spreadResume p) s).load = none := hc.1.1
  by_cases ha : s.regime.state = .active ∧ s.regime.spreadHeld = true
  · have hheld : (opened p (.spreadResume p) s).regime.spreadHeld = true := ha.2
    dsimp only
    rw [if_pos ha, controlled_accepted hc (if_pos ha)]
    have hraised := raised_regimeNotice hw
      (g := { (opened p (.spreadResume p) s).regime with
        spread := thaw (opened p (.spreadResume p) s).regime.spread, spreadHeld := false })
      (by simp [regimeView, hheld])
    refine ⟨accepted_setResult (quiet_regimeNotice_setRegime _ _), Raised.setResult (s := s) hraised p .ok, ?_⟩
    rw [regimeNotice_eq_with]
    refine ⟨rfl, rfl, rfl, fun n hn => ?_⟩
    show thaw s.regime.spread = .running n
    rw [hn]
    rfl
  · dsimp only
    rw [if_neg ha]
    exact controlled_refused hc (if_neg ha)

/-- Settles O37: each by the tests of its own rule. -/
theorem spreadIsHeldAndResumed : Obligations.SpreadIsHeldAndResumed :=
  ⟨fun _ _ hc => ⟨_, rfl, spreadIsHeld hc⟩, fun _ _ hc => ⟨_, rfl, spreadIsResumed hc⟩⟩

/-! ## EVACUATE ALL (R59) -/

/-- The record with evacuate-all set (R59). -/
def withEvacuateAll (s : State) : State := s.setRegime { s.regime with evacuateAll := true }

/-- The state at an EVACUATE ALL that is accepted and not already in force, before the work of every unit (R59). -/
def evacuating (s : State) : State :=
  match s.regime.state with
  | .quiet => enterActive (revertForceSecure (withEvacuateAll s))
  | .holdAck | .holdInvestigate => enterActive (withEvacuateAll s)
  | .active =>
    s.setRegime { s.regime with evacuateAll := true, spread := .stopped, spreadHeld := false }

section
variable {s : State}

theorem evacuateAllBody_again (h : s.regime.evacuateAll = true ∧ s.regime.state = .active) :
    evacuateAllBody s = accept s := by
  obtain ⟨he, ha⟩ := h
  simp only [evacuateAllBody, ha, he, if_true]

theorem evacuateAllBody_new (h : ¬(s.regime.evacuateAll = true ∧ s.regime.state = .active)) :
    evacuateAllBody s = accept (settle s (evacuating s)) := by
  cases hs : s.regime.state with
  | active =>
    have he : ¬ s.regime.evacuateAll = true := fun he => h ⟨he, hs⟩
    simp only [evacuateAllBody, evacuating, hs, he]
    rfl
  | quiet | holdAck | holdInvestigate => simp only [evacuateAllBody, evacuating, hs]; rfl

theorem evacuating_frame (s : State) :
    evacuating s = { s with regime := (evacuating s).regime, dgroups := (evacuating s).dgroups } := by
  unfold evacuating
  split <;> rfl

theorem evacuating_regime (s : State) :
    (evacuating s).regime.state = .active ∧ (evacuating s).regime.evacuateAll = true ∧
      (evacuating s).regime.firstAlarm = s.regime.firstAlarm := by
  unfold evacuating
  split
  · exact ⟨rfl, rfl, rfl⟩
  · exact ⟨rfl, rfl, rfl⟩
  · exact ⟨rfl, rfl, rfl⟩
  · next hs => exact ⟨hs, rfl, rfl⟩

theorem evacuating_spread_ne_zero (s : State) : (evacuating s).regime.spread ≠ .running 0 := by
  unfold evacuating
  split <;> nofun

/-- The FORCE_SECURE groups revert exactly at the exit from QUIET (R51). -/
theorem evacuating_override (s : State) (g : Fin 16) :
    (evacuating s).dgroups[g].override =
      if s.regime.state = .quiet ∧ s.dgroups[g].override = .forceSecure then .auto else s.dgroups[g].override := by
  cases hs : s.regime.state with
  | quiet =>
    simp only [evacuating, hs, true_and]
    exact revertForceSecure_override (withEvacuateAll s) g
  | holdAck | holdInvestigate | active => simp only [evacuating, hs, reduceCtorEq, false_and, if_false]; rfl

/-- In ACTIVE every present floor evacuates under evacuate-all (R73). -/
theorem everyFloorEvacuates_of_evacuateAll (s0 : State) {w : State} (ha : w.regime.state = .active)
    (he : w.regime.evacuateAll = true) : EveryFloorEvacuates (settle s0 w) := by
  rw [everyFloorEvacuates_settle]
  intro f hf
  have hp : w.present f = true := hf
  rw [deriveFloors_status hp]
  simp only [statusOf, ha, he, if_true]

theorem evacuating_raises (hl : s.load = none) (h : ¬(s.regime.evacuateAll = true ∧ s.regime.state = .active)) :
    Raised .regime s (settle s (evacuating s)) := by
  obtain ⟨hstate, hevac, -⟩ := evacuating_regime s
  refine raised_regime_settle (by rw [evacuating_frame]) (by rw [evacuating_frame]) hl fun e => h ?_
  rw [spreadStop_regime (deriveFloors (evacuating s))] at e
  simp only [regimeView, Prod.mk.injEq] at e
  obtain ⟨hs, -, -, -, -, he⟩ := e
  exact ⟨he.trans hevac, hs.trans hstate⟩

theorem evacuating_enters (hl : s.load = none) (hs : s.regime.state ≠ .active) :
    EntersActive s (settle s (evacuating s)) := by
  cases hq : s.regime.state with
  | quiet =>
    simp only [evacuating, hq]
    exact entersActive_settle hl rfl rfl hs rfl
  | holdAck | holdInvestigate =>
    simp only [evacuating, hq]
    exact entersActive_settle hl rfl rfl hs rfl
  | active => exact absurd hq hs

/-- In ACTIVE nothing but evacuate-all and the stop of the spread timer changes (R59). -/
theorem evacuating_active (ha : s.regime.state = .active) :
    (settle s (evacuating s)).regime =
      { s.regime with
        evacuateAll := true, spread := .stopped, spreadHeld := false
        trouble := (settle s (evacuating s)).regime.trouble } := by
  obtain ⟨hstate, hevac, -⟩ := evacuating_regime s
  have h := settle_regime_of_all (s0 := s) hstate (everyFloorEvacuates_of_evacuateAll s hstate hevac)
    (evacuating_spread_ne_zero s)
  refine Eq.trans h ?_
  have he : (evacuating s).regime = { s.regime with evacuateAll := true, spread := .stopped, spreadHeld := false } := by
    simp only [evacuating, ha, setRegime_regime]
  rw [he]

theorem overridesFollow_evacuating (s : State) : OverridesFollow s (settle s (evacuating s)) := by
  intro g
  have hne : (settle s (evacuating s)).regime.state ≠ .quiet := by
    rw [settle_regime]
    dsimp only
    rw [(evacuating_regime s).1]
    nofun
  rw [settle_override, evacuating_override]
  simp only [hne, ne_eq, not_false_eq_true, true_and]

end

/-- Settles O36: already in force it changes nothing, and otherwise every unit works on the regime that it makes. -/
theorem evacuateAllEvacuatesEveryFloor : Obligations.EvacuateAllEvacuatesEveryFloor := by
  intro s p hc
  obtain ⟨⟨hl, -⟩, -⟩ := id hc
  refine ⟨_, rfl, ?_⟩
  by_cases h : s.regime.evacuateAll = true ∧ s.regime.state = .active
  · rw [controlled_accepted hc (evacuateAllBody_again h)]
    obtain ⟨he, ha⟩ := id h
    refine ⟨accepted_setResult (.refl _), he, ha, rfl, (regimeWide_refl _).answered .ok, fun g => ?_, fun _ => rfl,
      fun hn => absurd h hn⟩
    rw [ha, if_neg nofun]
    rfl
  · rw [controlled_accepted hc (evacuateAllBody_new h)]
    have hw : (opened p (.evacuateAll p) s).load = none := hl
    have hn : ¬((opened p (.evacuateAll p) s).regime.evacuateAll = true ∧
      (opened p (.evacuateAll p) s).regime.state = .active) := h
    obtain ⟨hstate, hevac, hfirst⟩ := evacuating_regime (opened p (.evacuateAll p) s)
    have hquiet : QuietPorts (opened p (.evacuateAll p) s) (settle (opened p (.evacuateAll p) s)
        (evacuating (opened p (.evacuateAll p) s))) :=
      (quiet_of_ports (by rw [evacuating_frame])).trans (quiet_settle _ _)
    have hregime := settle_regime (opened p (.evacuateAll p) s) (evacuating (opened p (.evacuateAll p) s))
    have hwide := regimeWide_settle (evacuating_frame (opened p (.evacuateAll p) s))
    have hover := overridesFollow_evacuating (opened p (.evacuateAll p) s)
    have hall := everyFloorEvacuates_of_evacuateAll (opened p (.evacuateAll p) s) hstate hevac
    have hraised := evacuating_raises hw hn
    have hactive := evacuating_active (s := opened p (.evacuateAll p) s)
    have henters := evacuating_enters (s := opened p (.evacuateAll p) s) hw
    refine ⟨accepted_setResult hquiet, ?_, ?_, ?_, hwide.answered .ok, hover, fun hx => absurd hx h, fun _ =>
      ⟨hall, Raised.setResult (s := s) hraised p .ok, hactive, fun hs => (henters hs).answered .ok⟩⟩
    · exact (congrArg Regime.evacuateAll hregime).trans hevac
    · exact (congrArg Regime.state hregime).trans hstate
    · exact (congrArg Regime.firstAlarm hregime).trans hfirst

end Sys2Proof.Machine
end


section
/-! SUPPORT. SILENCE and RESOUND: the regime's entries of the announcement queue (O35). -/

namespace Sys2Proof.Machine

/-! ## What the assignment leaves in the slots (R150, R151) -/

section
variable {k : Fin 16}

theorem set_entry_some {es : Vector (Option Entry) 16} {sl : Fin 16} (e : Entry) (hk : es[k] ≠ none) :
    (es.set sl (some e))[k] ≠ none := by
  rw [getElem_set_fin]
  split
  · nofun
  · exact hk

theorem fillIdle_keeps_entry : ∀ (n : Nat) {s : State}, s.entries[k] ≠ none → (fillIdle n s).entries[k] ≠ none
  | 0, _, h => h
  | n + 1, s, h => by
    rw [fillIdle]
    split
    · exact fillIdle_keeps_entry n (set_entry_some _ h)
    · exact h

theorem preempt_keeps_entry : ∀ (n : Nat) {s : State}, s.entries[k] ≠ none → (preempt n s).entries[k] ≠ none
  | 0, _, h => h
  | n + 1, s, h => by
    rw [preempt]
    split
    · dsimp only
      split
      · exact preempt_keeps_entry n (set_entry_some _ h)
      · exact h
    · exact h

/-- The assignment neither fills nor empties a slot. -/
theorem assign_entry_eq_none_iff (s : State) : (assign s).entries[k] = none ↔ s.entries[k] = none :=
  ⟨fun h => not_not.mp fun hk => preempt_keeps_entry 4 (fillIdle_keeps_entry 4 hk) h, assign_keeps_empty⟩

/-! ## The regime's entries (R146, R148) -/

/-- The removal of an entry empties its own slot alone. -/
theorem removeEntry_eq_none_iff (s : State) {sl : Fin 16} (hk : k ≠ sl) :
    (removeEntry sl s).entries[k] = none ↔ s.entries[k] = none := by
  have hw (age : Nat) : (withoutSlot s.entries sl age)[k] = none ↔ s.entries[k] = none := by
    have he : (withoutSlot s.entries sl age)[k] =
        if k = sl then none else s.entries[k].map fun x => if age < x.age then { x with age := x.age - 1 } else x :=
      getElem_tabulate _ _ _
    rw [he, if_neg hk, Option.map_eq_none_iff]
  unfold removeEntry
  split
  · rfl
  · next e _ =>
    dsimp only
    split
    · exact hw e.age
    · exact hw e.age

theorem setFloors_eq_none_iff (s : State) (sl : Fin 16) (fs : FloorSet) :
    (setFloors sl fs s).entries[k] = none ↔ s.entries[k] = none := by
  unfold setFloors
  split
  · rfl
  · next e he =>
    dsimp only
    rw [getElem_set_fin]
    split
    · next hk => subst hk; simp only [he, reduceCtorEq]
    · rfl

/-- A regime entry stands after an event exactly when its floor set is not empty (R146). -/
theorem regimeEntry_self (sl : Fin 16) (cls : AnnClass) (message : Byte) (fs : FloorSet) (s : State) :
    (regimeEntry sl cls message fs s).entries[sl] = none ↔ fs = 0 := by
  unfold regimeEntry
  split
  · next h => exact iff_of_true (removeEntry_eq_none (.inl rfl)) h
  · next h =>
    refine iff_of_false ?_ h
    split
    · rw [createEntry, getElem_set_fin, if_pos rfl]
      nofun
    · next e he =>
      rw [setFloors_eq_none_iff, he]
      nofun

theorem regimeEntry_other (sl : Fin 16) (cls : AnnClass) (message : Byte) (fs : FloorSet) (s : State) (hk : k ≠ sl) :
    (regimeEntry sl cls message fs s).entries[k] = none ↔ s.entries[k] = none := by
  unfold regimeEntry
  split
  · exact removeEntry_eq_none_iff s hk
  · split
    · rw [createEntry, getElem_set_fin, if_neg hk]
    · exact setFloors_eq_none_iff s sl fs

theorem floorsOf_eq_zero_iff (st : FloorStatus) (s : State) :
    floorsOf st s = 0 ↔ ∀ f : Fin 48, s.present f = true → s.floors[f].status ≠ st := by
  have hhas (f : Fin 48) : (floorsOf st s).has f = (s.present f && s.floors[f].status == st) := by
    simp only [floorsOf, FloorSet.has_ofPred, f.isLt, dif_pos]
  constructor
  · intro h f hp hs
    have hf := hhas f
    rw [h, hp, hs, beq_self_eq_true, Bool.and_self] at hf
    simp [FloorSet.has] at hf
  · intro h
    refine BitVec.eq_of_getLsbD_eq fun i hi => ?_
    have hf := hhas ⟨i, hi⟩
    have hfalse : (s.present (⟨i, hi⟩ : Fin 48) && s.floors[(⟨i, hi⟩ : Fin 48)].status == st) = false := by
      cases hp : s.present (⟨i, hi⟩ : Fin 48) with
      | false => rfl
      | true => exact beq_eq_false_iff_ne.mpr (h ⟨i, hi⟩ hp)
    rw [hfalse] at hf
    exact hf.trans BitVec.getLsbD_zero.symm

/-- In ACTIVE and not silenced the two entries stand exactly while their floors do (R146). -/
theorem regimeEntries_speaking {s : State} (ha : s.regime.state = .active) (hs : s.regime.silenced = false) :
    ((regimeEntries s).entries[evacuateSlot] = none ↔
      ∀ f : Fin 48, s.present f = true → s.floors[f].status ≠ .evacuate) ∧
    ((regimeEntries s).entries[alertSlot] = none ↔
      ∀ f : Fin 48, s.present f = true → s.floors[f].status ≠ .alert) := by
  have hne : evacuateSlot ≠ alertSlot := by decide
  rw [← floorsOf_eq_zero_iff, ← floorsOf_eq_zero_iff, regimeEntries, if_pos ⟨ha, hs⟩]
  dsimp only
  refine ⟨?_, ?_⟩
  · rw [regimeEntry_other _ _ _ _ _ hne, regimeEntry_self]
  · rw [regimeEntry_self]

/-- Silenced, or outside ACTIVE, the regime has no entries (R148, R160). -/
theorem regimeEntries_silent {s : State} (h : ¬(s.regime.state = .active ∧ s.regime.silenced = false)) :
    (regimeEntries s).entries[evacuateSlot] = none ∧ (regimeEntries s).entries[alertSlot] = none := by
  rw [regimeEntries, if_neg h]
  exact ⟨removeEntry_eq_none (.inr (removeEntry_eq_none (.inl rfl))), removeEntry_eq_none (.inl rfl)⟩

end

/-! ## The router's work (R146, R147) -/

section
variable (s0 s : State)

theorem routerSettle_entry_eq_none_iff (k : Fin 16) :
    (routerSettle s0 s).entries[k] = none ↔ (regimeEntries (stripTenants s)).entries[k] = none := by
  rw [routerSettle_entries, assign_entry_eq_none_iff]

theorem routerSettle_speaking (ha : s.regime.state = .active) (hs : s.regime.silenced = false) :
    ((routerSettle s0 s).entries[evacuateSlot] = none ↔
      ∀ f : Fin 48, s.present f = true → s.floors[f].status ≠ .evacuate) ∧
    ((routerSettle s0 s).entries[alertSlot] = none ↔
      ∀ f : Fin 48, s.present f = true → s.floors[f].status ≠ .alert) := by
  have hr : (stripTenants s).regime = s.regime := by simp
  have hf : (stripTenants s).floors = s.floors := by simp
  have hp (f : Nat) : (stripTenants s).present f = s.present f := by simp [State.present]
  have h := regimeEntries_speaking (s := stripTenants s) (by rw [hr]; exact ha) (by rw [hr]; exact hs)
  simp only [hf, hp] at h
  rw [routerSettle_entry_eq_none_iff, routerSettle_entry_eq_none_iff]
  exact h

theorem routerSettle_silent (h : s.regime.silenced = true) :
    (routerSettle s0 s).entries[evacuateSlot] = none ∧ (routerSettle s0 s).entries[alertSlot] = none := by
  have hr : (stripTenants s).regime = s.regime := by simp
  rw [routerSettle_entry_eq_none_iff, routerSettle_entry_eq_none_iff]
  exact regimeEntries_silent fun hc => by rw [hr, h] at hc; cases hc.2

/-- The router's work touches the announcements alone. -/
theorem onlyAnnouncements_routerSettle : OnlyAnnouncements s (routerSettle s0 s) := by
  refine ⟨?_, ?_, routerSettle_floor s0 s⟩
  · obtain ⟨hload, hconfig, henable, hstore, hbusy, hslot, hlines, hpgroups, hlgroups, hcars, hdoors, hdgroups,
      hresecure, hstagger, hfree, hpending⟩ := routerSettle_frame s s0
    rw [← hload, ← hconfig, ← henable, ← hstore, ← hbusy, ← hslot, ← hlines, ← hpgroups, ← hlgroups, ← hcars,
      ← hdoors, ← hdgroups, ← hresecure, ← hstagger, ← hfree, ← hpending]
  · rw [routerSettle, routerFinish_regime]
    simp

end

/-! ## A change of silenced (R57, R58) -/

section
variable {s t u : State} {p : Fin 4} {i : Instr}

theorem setSilenced_eq_with (b : Bool) (s : State) :
    setSilenced b s =
      { routerSettle s (s.setRegime { s.regime with silenced := b }) with ports := (setSilenced b s).ports } := by
  rw [setSilenced, regimeNotice_eq_with]

theorem setSilenced_onlyAnnouncements (b : Bool) (s : State) :
    OnlyAnnouncements { s with regime := { s.regime with silenced := b } } (setSilenced b s) := by
  obtain ⟨hframe, hregime, hfloors⟩ :=
    onlyAnnouncements_routerSettle s (s.setRegime { s.regime with silenced := b })
  rw [setSilenced_eq_with]
  exact ⟨congrArg (fun v : State => { v with ports := (setSilenced b s).ports }) hframe, hregime, hfloors⟩

/-- The sender's port is not of the event. -/
theorem OnlyAnnouncements.answered {g : Regime} (h : OnlyAnnouncements { opened p i s with regime := g } u)
    (r : Result) : OnlyAnnouncements { s with regime := g } (setResult p r u) := by
  obtain ⟨hframe, hrest⟩ := h
  exact ⟨congrArg (fun v : State => { v with ports := (setResult p r u).ports }) hframe, hrest⟩

theorem setSilenced_regime (b : Bool) (s : State) :
    (setSilenced b s).regime =
      { s.regime with
        silenced := b
        trouble := { s.regime.trouble with voice := (setSilenced b s).regime.trouble.voice } } :=
  (setSilenced_onlyAnnouncements b s).2.1

/-- Of the record a command shows only silenced as set; r, the state and the silence inhibit stay (R57, R58). -/
theorem setSilenced_fields (b : Bool) (s : State) :
    (setSilenced b s).regime.silenced = b ∧ (setSilenced b s).regime.r = s.regime.r ∧
      (setSilenced b s).regime.state = s.regime.state ∧ (setSilenced b s).regime.inhibit = s.regime.inhibit := by
  rw [setSilenced_regime]
  exact ⟨rfl, rfl, rfl, rfl⟩

theorem setSilenced_raises (hl : s.load = none) {b : Bool} (h : s.regime.silenced ≠ b) :
    Raised .regime s (setSilenced b s) := by
  refine raised_raiseIf (by simpa using hl) (by simp) (bne_iff_ne.mpr fun e => h ?_)
  have hr := onlyTroubles_routerSettle s (s.setRegime { s.regime with silenced := b })
  rw [hr] at e
  simp only [regimeView, setRegime_regime, Prod.mk.injEq] at e
  exact e.2.2.1

/-! ## SILENCE (R57) -/

theorem silenceBody_not_active (h : s.regime.state ≠ .active) : silenceBody s = refuse .state s := by
  unfold silenceBody
  split
  · next hs => exact absurd hs h
  all_goals rfl

theorem silenceBody_inhibited (ha : s.regime.state = .active) (h : s.regime.inhibit ≠ none) :
    silenceBody s = refuse .tooEarly s := by
  simp only [silenceBody, ha, Option.isSome_iff_ne_none, if_pos h]

theorem silenceBody_active (ha : s.regime.state = .active) (h : s.regime.inhibit = none) :
    silenceBody s = accept (if s.regime.silenced = true then s else setSilenced true s) := by
  simp only [silenceBody, ha, h, Option.isSome_none, Bool.false_eq_true, if_false]
  split <;> rfl

theorem silence_accepted (hc : InControl s p (.silence p)) (ha : s.regime.state = .active)
    (hi : s.regime.inhibit = none) :
    let t := command p (Instr.bytes (.silence p)) (controlled p silenceBody) s
    Accepted p s t ∧ t.regime.silenced = true ∧ t.regime.r = s.regime.r ∧ t.regime.state = .active ∧
      (s.regime.silenced = true → t = { s with ports := t.ports }) ∧
      (s.regime.silenced = false →
        Raised .regime s t ∧ t.entries[evacuateSlot] = none ∧ t.entries[alertSlot] = none ∧
        OnlyAnnouncements { s with regime := { s.regime with silenced := true } } t) := by
  have hbody := silenceBody_active (s := opened p (.silence p) s) ha hi
  dsimp only
  cases hs : s.regime.silenced with
  | true =>
    rw [controlled_accepted hc (hbody.trans (congrArg accept (if_pos hs)))]
    exact ⟨accepted_setResult (.refl _), hs, rfl, ha, fun _ => rfl, nofun⟩
  | false =>
    have hne : (opened p (.silence p) s).regime.silenced ≠ true := by
      have hw : (opened p (.silence p) s).regime.silenced = false := hs
      rw [hw]
      nofun
    rw [controlled_accepted hc (hbody.trans (congrArg accept (if_neg hne)))]
    have hl : (opened p (.silence p) s).load = none := hc.1.1
    obtain ⟨hsilenced, hradius, hstate, -⟩ := setSilenced_fields true (opened p (.silence p) s)
    have hraised := setSilenced_raises hl hne
    have honly := setSilenced_onlyAnnouncements true (opened p (.silence p) s)
    have hentries : (setSilenced true (opened p (.silence p) s)).entries[evacuateSlot] = none ∧
        (setSilenced true (opened p (.silence p) s)).entries[alertSlot] = none := by
      rw [setSilenced_eq_with]
      exact routerSettle_silent _ _ rfl
    exact ⟨accepted_setResult (quiet_setSilenced true _), hsilenced, hradius, hstate.trans ha, nofun, fun _ =>
        ⟨Raised.setResult (s := s) hraised p .ok, hentries.1, hentries.2, honly.answered .ok⟩⟩

/-! ## RESOUND (R58) -/

theorem resound_accepted (hc : InControl s p (.resound p))
    (h : s.regime.state = .active ∧ s.regime.silenced = true) :
    let t := command p (Instr.bytes (.resound p)) (controlled p resoundBody) s
    Accepted p s t ∧ Raised .regime s t ∧ t.regime.silenced = false ∧ t.regime.r = s.regime.r ∧
      t.regime.inhibit = s.regime.inhibit ∧
      (t.entries[evacuateSlot] = none ↔ ∀ f : Fin 48, s.present f = true → s.floors[f].status ≠ .evacuate) ∧
      (t.entries[alertSlot] = none ↔ ∀ f : Fin 48, s.present f = true → s.floors[f].status ≠ .alert) ∧
      OnlyAnnouncements { s with regime := { s.regime with silenced := false } } t := by
  have hbody : resoundBody (opened p (.resound p) s) = accept (setSilenced false (opened p (.resound p) s)) :=
    if_pos h
  dsimp only
  rw [controlled_accepted hc hbody]
  have hl : (opened p (.resound p) s).load = none := hc.1.1
  have hne : (opened p (.resound p) s).regime.silenced ≠ false := by
    have hw : (opened p (.resound p) s).regime.silenced = true := h.2
    rw [hw]
    nofun
  obtain ⟨hsilenced, hradius, -, hinhibit⟩ := setSilenced_fields false (opened p (.resound p) s)
  have hraised := setSilenced_raises hl hne
  have honly := setSilenced_onlyAnnouncements false (opened p (.resound p) s)
  have hentries := routerSettle_speaking (opened p (.resound p) s)
    ((opened p (.resound p) s).setRegime { (opened p (.resound p) s).regime with silenced := false }) h.1 rfl
  have hslots (k : Fin 16) := congrArg (fun v : State => v.entries[k])
    (setSilenced_eq_with false (opened p (.resound p) s))
  refine ⟨accepted_setResult (quiet_setSilenced false _), Raised.setResult (s := s) hraised p .ok, hsilenced,
    hradius, hinhibit, ?_, ?_,
    honly.answered .ok⟩
  · rw [← (hslots evacuateSlot)] at hentries
    exact hentries.1
  · rw [← (hslots alertSlot)] at hentries
    exact hentries.2

end

/-- Settles O35: each test in its order, and the regime's entries after the change of silenced. -/
theorem silenceAndResound : Obligations.SilenceAndResound := by
  refine ⟨fun s p hc => ⟨_, rfl, ?_⟩, fun s p hc => ⟨_, rfl, ?_⟩⟩
  · by_cases ha : s.regime.state = .active
    · rw [if_neg (not_not.mpr ha)]
      by_cases hi : s.regime.inhibit = none
      · rw [if_neg (not_not.mpr hi)]
        exact silence_accepted hc ha hi
      · rw [if_pos hi]
        exact controlled_refused hc (silenceBody_inhibited (s := opened p (.silence p) s) ha hi)
    · rw [if_pos ha]
      exact controlled_refused hc (silenceBody_not_active (s := opened p (.silence p) s) ha)
  · by_cases h : s.regime.state = .active ∧ s.regime.silenced = true
    · rw [if_pos h]
      exact resound_accepted hc h
    · rw [if_neg h]
      exact controlled_refused hc (if_neg h)

end Sys2Proof.Machine
end


section
/-! SUPPORT. The port reset (O53). -/

namespace Sys2Proof.Machine

/-! ## The port's context after the reset (R181) -/

/-- The frame of a port after its reset: edges are ignored until the end of a frame that was told (R181). -/
def frameReset : Frame → Frame
  | .none => .none
  | .implied _ => .none
  | _ => .ignoring

/-- What a port reset after `n` clock edges leaves of the context `c` of its port. -/
structure PortWasReset (s : State) (n : Nat) (c d : Port) : Prop where
  context : ContextReset d
  lastResult : d.lastResult = .ok
  conflict : d.conflict = c.conflict
  kept : c.notices &&& ~~~d.notices = 0
  rejoined : ∀ taken, c.reply = .notices taken → taken &&& ~~~d.notices = 0
  attention : d.attention = (d.notices != 0)
  out : ClockedOut s c n d.out
  frame : d.frame = frameReset c.frame

section
variable {s : State} {n : Nat} {c d e : Port}

theorem kinds_and_not_zero (a : NoticeSet) : a &&& ~~~(0 : NoticeSet) = a := by
  have h : ~~~(0 : NoticeSet) = BitVec.allOnes 11 := by decide
  rw [h, BitVec.and_allOnes]

/-- The end of a reply keeps the notice set, and the kinds of a cut NOTICES reply rejoin it (R175). -/
theorem endReply_notices (c : Port) :
    c.notices &&& ~~~(endReply c).notices = 0 ∧
      ∀ taken, c.reply = .notices taken → taken &&& ~~~(endReply c).notices = 0 := by
  unfold endReply
  split
  · next kinds hr =>
    refine ⟨(joined_recordKinds kinds { c with reply := .none }).2, fun taken ht => ?_⟩
    obtain rfl : kinds = taken := by rw [hr] at ht; exact Reply.notices.inj ht
    unfold recordKinds
    split
    · next h0 => rw [h0]; exact BitVec.zero_and
    · rw [judgeAttention, BitVec.or_comm]
      exact kinds_sub_or _ _
  · next hr => exact ⟨by simp, fun taken ht => absurd ht (hr taken)⟩

theorem endReply_reply (c : Port) : (endReply c).reply = .none ∧ (endReply c).conflict = c.conflict := by
  unfold endReply recordKinds
  split
  · split <;> exact ⟨rfl, rfl⟩
  · exact ⟨rfl, rfl⟩

theorem portWasReset_resetPort (s : State) (n : Nat) (c : Port) : PortWasReset s n c (resetPort s n c) where
  context := ⟨rfl, rfl, rfl, rfl, rfl, rfl, rfl, rfl, rfl, (endReply_reply c).1⟩
  lastResult := rfl
  conflict := (endReply_reply c).2
  kept := (endReply_notices c).1
  rejoined := (endReply_notices c).2
  attention := congrArg (· != 0) (kinds_and_not_zero (endReply c).notices)
  out := clockedOut_spec s n c
  frame := by
    show abandonFrame c.frame = frameReset c.frame
    cases c.frame <;> rfl

/-- Kinds that join the set afterwards leave the rest of the context, with the attention line as they make it. -/
theorem PortWasReset.joined (h : PortWasReset s n c d) (hj : NoticesJoined d e)
    (ha : e.attention = (e.notices != 0)) : PortWasReset s n c e := by
  obtain ⟨hcontext, hresult, hconflict, hkept, hrejoined, -, hout, hframe⟩ := h
  obtain ⟨he, hsub⟩ := hj
  rw [he] at ha hsub ⊢
  exact ⟨hcontext, hresult, hconflict, kinds_sub_trans hkept hsub, fun taken ht => kinds_sub_trans (hrejoined taken ht)
    hsub, ha, hout, hframe⟩

/-- A kind that is recorded at an unmasked port leaves the attention line to show whether any is pending (R180). -/
theorem recordKinds_attention (ks : NoticeSet) (hm : c.mask = 0) (ha : c.attention = (c.notices != 0)) :
    (recordKinds ks c).attention = ((recordKinds ks c).notices != 0) := by
  unfold recordKinds
  split
  · exact ha
  · simp only [judgeAttention, hm, kinds_and_not_zero]

theorem raise_attention (ks : NoticeSet) (s : State) {q : Fin 4} (hm : s.ports[q].mask = 0)
    (ha : s.ports[q].attention = (s.ports[q].notices != 0)) :
    (raise ks s).ports[q].attention = ((raise ks s).ports[q].notices != 0) := by
  rw [raise_port]
  split
  · exact ha
  · exact recordKinds_attention _ hm ha

end

/-! ## The step -/

/-- The state with the port's context reset, before the holder is judged (R181). -/
def portCleared (p : Fin 4) (n : Nat) (s : State) : State :=
  { s.setPort p (resetPort s n s.ports[p]) with free := drawnAtEnd s p }

section
variable {s : State} {p : Fin 4} {n : Nat}

theorem portCleared_self : (portCleared p n s).ports[p] = resetPort s n s.ports[p] := setPort_self s p _

theorem portCleared_other {q : Fin 4} (h : q ≠ p) : (portCleared p n s).ports[q] = s.ports[q] :=
  setPort_other s p _ q h

/-- A value is drawn during the load only (R171; log entry 6). -/
theorem drawnAtEnd_of_ready (hl : s.load = none) (p : Fin 4) : drawnAtEnd s p = s.free := by
  unfold drawnAtEnd
  split
  · next captured _ => cases captured <;> simp [drawn, State.loading, hl]
  all_goals rfl

theorem exec_portReset (s : State) (p : Fin 4) (n : Nat) :
    exec (.portReset ⟨p, n⟩) s =
      .next (if s.regime.holder = some p then setHolder none (portCleared p n s) else portCleared p n s) := rfl

theorem setHolder_ports (h : Option (Fin 4)) (s : State) (q : Fin 4) :
    NoticesJoined s.ports[q] (setHolder h s).ports[q] := quiet_setHolder h s q

/-- The port's context with the CONTROL notice of a holder's reset (R47). -/
theorem portWasReset_setHolder (s : State) (p : Fin 4) (n : Nat) :
    PortWasReset s n s.ports[p] (setHolder none (portCleared p n s)).ports[p] := by
  have hreset : PortWasReset s n s.ports[p] (portCleared p n s).ports[p] := by
    rw [portCleared_self]
    exact portWasReset_resetPort s n s.ports[p]
  obtain ⟨-, -, -, -, -, -, -, -, hmask, -⟩ := hreset.context
  refine hreset.joined (setHolder_ports none _ p) ?_
  exact raise_attention _ ((portCleared p n s).setRegime { (portCleared p n s).regime with holder := none }) hmask
    hreset.attention

end

/-- Settles O53: the context by the port's own reset, and CONTROL where the port held it. -/
theorem portResetReturnsTheContext : Obligations.PortResetReturnsTheContext := by
  intro s p n
  rw [exec_portReset]
  refine ⟨_, rfl, ?_⟩
  by_cases hp : s.regime.holder = some p
  · rw [if_pos hp, if_pos hp]
    obtain ⟨hcontext, hresult, hconflict, hkept, hrejoined, hattention, hout, hframe⟩ := portWasReset_setHolder s p n
    refine ⟨rfl, fun hl => drawnAtEnd_of_ready hl p, rfl, fun q hq => ?_, fun hl _ => ?_, hcontext, hresult, hconflict,
      hkept, hrejoined, hattention, hout, hframe⟩
    · have hj := setHolder_ports none (portCleared p n s) q
      rw [portCleared_other hq] at hj
      exact hj
    · have hw : (portCleared p n s).load = none := hl
      exact raised_setHolder hw none
  · rw [if_neg hp, if_neg hp]
    have hreset := portWasReset_resetPort s n s.ports[p]
    rw [← portCleared_self] at hreset
    obtain ⟨hcontext, hresult, hconflict, hkept, hrejoined, hattention, hout, hframe⟩ := hreset
    refine ⟨rfl, fun hl => drawnAtEnd_of_ready hl p, rfl, fun q hq => ?_, fun _ h => absurd h hp, hcontext, hresult,
      hconflict, hkept, hrejoined, hattention, hout, hframe⟩
    rw [portCleared_other hq]
    exact .refl _

end Sys2Proof.Machine
end


section
/-! SUPPORT. The timers of the regime, and a fire line beside a spread expiry (O34). -/

namespace Sys2Proof.Machine

/-! ## Rings within a radius (R72, R73) -/

/-- The least of some numbers is within a bound exactly when one of them is. -/
theorem leastOf_le_iff (r : Nat) : ∀ l : List Nat, (∃ k, leastOf l = some k ∧ k ≤ r) ↔ ∃ x ∈ l, x ≤ r
  | [] => by simp [leastOf]
  | x :: xs => by
    have ih := leastOf_le_iff r xs
    rw [leastOf]
    cases h : leastOf xs with
    | none =>
      have hnone : ¬ ∃ x ∈ xs, x ≤ r := fun hx => by
        obtain ⟨k, hk, -⟩ := ih.mpr hx
        rw [h] at hk
        cases hk
      simp only [Option.some.injEq, exists_eq_left', List.mem_cons, exists_eq_or_imp, hnone, or_false]
    | some y =>
      have hsome : y ≤ r ↔ ∃ x ∈ xs, x ≤ r := by rw [← ih, h]; simp
      simp only [Option.some.injEq, exists_eq_left', List.mem_cons, exists_eq_or_imp, ← hsome, min_le_iff]

/-- A floor's ring is within a radius exactly when a fire floor is. -/
theorem ringOf_le_iff (fires : FloorSet) (f r : Nat) :
    (∃ k, ringOf fires f = some k ∧ k ≤ r) ↔ ∃ g : Fin 48, fires.has g = true ∧ floorDistance f g ≤ r := by
  rw [ringOf, leastOf_le_iff]
  constructor
  · rintro ⟨x, hx, hr⟩
    obtain ⟨g, -, hg⟩ := List.mem_filterMap.mp hx
    unfold distanceTo at hg
    split at hg
    · next hfire => exact ⟨g, hfire, by rw [Option.some.inj hg]; exact hr⟩
    · cases hg
  · rintro ⟨g, hfire, hr⟩
    exact ⟨_, List.mem_filterMap.mpr ⟨g, List.mem_finRange g, if_pos hfire⟩, hr⟩

theorem statusByRing_evacuate_iff (r margin : Nat) (ring : Option Nat) :
    statusByRing r margin ring = .evacuate ↔ ∃ k, ring = some k ∧ k ≤ r := by
  cases ring with
  | none => simp [statusByRing]
  | some k =>
    simp only [statusByRing, Option.some.injEq, exists_eq_left']
    split
    · next h => exact iff_of_true rfl h
    · next h =>
      refine iff_of_false ?_ h
      split <;> nofun

/-- In ACTIVE a floor evacuates by evacuate-all, or with a fire floor within r (R73). -/
theorem statusOf_evacuate_iff {g : Regime} (ha : g.state = .active) (margin : Nat) (fires : FloorSet) (f : Nat) :
    statusOf g margin (ringOf fires f) = .evacuate ↔
      g.evacuateAll = true ∨ ∃ h : Fin 48, fires.has h = true ∧ floorDistance f h ≤ g.r := by
  simp only [statusOf, ha]
  split
  · next he => exact iff_of_true rfl (.inl he)
  · next he => rw [statusByRing_evacuate_iff, ringOf_le_iff, or_iff_right he]

/-! ## The floor table as an event leaves it -/

/-- The present floors' statuses are those of the regime record and the fire floors, and the absent floors' stay (R69,
R73, R74). -/
structure FloorsDerived (s t : State) : Prop where
  status : ∀ f : Fin 48, t.present f = true →
    t.floors[f].status = statusOf t.regime t.config.system.alertMargin (ringOf (fireFloors t) f)
  absent : ∀ f : Fin 48, t.present f = false → t.floors[f].status = s.floors[f].status

/-- What the statuses depend on in the record (R73). -/
structure SameRadius (g h : Regime) : Prop where
  state : h.state = g.state
  evacuateAll : h.evacuateAll = g.evacuateAll
  r : h.r = g.r

section
variable {s t u w : State} {g h : Regime}

theorem SameRadius.statusOf (hs : SameRadius g h) (margin : Nat) (ring : Option Nat) :
    statusOf h margin ring = statusOf g margin ring := by
  obtain ⟨hstate, hevac, hr⟩ := hs
  simp only [Machine.statusOf, hstate, hevac, hr]

theorem fireFloors_congr (hc : t.config = s.config)
    (hn : ∀ f : Fin 48, t.floors[f].alarmCount = s.floors[f].alarmCount) : fireFloors t = fireFloors s := by
  simp only [fireFloors, State.present, hc, hn]

theorem settle_alarmCount (s0 s : State) (f : Fin 48) :
    (settle s0 s).floors[f].alarmCount = s.floors[f].alarmCount := by
  rw [settle_floor, deriveFloors_floor]

theorem floorsDerived_settle (s0 : State) (hw : ∀ f : Fin 48, w.floors[f].status = s.floors[f].status) :
    FloorsDerived s (settle s0 w) := by
  have hc : (settle s0 w).config = w.config := by simp
  have hp (f : Nat) : (settle s0 w).present f = w.present f := by simp only [State.present, hc]
  have hfires : fireFloors (settle s0 w) = fireFloors w := fireFloors_congr hc (settle_alarmCount s0 w)
  have hradius : SameRadius w.regime (settle s0 w).regime := by
    rw [settle_regime]
    exact ⟨rfl, rfl, rfl⟩
  refine ⟨fun f hf => ?_, fun f hf => ?_⟩
  · rw [hp] at hf
    rw [settle_status, deriveFloors_status hf, hradius.statusOf, hfires, hc]
  · rw [hp] at hf
    have hkept : (deriveFloors w).floors[f] = if w.present f then
        deriveFloor w.regime w.config.system.alertMargin (ringOf (fireFloors w) f) w.floors[f] else w.floors[f] :=
      getElem_tabulate _ _ _
    rw [settle_status, hkept, hf, ← hw f]
    rfl

theorem FloorsDerived.after {v : State} (hv : FloorsDerived s v) (ht : FloorsDerived v t) (hc : t.config = v.config) :
    FloorsDerived s t :=
  ⟨ht.status, fun f hf => (ht.absent f hf).trans (hv.absent f (by rw [State.present, ← hc]; exact hf))⟩

/-- Two ways to the same record, configuration and alarm counts lead to the same statuses. -/
theorem FloorsDerived.status_eq (ht : FloorsDerived s t) (hu : FloorsDerived s u) (hc : u.config = t.config)
    (hr : SameRadius t.regime u.regime) (hn : ∀ f : Fin 48, u.floors[f].alarmCount = t.floors[f].alarmCount)
    (f : Fin 48) : t.floors[f].status = u.floors[f].status := by
  have hp : u.present f = t.present f := by simp only [State.present, hc]
  cases hf : t.present f with
  | true => rw [ht.status f hf, hu.status f (hp.trans hf), hr.statusOf, fireFloors_congr hc hn, hc]
  | false => rw [ht.absent f hf, hu.absent f (hp.trans hf)]

/-- More fire floors leave no fewer floors under EVACUATE (R73). -/
theorem FloorsDerived.evacuates_mono {v : State} (hv : FloorsDerived s v) (hu : FloorsDerived t u)
    (hc : u.config = v.config) (ha : v.regime.state = .active) (hr : SameRadius v.regime u.regime)
    (hn : ∀ f : Fin 48, v.floors[f].alarmCount ≤ u.floors[f].alarmCount) (he : EveryFloorEvacuates v) :
    EveryFloorEvacuates u := by
  intro f hf
  have hp (f : Nat) : v.present f = u.present f := by simp only [State.present, hc]
  have hv' := he f ((hp f).trans hf)
  rw [hv.status f ((hp f).trans hf), statusOf_evacuate_iff ha] at hv'
  rw [hu.status f hf, hr.statusOf, statusOf_evacuate_iff ha]
  refine hv'.imp_right fun ⟨k, hk, hd⟩ => ⟨k, ?_, hd⟩
  have hmem (w : State) : (fireFloors w).has k = (w.present k && w.floors[k].alarmCount != 0) := by
    simp only [fireFloors, FloorSet.has_ofPred, k.isLt, dif_pos]
  rw [hmem, Bool.and_eq_true, bne_iff_ne] at hk ⊢
  have hle := hn k
  exact ⟨(hp k).symm.trans hk.1, by omega⟩

end

/-! ## The spread expiry (R77, R78) -/

/-- The record of a spread expiry before the work of every unit (R77). -/
def grownRegime (s : State) : Regime :=
  { s.regime with r := min 47 (s.regime.r + 1), spread := spreadStart s.config.system.spreadInterval }

/-- A spread expiry that is due (R77). -/
structure SpreadGrown (s t : State) : Prop where
  regime : t.regime =
    { s.regime with
      r := min 47 (s.regime.r + 1), spread := t.regime.spread, spreadHeld := t.regime.spreadHeld
      trouble := t.regime.trouble }
  all : EveryFloorEvacuates t → t.regime.spread = .stopped ∧ t.regime.spreadHeld = false
  notAll : ¬ EveryFloorEvacuates t →
    t.regime.spread = .running (1000 * s.config.system.spreadInterval) ∧
    t.regime.spreadHeld = s.regime.spreadHeld
  wide : RegimeWide s t
  derived : FloorsDerived s t
  count : ∀ f : Fin 48, t.floors[f].alarmCount = s.floors[f].alarmCount

section
variable {s t : State}

theorem spreadExpiry_due (h : s.regime.spread = .running 0) :
    exec .spreadExpiry s = .next (settle s (s.setRegime (grownRegime s))) :=
  congrArg Host.Outcome.next (if_pos ((spreadDue_iff _).mpr h))

theorem spreadGrown_settle (ha : s.regime.state = .active) (hi : 0 < s.config.system.spreadInterval) :
    SpreadGrown s (settle s (s.setRegime (grownRegime s))) where
  regime := settle_regime s _
  all he := by
    have h := settle_regime_of_all (s0 := s) (s := s.setRegime (grownRegime s)) ha he (spreadStart_ne_zero _)
    rw [h]
    exact ⟨rfl, rfl⟩
  notAll he := by
    have h := settle_regime_of_not_all (s0 := s) (s := s.setRegime (grownRegime s)) (.inl he)
    rw [h]
    exact ⟨spreadStart_pos (Nat.ne_of_gt hi), rfl⟩
  wide := regimeWide_settle rfl
  derived := floorsDerived_settle s fun _ => rfl
  count := settle_alarmCount s _

theorem spreadGrown_raises (hl : s.load = none) (ha : min 47 (s.regime.r + 1) ≠ s.regime.r) :
    Raised .regime s (settle s (s.setRegime (grownRegime s))) := by
  refine raised_regime_settle rfl rfl hl fun e => ha ?_
  rw [spreadStop_regime (deriveFloors (s.setRegime (grownRegime s)))] at e
  simp only [regimeView, Prod.mk.injEq] at e
  exact e.2.2.2.1.symm

/-- A spread expiry stops the timer or starts it anew; it does not leave it run out. -/
theorem SpreadGrown.spread_ne_zero (h : SpreadGrown s t) (hi : 0 < s.config.system.spreadInterval) :
    t.regime.spread ≠ .running 0 := by
  by_cases he : EveryFloorEvacuates t
  · rw [(h.all he).1]
    nofun
  · rw [(h.notAll he).1]
    simp only [ne_eq, SpreadTimer.running.injEq]
    omega

end

/-! ## A fire line in ACTIVE -/

/-- What a step of the line scanner reads of the part, besides the regime. -/
def scanView (s : State) : Option Nat × WorkConfig × Option (Fin 96) × Vector Line 64 × Vector PGroup 8 :=
  (s.load, s.config, s.scanSlot, s.lines, s.pgroups)

/-- The step is the event of line i that makes it an accepted fire alarm, as `l'`. -/
def AlarmOf (e : Instr) (i : Fin 64) (l' : Line) (s : State) : Prop :=
  ∃ (n : Option (Fin 96)) (lines : Vector Line 64), (∀ j : Fin 64, j ≠ i → lines[j] = s.lines[j]) ∧
    fireActive s.config.lines[i] l' = true ∧ fireActive s.config.lines[i] lines[i] = false ∧
    exec e s = .next (lineEvent i l' { s with scanSlot := n, lines := lines })

/-- A fire line is about to enter ACTIVE at the step: by the end of its retard, or by an ALARM that qualifies. -/
def FireLineDue (e : Instr) (i : Fin 64) (s : State) : Prop :=
  e = .retardExpiry i ∧ s.lines[i].retard = some 0 ∧ s.config.lines[i].kind = .flow ∧ s.lines[i].state = .normal ∨
    ∃ c : BitVec 10, e = .zoneLineSlotCompletion i c ∧ Qualifies s i c .alarm ∧
      (s.lines[i].state = .normal ∨ s.lines[i].state = .troubleOpen ∨ s.lines[i].state = .troubleShort) ∧
      LineKind.fire s.config.lines[i].kind = true ∧
      (s.config.lines[i].kind ≠ .flow ∨ s.config.system.flowRetard = 0)

section
variable {e : Instr} {i : Fin 64} {l' : Line} {s t v x : State}

theorem fireLineDue_congr (hv : scanView v = scanView s) : FireLineDue e i v ↔ FireLineDue e i s := by
  simp only [scanView, Prod.mk.injEq] at hv
  obtain ⟨hload, hconfig, hslot, hlines, hpgroups⟩ := hv
  simp only [FireLineDue, Qualifies, groupOf, hload, hconfig, hslot, hlines, hpgroups]

theorem alarmOf_retard (hd : s.lines[i].retard = some 0) (hk : s.config.lines[i].kind = .flow)
    (hs : s.lines[i].state = .normal) : AlarmOf (.retardExpiry i) i (toActive s.lines[i]) s :=
  ⟨s.scanSlot, s.lines, fun _ _ => rfl, (fireActive_iff _ _).mpr ⟨by rw [hk]; rfl, rfl⟩,
    fireActive_eq_false_of_state _ (by rw [hs]; nofun), congrArg Host.Outcome.next (if_pos ((timerDue_iff _).mpr hd))⟩

/-- In ACTIVE no verification starts, and the line goes to ACTIVE at once (R26). -/
theorem alarmOf_slot {c : BitVec 10} (ha : s.regime.state = .active) (hq : Qualifies s i c .alarm)
    (hr : AtRest s.lines[i]) (hf : LineKind.fire s.config.lines[i].kind = true)
    (hk : s.config.lines[i].kind ≠ .flow ∨ s.config.system.flowRetard = 0) :
    AlarmOf (.zoneLineSlotCompletion i c) i (toActive (qualifiedLine i c .alarm s)) s := by
  have hv : ¬ StartsVerification s i := not_startsVerification (.inr (.inr (.inr ha)))
  have hm : movedLine i c .alarm s = toActive (qualifiedLine i c .alarm s) :=
    (movedLine_of_atRest hr _).trans (onAlarm_active (Bool.eq_false_iff.mpr hv) (hk.imp_right .inl))
  have hexec := zoneSlot_qualifies hq (hv ·.2)
  rw [hm] at hexec
  refine ⟨(codeStored i c s).scanSlot, (codeStored i c s).lines, fun j hj => codeStored_other_line hj,
    (fireActive_iff _ _).mpr ⟨hf, rfl⟩, ?_, hexec⟩
  rw [codeStored_fireActive]
  exact fireActive_eq_false_of_state _ hr.ne_active

/-- The same line makes the alarm whatever has come between in the regime and in the units. -/
theorem alarmOf_of_due (h : FireLineDue e i s) :
    ∃ l' : Line, l'.state = .active ∧
      ∀ v : State, scanView v = scanView s → v.regime.state = .active → AlarmOf e i l' v := by
  have hsame {v : State} (hv : scanView v = scanView s) : v.lines = s.lines ∧ v.config = s.config := by
    simp only [scanView, Prod.mk.injEq] at hv
    exact ⟨hv.2.2.2.1, hv.2.1⟩
  obtain ⟨rfl, -⟩ | ⟨c, rfl, -⟩ := id h
  · refine ⟨toActive s.lines[i], rfl, fun v hv _ => ?_⟩
    obtain ⟨-, hd, hk, hs⟩ | ⟨c, hc, -⟩ := (fireLineDue_congr hv).mpr h
    · have ht := alarmOf_retard hd hk hs
      rw [(hsame hv).1] at ht
      exact ht
    · cases hc
  · refine ⟨toActive (qualifiedLine i c .alarm s), rfl, fun v hv ha => ?_⟩
    obtain ⟨hc, -⟩ | ⟨d, hd, hq, hr, hf, hk⟩ := (fireLineDue_congr hv).mpr h
    · cases hc
    · cases hd
      have ht := alarmOf_slot ha hq hr hf hk
      have hl : qualifiedLine i c .alarm v = qualifiedLine i c .alarm s := by
        simp only [qualifiedLine, (hsame hv).1, (hsame hv).2]
      rw [hl] at ht
      exact ht

/-- A fire line's entry into ACTIVE in a regime in ACTIVE (R22, R58, R70, R78). -/
structure FireLineAdded (i : Fin 64) (l' : Line) (s x : State) : Prop where
  load : x.load = s.load
  config : x.config = s.config
  line : ∀ j : Fin 64, x.lines[j] = if j = i then l' else s.lines[j]
  regime : x.regime =
    { s.regime with
      silenced := false, spread := x.regime.spread, spreadHeld := x.regime.spreadHeld, trouble := x.regime.trouble }
  all : EveryFloorEvacuates x → s.regime.spread ≠ .running 0 → x.regime.spread = .stopped
  notAll : ¬ EveryFloorEvacuates x ∨ s.regime.spread = .running 0 → x.regime.spread = s.regime.spread
  derived : FloorsDerived s x
  count : ∀ f : Fin 48, x.floors[f].alarmCount =
    if f = s.config.lines[i].floor then s.floors[f].alarmCount + 1 else s.floors[f].alarmCount

theorem changeLine_alarmCount (h' : fireActive s.config.lines[i] l' = true)
    (h : fireActive s.config.lines[i] s.lines[i] = false) (f : Fin 48) :
    (changeLine i l' s).floors[f].alarmCount =
      if f = s.config.lines[i].floor then s.floors[f].alarmCount + 1 else s.floors[f].alarmCount := by
  rw [changeLine_floors, getElem_set_fin]
  split
  · next hf =>
    subst hf
    simp only [countFloor, h, h']
    rfl
  · rfl

theorem fireLineAdded_lineEvent (ha : s.regime.state = .active) (h' : fireActive s.config.lines[i] l' = true)
    (h : fireActive s.config.lines[i] s.lines[i] = false) : FireLineAdded i l' s (lineEvent i l' s) := by
  have hfire := fireLine_changeLine_active (i := i) (l' := l') ha
  have hfloors : (fireLine i (changeLine i l' s)).floors = (changeLine i l' s).floors := by simp
  have hstatus (f : Fin 48) : (fireLine i (changeLine i l' s)).floors[f].status = s.floors[f].status := by
    rw [hfloors]
    exact (unitEvent_changeLine i l' s).status f
  have hstate : (fireLine i (changeLine i l' s)).regime.state = .active := by rw [hfire]; exact ha
  have hspread : (fireLine i (changeLine i l' s)).regime.spread = s.regime.spread := by rw [hfire]
  refine ⟨by simp, by simp, fun j => by rw [lineEvent_lines, getElem_set_fin], ?_, ?_, ?_, ?_, fun f => ?_⟩
  all_goals rw [lineEvent_of_rise h' h]
  · rw [settle_regime, hfire]
  · intro he hd
    have ht := settle_regime_of_all hstate he (by rw [hspread]; exact hd)
    rw [ht]
  · intro he
    have ht := settle_regime_of_not_all (s0 := s) (s := fireLine i (changeLine i l' s)) (by rw [hspread]; exact he)
    rw [ht]
    exact hspread
  · exact floorsDerived_settle s hstatus
  · rw [settle_alarmCount, hfloors]
    exact changeLine_alarmCount h' h f

theorem AlarmOf.added (h : AlarmOf e i l' s) (ha : s.regime.state = .active) :
    ∃ x : State, exec e s = .next x ∧ FireLineAdded i l' s x := by
  obtain ⟨n, lines, hother, h', hbefore, hexec⟩ := h
  have hlines (j : Fin 64) : (if j = i then l' else lines[j]) = if j = i then l' else s.lines[j] := by
    split
    · rfl
    · next hj => exact hother j hj
  obtain ⟨hload, hconfig, hline, hregime, hall, hnotAll, hderived, hcount⟩ :=
    fireLineAdded_lineEvent (s := { s with scanSlot := n, lines := lines }) ha h' hbefore
  exact ⟨_, hexec, hload, hconfig, fun j => (hline j).trans (hlines j), hregime, hall, hnotAll,
    ⟨hderived.status, hderived.absent⟩, hcount⟩

/-! ## A fire line beside a spread expiry (R80) -/

theorem SpreadGrown.scanView (h : SpreadGrown s t) : scanView t = scanView s := by
  obtain ⟨hframe, -⟩ := h.wide
  rw [hframe]
  rfl

theorem SpreadGrown.config (h : SpreadGrown s t) : t.config = s.config := congrArg (·.2.1) h.scanView

theorem SpreadGrown.lines (h : SpreadGrown s t) : t.lines = s.lines := congrArg (·.2.2.2.1) h.scanView

end

/-- The four states of the two orders: `t` after the fire line and then the expiry, `u` after the expiry and then the
fire line. -/
structure TwoOrders (i : Fin 64) (l' : Line) (s x t y u : State) : Prop where
  first : FireLineAdded i l' s x
  second : SpreadGrown x t
  grown : SpreadGrown s y
  added : FireLineAdded i l' y u

namespace TwoOrders

variable {i : Fin 64} {l' : Line} {s x t y u : State} (h : TwoOrders i l' s x t y u)
include h

theorem config : u.config = t.config ∧ u.config = y.config ∧ t.config = s.config := by
  have ht := h.second.config.trans h.first.config
  exact ⟨(h.added.config.trans h.grown.config).trans ht.symm, h.added.config, ht⟩

/-- In either order r grows by one from the radius before, and nothing else that a status depends on changes. -/
theorem record : t.regime.r = min 47 (s.regime.r + 1) ∧ SameRadius t.regime u.regime ∧
    SameRadius y.regime u.regime := by
  have hx := h.first.regime
  have ht := h.second.regime
  have hy := h.grown.regime
  have hu := h.added.regime
  rw [hx] at ht
  rw [ht, hu, hy]
  exact ⟨rfl, ⟨rfl, rfl, rfl⟩, ⟨rfl, rfl, rfl⟩⟩

theorem lines : t.lines = u.lines := by
  refine Vector.ext fun j hj => ?_
  have ht := h.first.line ⟨j, hj⟩
  have hu := h.added.line ⟨j, hj⟩
  rw [← h.second.lines] at ht
  rw [h.grown.lines] at hu
  exact ht.trans hu.symm

theorem counts (f : Fin 48) : u.floors[f].alarmCount = t.floors[f].alarmCount := by
  have hlines : y.config.lines[i] = s.config.lines[i] := by rw [h.grown.config]
  rw [h.added.count, h.second.count, h.first.count, h.grown.count, hlines]

theorem statuses (f : Fin 48) : t.floors[f].status = u.floors[f].status := by
  have ht : FloorsDerived s t := h.first.derived.after h.second.derived h.second.config
  have hu : FloorsDerived s u := h.grown.derived.after h.added.derived h.added.config
  exact ht.status_eq hu h.config.1 h.record.2.1 h.counts f

theorem everyFloorEvacuates_iff : EveryFloorEvacuates t ↔ EveryFloorEvacuates u := by
  have hp (f : Nat) : t.present f = u.present f := by simp only [State.present, h.config.1]
  exact forall_congr' fun f => by rw [hp, h.statuses f]

theorem everyFloorEvacuates_of_grown (ha : s.regime.state = .active) (he : EveryFloorEvacuates y) :
    EveryFloorEvacuates u := by
  have hy : y.regime.state = .active := by rw [h.grown.regime]; exact ha
  refine h.grown.derived.evacuates_mono h.added.derived h.config.2.1 hy h.record.2.2 (fun f => ?_) he
  rw [h.added.count]
  split <;> omega

/-- The timer starts anew in both orders, or stops in both (R78, R80). -/
theorem spread (ha : s.regime.state = .active) (hi : 0 < s.config.system.spreadInterval) :
    (EveryFloorEvacuates t → t.regime.spread = .stopped ∧ u.regime.spread = .stopped) ∧
      (¬ EveryFloorEvacuates t →
        t.regime.spread = .running (1000 * s.config.system.spreadInterval) ∧
        u.regime.spread = .running (1000 * s.config.system.spreadInterval)) := by
  have hx : x.config = s.config := h.first.config
  refine ⟨fun he => ⟨(h.second.all he).1, ?_⟩, fun he => ?_⟩
  · exact h.added.all (h.everyFloorEvacuates_iff.mp he) (h.grown.spread_ne_zero hi)
  · have hu : ¬ EveryFloorEvacuates u := fun hu => he (h.everyFloorEvacuates_iff.mpr hu)
    have hy : ¬ EveryFloorEvacuates y := fun hy => hu (h.everyFloorEvacuates_of_grown ha hy)
    have ht := (h.second.notAll he).1
    rw [hx] at ht
    exact ⟨ht, (h.added.notAll (.inl hu)).trans (h.grown.notAll hy).1⟩

end TwoOrders

/-- Either order of the fire line and the expiry is a run of the part. -/
theorem twoOrders_of_due {s : State} {i : Fin 64} {e : Instr} (h : FireLineDue e i s)
    (hd : s.regime.spread = .running 0) (ha : s.regime.state = .active) (hi : 0 < s.config.system.spreadInterval) :
    ∃ (l' : Line) (x y t u : State), l'.state = .active ∧ TwoOrders i l' s x t y u ∧
      exec e s = .next x ∧ exec .spreadExpiry x = .next t ∧ exec .spreadExpiry s = .next y ∧ exec e y = .next u := by
  obtain ⟨l', hl', halarm⟩ := alarmOf_of_due h
  obtain ⟨x, hexec, hx⟩ := (halarm s rfl ha).added ha
  have hxd : x.regime.spread = .running 0 := (hx.notAll (.inr hd)).trans hd
  have hxa : x.regime.state = .active := by rw [hx.regime]; exact ha
  have hxi : 0 < x.config.system.spreadInterval := by rw [hx.config]; exact hi
  have hy := spreadGrown_settle ha hi
  have hya : (settle s (s.setRegime (grownRegime s))).regime.state = .active := by rw [hy.regime]; exact ha
  obtain ⟨u, hexecu, hu⟩ := (halarm _ hy.scanView hya).added hya
  exact ⟨l', x, _, _, u, hl', ⟨hx, spreadGrown_settle hxa hxi, hy, hu⟩, hexec, spreadExpiry_due hxd,
    spreadExpiry_due hd, hexecu⟩

theorem fireLineBesideSpreadExpiry {s : State} {i : Fin 64} {e : Instr} (h : FireLineDue e i s)
    (hd : s.regime.spread = .running 0) (ha : s.regime.state = .active) (hi : 0 < s.config.system.spreadInterval) :
    ∃ x y t u : State, exec e s = .next x ∧ exec .spreadExpiry x = .next t ∧
      exec .spreadExpiry s = .next y ∧ exec e y = .next u ∧
      t.lines[i].state = .active ∧ t.lines = u.lines ∧ t.regime.r = min 47 (s.regime.r + 1) ∧
      t.regime.spread = u.regime.spread ∧ t.regime.r = u.regime.r ∧
      (EveryFloorEvacuates t → t.regime.spread = .stopped) ∧
      (¬ EveryFloorEvacuates t → t.regime.spread = .running (1000 * s.config.system.spreadInterval)) ∧
      ∀ f : Fin 48, t.floors[f].status = u.floors[f].status := by
  obtain ⟨l', x, y, t, u, hl', horders, hx, ht, hy, hu⟩ := twoOrders_of_due h hd ha hi
  obtain ⟨hr, hradius, -⟩ := horders.record
  obtain ⟨hall, hnotAll⟩ := horders.spread ha hi
  refine ⟨x, y, t, u, hx, ht, hy, hu, ?_, horders.lines, hr, ?_, hradius.r.symm, fun he => (hall he).1,
    fun he => (hnotAll he).1, horders.statuses⟩
  · rw [horders.second.lines, horders.first.line, if_pos rfl, hl']
  · by_cases he : EveryFloorEvacuates t
    · rw [(hall he).1, (hall he).2]
    · rw [(hnotAll he).1, (hnotAll he).2]

/-- Settles O34: an expiry that is not due does nothing, each that is by its own event, and a fire line beside a spread
expiry by the two orders. -/
theorem regimeTimersExpire : Obligations.RegimeTimersExpire := by
  refine ⟨fun s h => holdTimerExpiry_early h, fun s h => congrArg Host.Outcome.next (if_neg (mt (timerDue_iff _).mp h)),
    fun s h => congrArg Host.Outcome.next (if_neg (mt (spreadDue_iff _).mp h)), fun s hl hh hs => ?_,
    fun s h => congrArg Host.Outcome.next (if_pos ((timerDue_iff _).mpr h)), fun s hd ha hi => ?_,
    fun s i e _ hd ha hi h => fireLineBesideSpreadExpiry h hd ha hi⟩
  · exact ⟨_, congrArg Host.Outcome.next (if_pos ((timerDue_iff _).mpr hh)), holdEnds hl hs⟩
  · have h := spreadGrown_settle ha hi
    refine ⟨_, spreadExpiry_due hd, h.regime, h.all, h.notAll, fun hl hr => ?_, h.wide, ?_, settle_override s _⟩
    · rw [h.regime] at hr
      exact spreadGrown_raises hl hr
    · exact (quiet_of_ports rfl).trans (quiet_settle s (s.setRegime (grownRegime s)))

end Sys2Proof.Machine
end

section
/-! SUPPORT. What a step leaves of the floor table: the steps that change no line's state and make no unit act on the
regime keep every floor's counts, ring and status. -/

namespace Sys2Proof.Machine

/-! ## The relation -/

/-- Every floor's counts, ring and status are as they were; its routed channel may differ (R82). -/
def FloorsKept (s t : State) : Prop :=
  ∀ f : Fin 48, t.floors[f] = { s.floors[f] with routed := t.floors[f].routed }

section
variable {s t u : State}

theorem floorsKept_of_eq (h : t.floors = s.floors) : FloorsKept s t := fun f => by rw [h]

@[simp] theorem FloorsKept.refl (s : State) : FloorsKept s s := fun _ => rfl

theorem FloorsKept.trans (h : FloorsKept s t) (k : FloorsKept t u) : FloorsKept s u := fun f => by
  rw [k f, h f]

/-- An event that takes effect only on a condition. -/
theorem FloorsKept.ite {c : Prop} [Decidable c] (h : FloorsKept s t) : FloorsKept s (if c then t else s) := by
  split
  · exact h
  · exact .refl s

theorem FloorsKept.counts (h : FloorsKept s t) (f : Fin 48) :
    t.floors[f].alarmCount = s.floors[f].alarmCount ∧ t.floors[f].troubleCount = s.floors[f].troubleCount := by
  rw [h f]
  exact ⟨rfl, rfl⟩

theorem FloorsKept.derived (h : FloorsKept s t) (f : Fin 48) :
    t.floors[f].ring = s.floors[f].ring ∧ t.floors[f].status = s.floors[f].status := by
  rw [h f]
  exact ⟨rfl, rfl⟩

/-! ## Commands -/

theorem floorsKept_command {p : Fin 4} {bytes : List Byte} {body : State → State × Result}
    (h : ∀ u, FloorsKept u (body u).1) : FloorsKept s (command p bytes body s) :=
  command_preserves (fun k => k.trans (floorsKept_of_eq rfl)) (fun u k => k.trans (h u))
    (fun _ _ k => k.trans (floorsKept_of_eq rfl)) (.refl s)

theorem floorsKept_afterLoad {body : State → State × Result} (h : ∀ u, FloorsKept u (body u).1) (s : State) :
    FloorsKept s (afterLoad body s).1 :=
  afterLoad_preserves (fun _ => h s) (.refl s)

theorem floorsKept_controlled {p : Fin 4} {body : State → State × Result} (h : ∀ u, FloorsKept u (body u).1)
    (s : State) : FloorsKept s (controlled p body s).1 :=
  controlled_preserves (fun _ => h s) (.refl s)

end

/-! ## The router, which alone of the other units writes to the floor table (R82, R154) -/

theorem floorsKept_routerFinish {s w : State} (s0 : State) (hw : w.floors = s.floors) :
    FloorsKept s (routerFinish s0 w) :=
  (floorsKept_of_eq hw).trans (routerFinish_floor s0 w)

theorem floorsKept_setSilenced (b : Bool) (s : State) : FloorsKept s (setSilenced b s) := by
  rw [setSilenced_eq_with]
  exact routerSettle_floor s (s.setRegime { s.regime with silenced := b })

/-! ## The commands' own rules -/

theorem takeControlBody_keeps_floors {p : Fin 4} (s : State) : FloorsKept s (takeControlBody p s).1 := by
  refine floorsKept_of_eq ?_
  unfold takeControlBody
  (repeat' split) <;> simp

theorem silenceBody_keeps_floors (s : State) : FloorsKept s (silenceBody s).1 := by
  unfold silenceBody
  (repeat' split) <;> simp [floorsKept_setSilenced]

theorem resoundBody_keeps_floors (s : State) : FloorsKept s (resoundBody s).1 := by
  unfold resoundBody
  split <;> simp [floorsKept_setSilenced]

theorem spreadHoldBody_keeps_floors (s : State) : FloorsKept s (spreadHoldBody s).1 := by
  refine floorsKept_of_eq ?_
  unfold spreadHoldBody
  (repeat' split) <;> simp

theorem spreadResumeBody_keeps_floors (s : State) : FloorsKept s (spreadResumeBody s).1 := by
  refine floorsKept_of_eq ?_
  unfold spreadResumeBody
  split <;> simp

theorem recallGroupBody_keeps_floors {b : Byte} (s : State) : FloorsKept s (recallGroupBody b s).1 := by
  refine floorsKept_of_eq ?_
  unfold recallGroupBody
  (repeat' split) <;> simp

theorem releaseGroupBody_keeps_floors {b : Byte} (s : State) : FloorsKept s (releaseGroupBody b s).1 := by
  refine floorsKept_of_eq ?_
  unfold releaseGroupBody
  (repeat' split) <;> simp

theorem carReportBody_keeps_floors {p : Fin 4} {c x m d v : Byte} (s : State) :
    FloorsKept s (carReportBody p c x m d v s).1 := by
  refine floorsKept_of_eq ?_
  unfold carReportBody
  dsimp only
  (repeat' split) <;> simp [takeReport]

theorem doorOverrideBody_keeps_floors {g o : Byte} (s : State) : FloorsKept s (doorOverrideBody g o s).1 := by
  refine floorsKept_of_eq ?_
  unfold doorOverrideBody overrideGroup
  (repeat' split) <;> simp

theorem clearDoorFaultBody_keeps_floors {c : Byte} (s : State) : FloorsKept s (clearDoorFaultBody c s).1 := by
  refine floorsKept_of_eq ?_
  unfold clearDoorFaultBody
  (repeat' split) <;> simp

theorem roomFor_floors {k : AnnClass} {s u : State} (h : roomFor k s = some u) : u.floors = s.floors := by
  unfold roomFor at h
  split at h
  · cases h; rfl
  · split at h
    · obtain ⟨sl, -, rfl⟩ := Option.map_eq_some_iff.mp h
      simp
    all_goals cases h

/-- A post makes room in the queue and creates its entry, and the router works on both (R145). -/
theorem postJudged_keeps_floors {p : Fin 4} {k : AnnClass} {m : Byte} {fs : FloorSet} {n : Nat} (s : State) :
    FloorsKept s (postJudged p k m fs n s).1 := by
  unfold postJudged
  (repeat' split)
  · exact .refl s
  · exact .refl s
  · exact .refl s
  · next u hu =>
    rw [accept_state]
    unfold postEntry
    split
    · exact floorsKept_of_eq (roomFor_floors hu)
    · exact floorsKept_routerFinish s (by simpa using roomFor_floors hu)

theorem postBody_keeps_floors {p : Fin 4} {k m : Byte} {fs : FloorSet} {n : Byte} (s : State) :
    FloorsKept s (postBody p k m fs n s).1 := by
  unfold postBody
  (repeat' split) <;> simp [postJudged_keeps_floors]

theorem cancelBody_keeps_floors {p : Fin 4} {sl m : Byte} (s : State) : FloorsKept s (cancelBody p sl m s).1 := by
  unfold cancelBody
  (repeat' split) <;> simp [floorsKept_routerFinish]

theorem playEndBody_keeps_floors {p : Fin 4} {c m : Byte} (s : State) : FloorsKept s (playEndBody p c m s).1 := by
  have ended (c : Fin 4) : FloorsKept s (playEnded c s) := by
    unfold playEnded
    dsimp only
    split <;> simp [floorsKept_routerFinish]
  unfold playEndBody
  (repeat' split) <;> simp [ended]

theorem storeWriteBody_keeps_floors {p : Fin 4} {k n e : Byte} {im : Image} (s : State) :
    FloorsKept s (storeWriteBody p k n e im s).1 := by
  refine floorsKept_of_eq ?_
  unfold storeWriteBody storeWriteRecord
  (repeat' split) <;> simp

theorem checkConfigBody_keeps_floors {p : Fin 4} (s : State) : FloorsKept s (checkConfigBody p s).1 := by
  refine floorsKept_of_eq ?_
  unfold checkConfigBody
  (repeat' split) <;> simp

theorem selectBody_keeps_floors {p : Fin 4} {t r f : Byte} (s : State) : FloorsKept s (selectBody p t r f s).1 := by
  refine floorsKept_of_eq ?_
  unfold selectBody
  (repeat' split) <;> simp

theorem windowBody_keeps_floors {p : Fin 4} {fr lr ff lf o : Byte} (s : State) :
    FloorsKept s (windowBody p fr lr ff lf o s).1 := by
  refine floorsKept_of_eq ?_
  unfold windowBody
  (repeat' split) <;> simp

theorem maskBody_keeps_floors {p : Fin 4} {w : Word} (s : State) : FloorsKept s (maskBody p w s).1 := by
  refine floorsKept_of_eq ?_
  unfold maskBody
  split <;> simp

/-! ## The steps -/

/-- The steps that may change a count, a ring or a status: those that change a line's state, those that make every unit
act on the regime, and those that begin a power-on reset. -/
def floorActs : Instr → Bool
  | .powerOnReset | .restart _ => true
  | .zoneLineSlotCompletion .. | .retardExpiry _ | .windowExpiry _ => true
  | .isolateLine .. | .restoreLine .. | .resetRegime _ => true
  | .holdTimerExpiry | .spreadExpiry | .acknowledge _ | .evacuateAll _ => true
  | _ => false

/-- Every other step keeps the counts, the rings and the statuses. -/
theorem exec_keeps_floors {i : Instr} {s t : State} (hi : floorActs i = false) (h : exec i s = .next t) :
    FloorsKept s t := by
  cases i with
  | powerOnReset | restart | zoneLineSlotCompletion | retardExpiry | windowExpiry | isolateLine | restoreLine
  | resetRegime | holdTimerExpiry | spreadExpiry | acknowledge | evacuateAll => cases hi
  | startUpLoadEnd => exact of_next h (.ite (floorsKept_of_eq (by rw [startUp_eq_with]; rfl)))
  | resetExpiry | settleExpiry | silenceInhibitExpiry | frameBegin =>
    exact of_next h (.ite (floorsKept_of_eq rfl))
  | carReportTimeout | openWaitExpiry | coolDownExpiry | chainRefreshExpiry =>
    exact of_next h (.ite (floorsKept_of_eq (by simp)))
  | stopTimerExpiry | playTimerExpiry => exact of_next h (.ite (floorsKept_routerFinish s (by simp)))
  | doorSenseSlotCompletion =>
    refine of_next h (.ite ?_)
    dsimp only
    split <;> exact floorsKept_of_eq (by simp)
  | staggerExpiry =>
    refine of_next h (.ite ?_)
    split <;> exact floorsKept_of_eq (by simp)
  | routingShiftComplete =>
    refine of_next h ?_
    split
    · exact .refl s
    · refine .ite (floorsKept_of_eq ?_)
      unfold shiftEnds
      dsimp only
      split <;> simp
  | storeWriteCompletion =>
    refine of_next h ?_
    split
    · exact .refl s
    · exact .ite (floorsKept_of_eq (by simp))
  | enableInputDrop =>
    refine of_next h ?_
    split <;> exact floorsKept_of_eq (by simp)
  | enableInputAssert | frameEnd => exact of_next h (floorsKept_of_eq rfl)
  | unknownCommand =>
    refine of_next h ?_
    split
    · exact .refl s
    · exact floorsKept_command .refl
  | portReset =>
    refine of_next h (floorsKept_of_eq ?_)
    dsimp only
    split <;> simp
  | readWordShifted =>
    refine of_next h (floorsKept_of_eq ?_)
    split <;> rfl
  | noticesReplyComplete =>
    refine of_next h (floorsKept_of_eq ?_)
    split <;> rfl
  | select => exact of_next h (floorsKept_command selectBody_keeps_floors)
  | window => exact of_next h (floorsKept_command windowBody_keeps_floors)
  | read | status => exact of_next h (floorsKept_command fun _ => floorsKept_of_eq rfl)
  | notices => exact of_next h (floorsKept_command (floorsKept_afterLoad fun _ => floorsKept_of_eq rfl))
  | mask => exact of_next h (floorsKept_command (floorsKept_afterLoad maskBody_keeps_floors))
  | takeControl => exact of_next h (floorsKept_command (floorsKept_afterLoad takeControlBody_keeps_floors))
  | carReport => exact of_next h (floorsKept_command (floorsKept_afterLoad carReportBody_keeps_floors))
  | postAnnouncement => exact of_next h (floorsKept_command (floorsKept_afterLoad postBody_keeps_floors))
  | cancelAnnouncement => exact of_next h (floorsKept_command (floorsKept_afterLoad cancelBody_keeps_floors))
  | playEnd => exact of_next h (floorsKept_command (floorsKept_afterLoad playEndBody_keeps_floors))
  | storeWrite => exact of_next h (floorsKept_command (floorsKept_afterLoad storeWriteBody_keeps_floors))
  | checkConfig => exact of_next h (floorsKept_command (floorsKept_afterLoad checkConfigBody_keeps_floors))
  | releaseControl => exact of_next h (floorsKept_command (floorsKept_controlled fun _ => floorsKept_of_eq rfl))
  | silence => exact of_next h (floorsKept_command (floorsKept_controlled silenceBody_keeps_floors))
  | resound => exact of_next h (floorsKept_command (floorsKept_controlled resoundBody_keeps_floors))
  | spreadHold => exact of_next h (floorsKept_command (floorsKept_controlled spreadHoldBody_keeps_floors))
  | spreadResume => exact of_next h (floorsKept_command (floorsKept_controlled spreadResumeBody_keeps_floors))
  | recallGroup => exact of_next h (floorsKept_command (floorsKept_controlled recallGroupBody_keeps_floors))
  | releaseGroup => exact of_next h (floorsKept_command (floorsKept_controlled releaseGroupBody_keeps_floors))
  | doorOverride => exact of_next h (floorsKept_command (floorsKept_controlled doorOverrideBody_keeps_floors))
  | clearDoorFault => exact of_next h (floorsKept_command (floorsKept_controlled clearDoorFaultBody_keeps_floors))

end Sys2Proof.Machine
end

section
/-! SUPPORT. Every step keeps each floor's counts at the counts of its lines (O13). -/

namespace Sys2Proof.Machine

/-! ## Counting -/

/-- A count after the test of one item changes (R70, R71). -/
theorem countP_finRange_recount {n : Nat} (i : Fin n) {p q : Fin n → Bool} (h : ∀ j, j ≠ i → q j = p j) :
    (List.finRange n).countP q = recount (p i) (q i) ((List.finRange n).countP p) := by
  have splits (r : Fin n → Bool) :
      (List.finRange n).countP r = ((List.finRange n).erase i).countP r + if r i then 1 else 0 := by
    rw [(List.perm_cons_erase (List.mem_finRange i)).countP_eq r, List.countP_cons]
  have rest : ((List.finRange n).erase i).countP q = ((List.finRange n).erase i).countP p := by
    refine List.countP_congr fun j hj => ?_
    rw [h j ((List.nodup_finRange n).mem_erase_iff.mp hj).1]
  rw [splits p, splits q, rest]
  cases p i <;> cases q i <;> simp [recount]

/-- The number of a floor's lines that meet a test (R70, R71). -/
def countOn (test : LineCfg → Line → Bool) (s : State) (f : Fin 48) : Nat :=
  (List.finRange 64).countP fun i => s.config.lines[i].floor == f && test s.config.lines[i] s.lines[i]

theorem countInv_iff (s : State) :
    CountInv s ↔ ∀ f : Fin 48,
      s.floors[f].alarmCount = countOn fireActive s f ∧ s.floors[f].troubleCount = countOn lineInTrouble s f := Iff.rfl

theorem countOn_congr {test : LineCfg → Line → Bool} {s t : State} (hc : t.config = s.config)
    (hl : ∀ i : Fin 64, test s.config.lines[i] t.lines[i] = test s.config.lines[i] s.lines[i]) (f : Fin 48) :
    countOn test t f = countOn test s f := by
  simp only [countOn, hc, hl]

/-- No line of a part whose lines all fail the test counts. -/
theorem countOn_eq_zero {test : LineCfg → Line → Bool} {s : State}
    (h : ∀ i : Fin 64, test s.config.lines[i] s.lines[i] = false) (f : Fin 48) : countOn test s f = 0 :=
  List.countP_eq_zero.mpr fun i _ => by rw [h i, Bool.and_false]; nofun

/-- The count of a floor after one line is replaced. -/
theorem countOn_of_set_line (test : LineCfg → Line → Bool) {s t : State} {i : Fin 64} {l' : Line}
    (hc : t.config = s.config) (hl : t.lines = s.lines.set i l') (f : Fin 48) :
    countOn test t f =
      if f = s.config.lines[i].floor then
        recount (test s.config.lines[i] s.lines[i]) (test s.config.lines[i] l') (countOn test s f)
      else countOn test s f := by
  have hline (j : Fin 64) : t.lines[j] = if j = i then l' else s.lines[j] := by rw [hl, getElem_set_fin]
  unfold countOn
  rw [hc, countP_finRange_recount i
    (p := fun j => s.config.lines[j].floor == f && test s.config.lines[j] s.lines[j])
    fun j hj => by rw [hline, if_neg hj]]
  simp only [hline i, if_true]
  split
  · next hf => simp only [hf, beq_self_eq_true, Bool.true_and]
  · next hf => simp only [beq_eq_false_iff_ne.mpr (Ne.symm hf), Bool.false_and, recount_same]

/-! ## What the counts depend on -/

/-- The configuration, what a line's tests read of it, and every floor's counts are as they were (R21, R70, R71). -/
structure CountsKept (s t : State) : Prop where
  config : t.config = s.config
  line : ∀ i : Fin 64, t.lines[i].state = s.lines[i].state ∧ t.lines[i].unstable = s.lines[i].unstable
  count : ∀ f : Fin 48,
    t.floors[f].alarmCount = s.floors[f].alarmCount ∧ t.floors[f].troubleCount = s.floors[f].troubleCount

section
variable {s t w : State}

theorem CountsKept.trans {u : State} (h : CountsKept s t) (k : CountsKept t u) : CountsKept s u where
  config := k.config.trans h.config
  line i := ⟨(k.line i).1.trans (h.line i).1, (k.line i).2.trans (h.line i).2⟩
  count f := ⟨(k.count f).1.trans (h.count f).1, (k.count f).2.trans (h.count f).2⟩

theorem countsKept_of_eq (hc : t.config = s.config) (hl : t.lines = s.lines) (hf : t.floors = s.floors) :
    CountsKept s t :=
  ⟨hc, fun i => by rw [hl]; exact ⟨rfl, rfl⟩, fun f => by rw [hf]; exact ⟨rfl, rfl⟩⟩

/-- A line may be measured, or qualified afresh, while it keeps its state and its unstable flag. -/
theorem countsKept_of_set_line {i : Fin 64} {l : Line} (hs : l.state = s.lines[i].state)
    (hu : l.unstable = s.lines[i].unstable) : CountsKept s (s.setLine i l) where
  config := rfl
  line j := by
    rw [setLine_lines, getElem_set_fin]
    split
    · next e => subst e; exact ⟨hs, hu⟩
    · exact ⟨rfl, rfl⟩
  count _ := ⟨rfl, rfl⟩

theorem CountInv.of_kept (h : CountInv s) (k : CountsKept s t) : CountInv t := by
  rw [countInv_iff] at h ⊢
  intro f
  obtain ⟨halarm, htrouble⟩ := h f
  rw [(k.count f).1, (k.count f).2, halarm, htrouble]
  exact ⟨(countOn_congr k.config (fun i => fireActive_congr _ (k.line i).1) f).symm,
    (countOn_congr k.config (fun i => lineInTrouble_congr _ (k.line i).1 (k.line i).2) f).symm⟩

/-- The work of every unit derives rings, statuses and routed channels, and counts nothing (R74, R76). -/
theorem countsKept_settle (s0 w : State) : CountsKept w (settle s0 w) where
  config := by simp
  line i := by simp
  count f := by
    rw [settle_floor, deriveFloors_floor]
    exact ⟨rfl, rfl⟩

theorem CountInv.settle (h : CountInv w) (s0 : State) : CountInv (settle s0 w) := h.of_kept (countsKept_settle s0 w)

/-! ## The law under each update of the lines -/

/-- Changing a line recounts its floor by what the line was and what it becomes (R70, R71). -/
theorem CountInv.changeLine (h : CountInv s) (i : Fin 64) (l' : Line) : CountInv (changeLine i l' s) := by
  rw [countInv_iff] at h ⊢
  intro f
  have hc : (Machine.changeLine i l' s).config = s.config := by simp
  have hl := changeLine_lines i l' s
  rw [countOn_of_set_line fireActive hc hl, countOn_of_set_line lineInTrouble hc hl, changeLine_floors, getElem_set_fin]
  split
  · next hf =>
    obtain ⟨halarm, htrouble⟩ := h s.config.lines[i].floor
    rw [hf, ← halarm, ← htrouble]
    exact ⟨rfl, rfl⟩
  · exact h f

theorem CountInv.fireLine (h : CountInv s) (i : Fin 64) : CountInv (fireLine i s) :=
  h.of_kept (countsKept_of_eq (by simp) (by simp) (by simp))

theorem CountInv.lineEvent (h : CountInv s) (i : Fin 64) (l' : Line) : CountInv (lineEvent i l' s) := by
  have hc : CountInv (Machine.changeLine i l' s) := h.changeLine i l'
  unfold Machine.lineEvent
  dsimp only
  split
  · exact (hc.fireLine i).settle s
  · exact hc

theorem CountInv.setPGroup (h : CountInv s) (g : Fin 8) (x : PGroup) : CountInv (s.setPGroup g x) := h

theorem CountInv.codeStored (h : CountInv s) (i : Fin 64) (code : BitVec 10) : CountInv (codeStored i code s) := by
  have hset : CountsKept s (s.setLine i { s.lines[i] with lastCode := code }) := countsKept_of_set_line rfl rfl
  exact h.of_kept (hset.trans (countsKept_of_eq rfl rfl rfl))

/-- A sample is measured, or is the line's event (R6 to R12, R22). -/
theorem CountInv.takeSample (h : CountInv s) (i : Fin 64) (code : BitVec 10) : CountInv (takeSample i code s) := by
  unfold Machine.takeSample
  dsimp only
  split
  · exact h.of_kept (countsKept_of_set_line rfl rfl)
  · split
    · exact (h.setPGroup _ _).lineEvent i _
    · exact h.lineEvent i _

/-- RESET REGIME resets the lines one at a time, each counted (R40, R84). -/
theorem CountInv.resetRegime (h : CountInv s) : CountInv (resetRegime s) := by
  have hfold : CountInv (resetEachLine s) := List.foldlRecOn _ _ h fun u hu i _ => hu.changeLine i _
  have hreturned : CountInv (regimeReturned s) := hfold.of_kept
    (countsKept_of_eq (by simp [regimeReturned]) (by simp [regimeReturned, resetLines])
      (by simp [regimeReturned, resetLines]))
  exact hreturned.settle s

theorem CountInv.windowLine (h : CountInv s) (g : Fin 8) (i : Fin 64) : CountInv (windowLine g s i) := by
  unfold Machine.windowLine
  split
  · exact h.changeLine i _
  · exact h

/-- A group's entry into SETTLE empties its members' histories and clears their qualification (R33). -/
theorem countsKept_settleMembers (g : Fin 8) (x : PGroup) (s : State) :
    CountsKept s { s.setPGroup g x with lines := tabulate fun i => settleMember s g i } where
  config := rfl
  line i := by
    rw [Fin.getElem_fin, getElem_tabulate, settleMember]
    split <;> exact ⟨rfl, rfl⟩
  count _ := ⟨rfl, rfl⟩

/-! ## Power, load and time -/

theorem countInv_of_zero (hfloor : ∀ f : Fin 48, s.floors[f] = floorReset)
    (hfire : ∀ i : Fin 64, s.lines[i].state ≠ .active)
    (htrouble : ∀ i : Fin 64, lineInTrouble s.config.lines[i] s.lines[i] = false) : CountInv s := by
  rw [countInv_iff]
  intro f
  rw [hfloor, countOn_eq_zero (fun i => fireActive_eq_false_of_state _ (hfire i)), countOn_eq_zero htrouble]
  exact ⟨rfl, rfl⟩

/-- At a power-on reset no line is active or in trouble (R20, R69). -/
theorem countInv_powerOn (s : State) : CountInv (powerOn s) := by
  have hline (i : Fin 64) : (powerOn s).lines[i] = lineReset := getElem_tabulate _ _ _
  refine countInv_of_zero (fun _ => getElem_tabulate _ _ _) (fun i => ?_) fun i => ?_
  · rw [hline]; nofun
  · rw [hline]; simp [lineInTrouble, lineReset]

/-- At the end of the load every line starts NORMAL or UNUSED, and every floor still holds its reset values (R20,
R192). -/
theorem Dormant.countInv_startUp (h : Dormant s) : CountInv (startUp s) := by
  have hblocks : CountInv (startBlocks s) := by
    have hline (i : Fin 64) : (startBlocks s).lines[i] = startLine s.config.lines[i] := getElem_tabulate _ _ _
    refine countInv_of_zero h.floor (fun i => ?_) fun i => ?_
    all_goals
      rw [hline, startLine]
      split <;> simp [lineInTrouble, lineReset]
  rw [startUp_eq_with]
  exact hblocks

theorem CountInv.tick (h : CountInv s) : CountInv (tick s) :=
  h.of_kept ⟨rfl, fun i => by rw [tick_line]; exact ⟨rfl, rfl⟩, fun _ => ⟨rfl, rfl⟩⟩

/-! ## Commands -/

theorem CountInv.controlled {p : Fin 4} {bytes : List Byte} {body : State → State × Result} (h : CountInv s)
    (hbody : ∀ u, CountInv u → CountInv (body u).1) :
    CountInv (command p bytes (Machine.controlled p body) s) :=
  command_preserves id (fun u hu => controlled_preserves (fun _ => hbody u hu) hu) (fun _ _ => id) h

theorem CountInv.isolateLineBody (h : CountInv s) (line : Byte) : CountInv (isolateLineBody line s).1 := by
  unfold Machine.isolateLineBody
  (repeat' split) <;> simp [h, h.changeLine, (h.setPGroup _ _).changeLine]

theorem CountInv.restoreLineBody (h : CountInv s) (line : Byte) : CountInv (restoreLineBody line s).1 := by
  unfold Machine.restoreLineBody
  (repeat' split) <;> simp [h, h.changeLine]

theorem CountInv.resetRegimeBody (h : CountInv s) : CountInv (resetRegimeBody s).1 := by
  unfold Machine.resetRegimeBody
  split <;> simp [h, h.resetRegime]

theorem CountInv.restartBody (h : CountInv s) (p : Fin 4) : CountInv (restartBody p s).1 := by
  unfold Machine.restartBody
  (repeat' split)
  case h_2 => exact countInv_powerOn _
  all_goals exact h

theorem CountInv.acknowledgeBody (h : CountInv s) : CountInv (acknowledgeBody s).1 := by
  have hentered : CountInv (enterActive s) := h
  unfold Machine.acknowledgeBody
  split
  · split
    · exact hentered.settle s
    · rw [accept_state, regimeNotice_eq_with]
      exact h
  all_goals exact h

theorem CountInv.evacuateAllBody (h : CountInv s) : CountInv (evacuateAllBody s).1 := by
  by_cases hs : s.regime.evacuateAll = true ∧ s.regime.state = .active
  · rw [evacuateAllBody_again hs]
    exact h
  · rw [evacuateAllBody_new hs]
    have hw : CountInv (evacuating s) := by
      rw [evacuating_frame]
      exact h
    exact hw.settle s

end

/-! ## Every step -/

/-- A step that leaves the lines to the scanner and the counts as they were keeps the law. -/
theorem CountInv.of_scanner_kept {s t : State} (h : CountInv s) (hl : ScannerKept s t) (hf : FloorsKept s t) :
    CountInv t := by
  obtain ⟨-, hconfig, hlines, -⟩ := hl
  exact h.of_kept ⟨hconfig, fun i => by rw [hlines]; exact ⟨rfl, rfl⟩, hf.counts⟩

theorem exec_keeps_countInv {i : Instr} {s t : State} (hload : LoadInv s) (hs : CountInv s) (h : exec i s = .next t) :
    CountInv t := by
  cases hi : scannerActs i || floorActs i with
  | false =>
    obtain ⟨hscan, hfloor⟩ := Bool.or_eq_false_iff.mp hi
    exact hs.of_scanner_kept (exec_keeps_scanner hscan h) (exec_keeps_floors hfloor h)
  | true =>
    cases i with
    | powerOnReset => exact of_next h (countInv_powerOn s)
    | startUpLoadEnd =>
      refine of_next h ?_
      split
      · next hd =>
        have hl : s.load ≠ none := by rw [(timerDue_iff _).mp hd]; nofun
        exact (hload.dormant hl).countInv_startUp
      · exact hs
    | restart p => exact of_next h (hs.controlled fun u hu => hu.restartBody p)
    | zoneLineSlotCompletion i code =>
      refine of_next h ?_
      have hc : CountInv (codeStored i code s) := hs.codeStored i code
      split
      · dsimp only
        split
        · exact hc.takeSample i code
        · exact hc
      · exact hs
    | retardExpiry i =>
      refine of_next h ?_
      split
      · exact hs.lineEvent i _
      · exact hs
    | resetExpiry g =>
      refine of_next h ?_
      split
      · exact hs.of_kept (countsKept_settleMembers g _ s)
      · exact hs
    | settleExpiry g =>
      refine of_next h ?_
      split
      · exact hs.setPGroup g _
      · exact hs
    | windowExpiry g =>
      refine of_next h ?_
      split
      · exact List.foldlRecOn _ _ (hs.setPGroup g groupIdle) fun u hu i _ => hu.windowLine g i
      · exact hs
    | holdTimerExpiry | spreadExpiry =>
      refine of_next h ?_
      split
      · refine CountInv.settle ?_ s
        exact hs
      · exact hs
    | isolateLine p line => exact of_next h (hs.controlled fun u hu => hu.isolateLineBody line)
    | restoreLine p line => exact of_next h (hs.controlled fun u hu => hu.restoreLineBody line)
    | resetRegime => exact of_next h (hs.controlled fun u hu => hu.resetRegimeBody)
    | acknowledge => exact of_next h (hs.controlled fun u hu => hu.acknowledgeBody)
    | evacuateAll => exact of_next h (hs.controlled fun u hu => hu.evacuateAllBody)
    | _ => cases hi

/-- Settles O13: a change of a line recounts its floor, every other step keeps counts and lines, and the load begins
and ends with no line that counts. -/
theorem stepKeepsFloorCounts : Obligations.StepKeepsFloorCounts := by
  intro s t hload hs h
  unfold step at h
  split at h
  · exact of_next h hs.tick
  · next i rest _ =>
    have hload' : LoadInv { s with pending := rest } := hload
    have hs' : CountInv { s with pending := rest } := hs
    exact exec_keeps_countInv hload' hs' h

end Sys2Proof.Machine
end

section
/-! SUPPORT. Every step keeps each floor's ring and status, and the spread timer at rest once every floor evacuates
(O14). -/

namespace Sys2Proof.Machine

/-! ## What the two laws depend on -/

/-- The configuration, what a status reads of the regime record, and every floor's alarm count, ring and status are as
they were (R72, R73). -/
structure FloorsSteady (s t : State) : Prop where
  config : t.config = s.config
  radius : SameRadius s.regime t.regime
  alarmCount : ∀ f : Fin 48, t.floors[f].alarmCount = s.floors[f].alarmCount
  ring : ∀ f : Fin 48, t.floors[f].ring = s.floors[f].ring
  status : ∀ f : Fin 48, t.floors[f].status = s.floors[f].status

/-- The spread timer is stopped, or has run out with its expiry still to come (R78, R80; log entry 27). -/
def SpreadAtRest (x : SpreadTimer) : Prop := x = .stopped ∨ x = .running 0

section
variable {s t w : State}

theorem floorsSteady_of_kept (hc : t.config = s.config) (hr : SameRadius s.regime t.regime) (hf : FloorsKept s t) :
    FloorsSteady s t :=
  ⟨hc, hr, fun f => (hf.counts f).1, fun f => (hf.derived f).1, fun f => (hf.derived f).2⟩

theorem OnlyTroubles.sameRadius {g h : Regime} (ht : OnlyTroubles g h) : SameRadius g h := by
  rw [ht]
  exact ⟨rfl, rfl, rfl⟩

/-- Lines that enter or leave no accepted fire alarm reach no ring and no status (R71, R72). -/
theorem TroubleCounted.steady (h : TroubleCounted s t) : FloorsSteady s t where
  config := by rw [h.frame]
  radius := by rw [h.regime]; exact ⟨rfl, rfl, rfl⟩
  alarmCount f := by rw [h.floor f]
  ring f := by rw [h.floor f]
  status f := by rw [h.floor f]

theorem FloorsSteady.present (k : FloorsSteady s t) (f : Nat) : t.present f = s.present f := by
  simp only [State.present, k.config]

theorem FloorsSteady.everyFloorEvacuates_iff (k : FloorsSteady s t) :
    EveryFloorEvacuates t ↔ EveryFloorEvacuates s :=
  forall_congr' fun f => by rw [k.present, k.status]

theorem FloorInv.of_steady (h : FloorInv s) (k : FloorsSteady s t) : FloorInv t := by
  intro f
  rw [k.present, k.ring, k.status, fireFloors_congr k.config k.alarmCount, k.config, k.radius.statusOf]
  exact h f

theorem SpreadInv.of_steady (h : SpreadInv s) (k : FloorsSteady s t)
    (hx : SpreadAtRest s.regime.spread → SpreadAtRest t.regime.spread) : SpreadInv t := by
  intro ha he
  rw [k.radius.state] at ha
  exact hx (h ha (k.everyFloorEvacuates_iff.mp he))

/-! ## The two laws kept -/

/-- The event keeps the law of the floors' rings and statuses, and that of the spread timer, each by itself. -/
structure FloorLawsKept (s t : State) : Prop where
  floor : FloorInv s → FloorInv t
  spread : SpreadInv s → SpreadInv t

theorem FloorLawsKept.refl (s : State) : FloorLawsKept s s := ⟨id, id⟩

theorem FloorLawsKept.trans {u : State} (h : FloorLawsKept s t) (k : FloorLawsKept t u) : FloorLawsKept s u :=
  ⟨k.floor ∘ h.floor, k.spread ∘ h.spread⟩

/-- An event that takes effect only on a condition. -/
theorem FloorLawsKept.ite {c : Prop} [Decidable c] (h : c → FloorLawsKept s t) :
    FloorLawsKept s (if c then t else s) := by
  split
  · next hc => exact h hc
  · exact .refl s

theorem FloorsSteady.lawsKept (k : FloorsSteady s t)
    (hx : SpreadAtRest s.regime.spread → SpreadAtRest t.regime.spread) : FloorLawsKept s t :=
  ⟨(·.of_steady k), (·.of_steady k hx)⟩

/-- Rings and statuses read nothing of the trouble summary, and the routed channels are not of the laws. -/
theorem floorLawsKept_of_onlyTroubles (hc : t.config = s.config) (hr : OnlyTroubles s.regime t.regime)
    (hf : FloorsKept s t) : FloorLawsKept s t :=
  (floorsSteady_of_kept hc hr.sameRadius hf).lawsKept (by rw [hr]; exact id)

theorem TroubleCounted.lawsKept (h : TroubleCounted s t) : FloorLawsKept s t :=
  h.steady.lawsKept (by rw [h.regime]; exact id)

theorem floorLawsKept_command {p : Fin 4} {bytes : List Byte} {body : State → State × Result}
    (h : ∀ u, FloorLawsKept u (body u).1) : FloorLawsKept s (command p bytes body s) :=
  command_preserves (fun k => k.trans ⟨id, id⟩) (fun u k => k.trans (h u)) (fun _ _ k => k.trans ⟨id, id⟩) (.refl s)

theorem floorLawsKept_afterLoad {body : State → State × Result} (h : ∀ u, FloorLawsKept u (body u).1) (s : State) :
    FloorLawsKept s (afterLoad body s).1 :=
  afterLoad_preserves (fun _ => h s) (.refl s)

theorem floorLawsKept_controlled {p : Fin 4} {bytes : List Byte} {body : State → State × Result}
    (h : ∀ u, FloorLawsKept u (body u).1) : FloorLawsKept s (command p bytes (controlled p body) s) :=
  floorLawsKept_command fun u => controlled_preserves (fun _ => h u) (.refl u)

/-! ## The work of every unit (R74, R78) -/

theorem settle_ring {f : Fin 48} (s0 : State) (h : w.present f = true) :
    (settle s0 w).floors[f].ring = ringOf (fireFloors w) f := by
  have hf : (deriveFloors w).floors[f] = if w.present f then
      deriveFloor w.regime w.config.system.alertMargin (ringOf (fireFloors w) f) w.floors[f] else w.floors[f] :=
    getElem_tabulate _ _ _
  rw [settle_floor, hf, if_pos h]
  rfl

/-- The work of every unit derives the present floors' rings and statuses anew, whatever they were before. -/
theorem floorInv_settle (s0 : State) (h : ∀ f : Fin 48, w.present f = false → w.floors[f].status = .none) :
    FloorInv (settle s0 w) := by
  have hderived : FloorsDerived w (settle s0 w) := floorsDerived_settle s0 fun _ => rfl
  have hc : (settle s0 w).config = w.config := by simp
  have hp (f : Nat) : (settle s0 w).present f = w.present f := by simp only [State.present, hc]
  have hfires : fireFloors (settle s0 w) = fireFloors w := fireFloors_congr hc (settle_alarmCount s0 w)
  intro f
  split
  · next hf =>
    have hring : (settle s0 w).floors[f].ring = ringOf (fireFloors (settle s0 w)) f := by
      rw [hfires, settle_ring s0 ((hp f).symm.trans hf)]
    exact ⟨hring, by rw [hring]; exact hderived.status f hf⟩
  · next hf =>
    rw [Bool.not_eq_true] at hf
    rw [hderived.absent f hf]
    exact h f ((hp f).symm.trans hf)

/-- An event that leaves the floor table's absent floors to the work of every unit as they were. -/
theorem FloorInv.settle (h : FloorInv s) (hc : w.config = s.config)
    (hf : ∀ f : Fin 48, w.floors[f].status = s.floors[f].status) (s0 : State) : FloorInv (settle s0 w) := by
  refine floorInv_settle s0 fun f habsent => ?_
  rw [State.present, hc] at habsent
  have hs := h f
  rw [State.present, habsent] at hs
  exact (hf f).trans hs

/-- The work of every unit stops the timer once every floor evacuates, whatever stood before (R78, R80). -/
theorem spreadInv_settle (s0 w : State) : SpreadInv (settle s0 w) := by
  intro ha he
  have hw : w.regime.state = .active := by
    rw [settle_regime] at ha
    exact ha
  by_cases hd : w.regime.spread = .running 0
  · have hkept := settle_regime_of_not_all (s0 := s0) (s := w) (.inr hd)
    rw [hkept]
    exact .inr hd
  · have hstopped := settle_regime_of_all hw he hd
    rw [hstopped]
    exact .inl rfl

theorem floorLawsKept_settle (s0 : State) (hc : w.config = s.config)
    (hf : ∀ f : Fin 48, w.floors[f].status = s.floors[f].status) : FloorLawsKept s (settle s0 w) :=
  ⟨fun h => h.settle hc hf s0, fun _ => spreadInv_settle s0 w⟩

/-- The same where the event has touched no floor. -/
theorem floorLawsKept_settle_of_eq (s0 : State) (hc : w.config = s.config) (hf : w.floors = s.floors) :
    FloorLawsKept s (settle s0 w) :=
  floorLawsKept_settle s0 hc fun f => by rw [hf]

/-! ## The line scanner -/

/-- A line that is an accepted fire alarm stays one at a sample: its kind is latched (R18, R28). -/
theorem sampledLine_keeps_fire {c : LineCfg} {l : Line} (h : fireActive c l = true) (bs : BandSetCfg) (n : Nat)
    (g : PGroupState) (r : RegimeState) (code : BitVec 10) : fireActive c (sampledLine c bs n g r code l) = true := by
  obtain ⟨hkind, hstate⟩ := (fireActive_iff c l).mp h
  unfold sampledLine
  split
  · exact h
  · next b _ =>
    have hstays := lineMachine_active_stays (c := c) (n := n) (g := g) (r := r) (b := b)
      (l := { measured c bs code l with qualified := some b }) hstate (.inl hkind)
    rw [hstays]
    exact h

/-- The event of a line that ends no accepted fire alarm. -/
theorem floorLawsKept_lineEvent {i : Fin 64} {l' : Line}
    (hstays : fireActive s.config.lines[i] s.lines[i] = true → fireActive s.config.lines[i] l' = true) :
    FloorLawsKept s (lineEvent i l' s) := by
  by_cases hsame : fireActive s.config.lines[i] l' = fireActive s.config.lines[i] s.lines[i]
  · rw [lineEvent_of_fire_same hsame]
    exact (troubleCounted_changeLine hsame).lawsKept
  · have hbefore : fireActive s.config.lines[i] s.lines[i] = false :=
      Bool.eq_false_iff.mpr fun hb => hsame ((hstays hb).trans hb.symm)
    have hafter : fireActive s.config.lines[i] l' = true := by
      rw [hbefore, Bool.not_eq_false] at hsame
      exact hsame
    rw [lineEvent_of_rise hafter hbefore]
    refine floorLawsKept_settle s (by simp) fun f => ?_
    have hfloors : (fireLine i (changeLine i l' s)).floors = (changeLine i l' s).floors := by simp
    rw [hfloors]
    exact (unitEvent_changeLine i l' s).status f

theorem floorLawsKept_takeSample (i : Fin 64) (code : BitVec 10) (s : State) :
    FloorLawsKept s (takeSample i code s) := by
  have hstays (hb : fireActive s.config.lines[i] s.lines[i] = true) :
      fireActive s.config.lines[i] (sampledLineOf i code s) = true := sampledLine_keeps_fire hb ..
  have hgroup : FloorLawsKept s (s.setPGroup s.config.lines[i].powerGroup groupReset) := ⟨id, id⟩
  obtain e | e | e := takeSample_cases i code s <;> rw [e]
  · exact ⟨id, id⟩
  · exact floorLawsKept_lineEvent hstays
  · exact hgroup.trans (floorLawsKept_lineEvent hstays)

/-- RESET REGIME ends fire alarms one line after another, and the floors are derived at its end (R63, R84). -/
theorem floorLawsKept_resetRegime (s : State) : FloorLawsKept s (resetRegime s) := by
  rw [resetRegime_eq]
  refine floorLawsKept_settle s (regimeReturned_load_config s).2 fun f => ?_
  have hfloors : (regimeReturned s).floors = (resetEachLine s).floors := by simp [regimeReturned, resetLines]
  have hreset : UnitEvent s (resetEachLine s) := foldl_relates .refl .trans (fun u i => unitEvent_changeLine i _ u) _ _
  rw [hfloors]
  exact hreset.status f

/-! ## Commands of the line scanner -/

/-- A line that is isolated was no accepted fire alarm (R37). -/
theorem isolateLineBody_keeps_floorLaws {line : Byte} (s : State) : FloorLawsKept s (isolateLineBody line s).1 := by
  unfold isolateLineBody
  split
  · exact .refl s
  · next i _ =>
    have hgroup : FloorLawsKept s (s.setPGroup s.config.lines[i].powerGroup groupIdle) := ⟨id, id⟩
    split
    · next hi =>
      have hsame := isolated_fireActive hi
      split
      · refine hgroup.trans (TroubleCounted.lawsKept (troubleCounted_changeLine ?_))
        exact hsame
      · exact (troubleCounted_changeLine hsame).lawsKept
    · exact .refl s

/-- A line that is restored was no accepted fire alarm, and is none (R39). -/
theorem restoreLineBody_keeps_floorLaws {line : Byte} (s : State) : FloorLawsKept s (restoreLineBody line s).1 := by
  unfold restoreLineBody
  split
  · exact .refl s
  · next i _ =>
    split
    · next hi =>
      split
      · exact .refl s
      · have hbefore : fireActive s.config.lines[i] s.lines[i] = false :=
          fireActive_eq_false_of_state _ (by rw [hi]; nofun)
        have hafter : fireActive s.config.lines[i] (restored s.lines[i]) = false := fireActive_eq_false_of_state _ nofun
        exact (troubleCounted_changeLine (hafter.trans hbefore.symm)).lawsKept
    · exact .refl s

theorem resetRegimeBody_keeps_floorLaws (s : State) : FloorLawsKept s (resetRegimeBody s).1 := by
  unfold resetRegimeBody
  split <;> simp [FloorLawsKept.refl, floorLawsKept_resetRegime]

/-! ## Commands of the regime -/

theorem floorLawsKept_setHolder (h : Option (Fin 4)) (s : State) : FloorLawsKept s (setHolder h s) := ⟨id, id⟩

theorem takeControlBody_keeps_floorLaws {p : Fin 4} (s : State) : FloorLawsKept s (takeControlBody p s).1 := by
  unfold takeControlBody
  (repeat' split) <;> simp [FloorLawsKept.refl, floorLawsKept_setHolder]

/-- The entry into HOLD_INVESTIGATE leaves a regime that holds, in which no floor has a status (R52, R73). -/
theorem acknowledgeBody_keeps_floorLaws (s : State) : FloorLawsKept s (acknowledgeBody s).1 := by
  unfold acknowledgeBody
  split
  · next ha =>
    split
    · exact floorLawsKept_settle_of_eq s rfl rfl
    · rw [accept_state, regimeNotice_eq_with]
      refine ⟨fun h f => ?_, nofun⟩
      have hf := h f
      simp only [statusOf, ha] at hf
      exact hf
  all_goals exact .refl s

theorem floorLawsKept_setSilenced (b : Bool) (s : State) : FloorLawsKept s (setSilenced b s) := by
  have hradius : SameRadius s.regime (setSilenced b s).regime := by
    rw [setSilenced_regime]
    exact ⟨rfl, rfl, rfl⟩
  refine (floorsSteady_of_kept (by simp) hradius (floorsKept_setSilenced b s)).lawsKept ?_
  rw [setSilenced_regime]
  exact id

theorem silenceBody_keeps_floorLaws (s : State) : FloorLawsKept s (silenceBody s).1 := by
  unfold silenceBody
  (repeat' split) <;> simp [FloorLawsKept.refl, floorLawsKept_setSilenced]

theorem resoundBody_keeps_floorLaws (s : State) : FloorLawsKept s (resoundBody s).1 := by
  unfold resoundBody
  split <;> simp [FloorLawsKept.refl, floorLawsKept_setSilenced]

theorem evacuateAllBody_keeps_floorLaws (s : State) : FloorLawsKept s (evacuateAllBody s).1 := by
  by_cases hs : s.regime.evacuateAll = true ∧ s.regime.state = .active
  · rw [evacuateAllBody_again hs]
    exact .refl s
  · rw [evacuateAllBody_new hs]
    exact floorLawsKept_settle_of_eq s (by rw [evacuating_frame]) (by rw [evacuating_frame])

/-- SPREAD HOLD is refused once every floor evacuates (R60; log entry 27). -/
theorem spreadHoldBody_keeps_floorLaws (s : State) : FloorLawsKept s (spreadHoldBody s).1 := by
  unfold spreadHoldBody
  split
  · split
    · exact .refl s
    · next he =>
      rw [accept_state, regimeNotice_eq_with]
      exact ⟨id, fun _ _ hall => absurd ((allEvacuate_iff s).mpr hall) he⟩
  · exact .refl s

/-- SPREAD RESUME runs a frozen timer on, and one at rest stays (R61). -/
theorem spreadAtRest_thaw {x : SpreadTimer} (h : SpreadAtRest x) : SpreadAtRest (thaw x) := by
  obtain rfl | rfl := h
  · exact .inl rfl
  · exact .inr rfl

theorem spreadResumeBody_keeps_floorLaws (s : State) : FloorLawsKept s (spreadResumeBody s).1 := by
  unfold spreadResumeBody
  split
  · rw [accept_state, regimeNotice_eq_with]
    exact ⟨id, fun h ha he => spreadAtRest_thaw (h ha he)⟩
  · exact .refl s

/-! ## The door unit -/

theorem floorLawsKept_doorNotices (hc : w.config = s.config) (hr : w.regime = s.regime) (hf : w.floors = s.floors) :
    FloorLawsKept s (doorNotices s w) :=
  floorLawsKept_of_onlyTroubles (by simpa using hc) (by rw [OnlyTroubles, doorNotices_regime, hr])
    (floorsKept_of_eq (by simpa using hf))

theorem doorOverrideBody_keeps_floorLaws {g o : Byte} (s : State) : FloorLawsKept s (doorOverrideBody g o s).1 := by
  have hj (k : Fin 16) (x : DGroup) : FloorLawsKept s (doorNotices s (judgeDemand (s.setDGroup k x) k)) :=
    floorLawsKept_doorNotices (by simp) (by simp) (by simp)
  unfold doorOverrideBody overrideGroup
  (repeat' split) <;> simp [FloorLawsKept.refl, hj]

/-! ## Power, load and time -/

theorem ringOf_of_no_fire {fires : FloorSet} (h : ∀ g : Fin 48, fires.has g = false) (f : Nat) :
    ringOf fires f = none := by
  have hnil : (List.finRange 48).filterMap (distanceTo fires f) = [] :=
    List.filterMap_eq_nil_iff.mpr fun g _ => if_neg (by rw [h g]; nofun)
  rw [ringOf, hnil]
  rfl

/-- In QUIET no floor has a status (R73). -/
theorem statusOf_of_quiet {g : Regime} (h : g.state = .quiet) (margin : Nat) (ring : Option Nat) :
    statusOf g margin ring = .none := by
  simp only [statusOf, h]

/-- A floor table at its reset values has no fire floor, no ring and no status (R69, R72, R73). -/
theorem floorInv_of_reset (hq : s.regime.state = .quiet) (hf : ∀ f : Fin 48, s.floors[f] = floorReset) :
    FloorInv s := by
  have hfires (g : Fin 48) : (fireFloors s).has g = false := by
    simp [fireFloors, -Fin.getElem_fin, hf, floorReset]
  intro f
  rw [hf, ringOf_of_no_fire hfires, statusOf_of_quiet hq]
  split
  · exact ⟨rfl, rfl⟩
  · rfl

/-- At a power-on reset both laws hold, whatever stood before (R43, R69). -/
theorem floorLawsKept_of_reset (hq : t.regime.state = .quiet) (hf : ∀ f : Fin 48, t.floors[f] = floorReset) :
    FloorLawsKept s t :=
  ⟨fun _ => floorInv_of_reset hq hf, fun _ ha => by rw [hq] at ha; cases ha⟩

theorem floorLawsKept_powerOn (s : State) : FloorLawsKept s (powerOn s) :=
  floorLawsKept_of_reset rfl fun _ => getElem_tabulate _ _ _

theorem restartBody_keeps_floorLaws {p : Fin 4} (s : State) : FloorLawsKept s (restartBody p s).1 := by
  unfold restartBody
  (repeat' split)
  case h_2 => exact (FloorLawsKept.mk id id : FloorLawsKept s (setConflict p none s)).trans (floorLawsKept_powerOn _)
  all_goals exact ⟨id, id⟩

theorem floorLawsKept_startUp (s : State) : FloorLawsKept s (startUp s) := by
  rw [startUp_eq_with]
  exact ⟨id, id⟩

/-- A spread timer at rest does not run. -/
theorem spreadAtRest_tickSpread {x : SpreadTimer} (h : SpreadAtRest x) : SpreadAtRest (tickSpread x) := by
  obtain rfl | rfl := h
  · exact .inl rfl
  · exact .inr rfl

theorem floorLawsKept_tick (s : State) : FloorLawsKept s (tick s) :=
  ⟨id, fun h ha he => spreadAtRest_tickSpread (h ha he)⟩

end

/-! ## Every step -/

theorem exec_keeps_floorLaws {i : Instr} {s t : State} (h : exec i s = .next t) : FloorLawsKept s t := by
  cases hi : regimeActs i || floorActs i with
  | false =>
    obtain ⟨hunit, hfloor⟩ := Bool.or_eq_false_iff.mp hi
    have he := exec_unitEvent hunit h
    exact floorLawsKept_of_onlyTroubles he.config he.regime (exec_keeps_floors hfloor h)
  | true =>
    cases i with
    | powerOnReset => exact of_next h (floorLawsKept_powerOn s)
    | startUpLoadEnd => exact of_next h (.ite fun _ => floorLawsKept_startUp s)
    | restart => exact of_next h (floorLawsKept_controlled restartBody_keeps_floorLaws)
    | zoneLineSlotCompletion i code =>
      have hc : FloorLawsKept s (codeStored i code s) := ⟨id, id⟩
      refine of_next h (.ite fun _ => ?_)
      dsimp only
      split
      · exact hc.trans (floorLawsKept_takeSample i code _)
      · exact hc
    | retardExpiry i =>
      refine of_next h (.ite fun _ => floorLawsKept_lineEvent fun hb => ?_)
      exact (fireActive_iff _ _).mpr ⟨((fireActive_iff _ _).mp hb).1, rfl⟩
    | windowExpiry g =>
      have hg : FloorLawsKept s (s.setPGroup g groupIdle) := ⟨id, id⟩
      exact of_next h (.ite fun _ => hg.trans (troubleCounted_windowLines g _ _).lawsKept)
    | isolateLine => exact of_next h (floorLawsKept_controlled isolateLineBody_keeps_floorLaws)
    | restoreLine => exact of_next h (floorLawsKept_controlled restoreLineBody_keeps_floorLaws)
    | resetRegime => exact of_next h (floorLawsKept_controlled resetRegimeBody_keeps_floorLaws)
    | holdTimerExpiry | spreadExpiry => exact of_next h (.ite fun _ => floorLawsKept_settle_of_eq s rfl rfl)
    | silenceInhibitExpiry => exact of_next h (.ite fun _ => ⟨id, id⟩)
    | portReset =>
      refine of_next h ?_
      dsimp only
      split
      · exact ⟨id, id⟩
      · exact ⟨id, id⟩
    | takeControl => exact of_next h (floorLawsKept_command (floorLawsKept_afterLoad takeControlBody_keeps_floorLaws))
    | releaseControl => exact of_next h (floorLawsKept_controlled fun u => floorLawsKept_setHolder none u)
    | acknowledge => exact of_next h (floorLawsKept_controlled acknowledgeBody_keeps_floorLaws)
    | silence => exact of_next h (floorLawsKept_controlled silenceBody_keeps_floorLaws)
    | resound => exact of_next h (floorLawsKept_controlled resoundBody_keeps_floorLaws)
    | evacuateAll => exact of_next h (floorLawsKept_controlled evacuateAllBody_keeps_floorLaws)
    | spreadHold => exact of_next h (floorLawsKept_controlled spreadHoldBody_keeps_floorLaws)
    | spreadResume => exact of_next h (floorLawsKept_controlled spreadResumeBody_keeps_floorLaws)
    | staggerExpiry =>
      refine of_next h (.ite fun _ => ?_)
      split
      · exact ⟨id, id⟩
      · exact floorLawsKept_doorNotices (by simp) (by simp) (by simp)
    | doorOverride => exact of_next h (floorLawsKept_controlled doorOverrideBody_keeps_floorLaws)
    | _ => cases hi

/-- Settles O14: an event that moves the regime or the fire floors ends in the work of every unit, which derives the
floor table and stops the spread; every other step keeps what both laws read. -/
theorem stepKeepsFloorLaw : Obligations.StepKeepsFloorLaw := by
  intro s t h
  unfold step at h
  split at h
  · obtain ⟨hfloor, hspread⟩ := of_next h (floorLawsKept_tick s)
    exact ⟨hfloor, hspread⟩
  · next i rest _ =>
    obtain ⟨hfloor, hspread⟩ := exec_keeps_floorLaws h
    exact ⟨hfloor, hspread⟩

end Sys2Proof.Machine
end

section
/-! SUPPORT. What the lift rules read, and what the lift unit's work leaves of every group and every car. -/

namespace Sys2Proof.Machine

/-! ## Causes, triggers and targets (R90, R93) -/

/-- What a cause, a trigger and a target are judged by is as it was: the configuration, whether the regime is QUIET, the
accepted fire alarms and the floors' alarm counts. -/
structure CausesKept (s t : State) : Prop where
  config : t.config = s.config
  quiet : (t.regime.state == .quiet) = (s.regime.state == .quiet)
  fire : ∀ i : Fin 64, fireActive s.config.lines[i] t.lines[i] = fireActive s.config.lines[i] s.lines[i]
  alarmCount : ∀ f : Fin 48, t.floors[f].alarmCount = s.floors[f].alarmCount

/-- A line of a fire kind is in ACTIVE exactly as an accepted fire alarm (R18, R22). -/
theorem active_and_kind {k : LineKind} (hk : LineKind.fire k = true) (c : LineCfg) (l : Line) :
    (l.state == .active && c.kind == k) = (fireActive c l && c.kind == k) := by
  by_cases h : c.kind = k
  · simp only [fireActive, h, hk, Bool.true_and]
  · simp only [beq_eq_false_iff_ne.mpr h, Bool.and_false]

theorem hoistwayCause_iff (s : State) (g : Fin 3) : hoistwayCause s g = true ↔ HoistwayActive s g := by
  simp only [hoistwayCause, HoistwayActive, List.any_eq_true, List.mem_finRange, true_and, Bool.and_eq_true,
    beq_iff_eq, and_assoc]

theorem fireFloors_has_iff (s : State) (f : Fin 48) : (fireFloors s).has f = true ↔ FireFloor s f := by
  simp [fireFloors, FireFloor]

section
variable {s t u : State}

theorem CausesKept.trans (h : CausesKept s t) (k : CausesKept t u) : CausesKept s u where
  config := k.config.trans h.config
  quiet := k.quiet.trans h.quiet
  fire i := by
    have hk := k.fire i
    rw [h.config] at hk
    exact hk.trans (h.fire i)
  alarmCount f := (k.alarmCount f).trans (h.alarmCount f)

theorem CausesKept.fireFloors (h : CausesKept s t) : fireFloors t = fireFloors s :=
  fireFloors_congr h.config h.alarmCount

theorem CausesKept.lobbyCause (h : CausesKept s t) (g : Fin 3) : lobbyCause t g = lobbyCause s g := by
  simp only [Machine.lobbyCause, groupServes, inGroup, active_and_kind (k := .lobby) rfl, h.config, h.fire]

theorem CausesKept.hoistwayCause (h : CausesKept s t) (g : Fin 3) : hoistwayCause t g = hoistwayCause s g := by
  simp only [Machine.hoistwayCause, active_and_kind (k := .hoistway) rfl, h.config, h.fire]

theorem CausesKept.automaticCause (h : CausesKept s t) (g : Fin 3) : automaticCause t g = automaticCause s g := by
  simp only [Machine.automaticCause, bne, h.config, h.quiet, h.lobbyCause, h.hoistwayCause]

theorem CausesKept.trigger (h : CausesKept s t) {g : Fin 3} (hm : t.lgroups[g].manual = s.lgroups[g].manual) :
    trigger t g = trigger s g := by
  simp only [Machine.trigger, bne, h.config, h.quiet, h.automaticCause, hm]

theorem CausesKept.targetOf (h : CausesKept s t) (g : Fin 3) : targetOf t g = targetOf s g := by
  simp only [Machine.targetOf, h.config, h.fireFloors]

/-- Without an automatic cause a group is triggered by its manual recall alone (R90). -/
theorem trigger_of_no_cause {g : Fin 3} (ha : automaticCause s g = false) (hm : s.lgroups[g].manual = false) :
    trigger s g = false := by
  simp only [trigger, ha, hm, Bool.and_false, Bool.or_self]

/-- A manual recall triggers a present group outside QUIET (R90). -/
theorem trigger_of_manual {g : Fin 3} (hp : s.config.lgroups[g].present = true) (hq : s.regime.state ≠ .quiet)
    (hm : s.lgroups[g].manual = true) : trigger s g = true := by
  simp [trigger, -Fin.getElem_fin, hp, hq, hm]

/-! ## The no-stop set and the warning (R95, R96) -/

/-- The law of the no-stop set and the warning, with what they read as the functions of the model. -/
theorem noStopGood_iff (s : State) (c : Fin 12) :
    NoStopGood s c ↔
      (∀ f : Fin 48, s.cars[c].noStop.has f =
        ((fireFloors s).has f && s.config.cars[c].served.has f &&
          s.lgroups[s.config.cars[c].group].target != some f)) ∧
      s.cars[c].warning = hoistwayCause s s.config.cars[c].group := by
  unfold NoStopGood
  refine and_congr (forall_congr' fun f => ?_) ?_
  · rw [← fireFloors_has_iff, ← bne_iff_ne, ← and_assoc, ← Bool.and_eq_true, ← Bool.and_eq_true]
    exact Bool.eq_iff_iff.symm
  · rw [← hoistwayCause_iff]
    exact Bool.eq_iff_iff.symm

/-- A car's no-stop set and warning stay good while what they read stays. -/
theorem NoStopGood.of_kept {c : Fin 12} (h : NoStopGood s c) (hk : CausesKept s t)
    (ht : t.lgroups[s.config.cars[c].group].target = s.lgroups[s.config.cars[c].group].target)
    (hn : t.cars[c].noStop = s.cars[c].noStop) (hw : t.cars[c].warning = s.cars[c].warning) : NoStopGood t c := by
  rw [noStopGood_iff] at h ⊢
  simp only [hk.fireFloors, hk.config, hk.hoistwayCause, ht, hn, hw]
  exact h

end

/-! ## A car and its group -/

/-- A FREE car: no directive, target, no-stop set or warning (R92). -/
def CarAtRest (x : Car) : Prop :=
  x.phase = .free ∧ x.directive = .none ∧ x.target = none ∧ x.noStop = 0 ∧ x.warning = false

/-- The directive and the target of a car by its recall state (R91, R94, R98, R101). -/
def CarDirected (target : Option (Fin 48)) (x : Car) : Prop :=
  match x.phase with
  | .free => True
  | .recalling => x.directive = .recall ∧ x.target = target
  | .parked => x.directive = .park ∧ x.target = target
  | .exempt => x.directive = .none ∧ x.target = none
  | .lost => if x.directive = .none then x.target = none else x.target = target

/-- A present car follows its group: FREE while it is not triggered, and directed by its recall state while it is. -/
def CarObeys (g : LGroup) (x : Car) : Prop :=
  if g.triggered then x.phase ≠ .free ∧ CarDirected g.target x else CarAtRest x

theorem directiveGood_iff (s : State) (c : Fin 12) :
    DirectiveGood s c ↔ CarDirected s.lgroups[s.config.cars[c].group].target s.cars[c] := by
  unfold DirectiveGood CarDirected
  dsimp only
  cases s.cars[c].phase <;> exact Iff.rfl

/-- The law of a car reads of it its recall state, directive, target, no-stop set and warning. -/
theorem carView_eq_iff (x y : Car) :
    carView y = carView x ↔
      y.phase = x.phase ∧ y.directive = x.directive ∧ y.target = x.target ∧ y.noStop = x.noStop ∧
        y.warning = x.warning := by
  simp only [carView, Prod.mk.injEq]

theorem carAtRest_congr {x y : Car} (h : carView y = carView x) : CarAtRest y ↔ CarAtRest x := by
  obtain ⟨hphase, hdirective, htarget, hnoStop, hwarning⟩ := (carView_eq_iff x y).mp h
  simp only [CarAtRest, hphase, hdirective, htarget, hnoStop, hwarning]

theorem carDirected_congr {x y : Car} (target : Option (Fin 48)) (hp : y.phase = x.phase)
    (hd : y.directive = x.directive) (ht : y.target = x.target) : CarDirected target y ↔ CarDirected target x := by
  simp only [CarDirected, hp, hd, ht]

theorem carObeys_congr {x y : Car} (g : LGroup) (h : carView y = carView x) : CarObeys g y ↔ CarObeys g x := by
  obtain ⟨hphase, hdirective, htarget, -⟩ := (carView_eq_iff x y).mp h
  simp only [CarObeys, carAtRest_congr h, carDirected_congr _ hphase hdirective htarget, hphase]

theorem carObeys_of_triggered {g : LGroup} (h : g.triggered = true) (x : Car) :
    CarObeys g x ↔ x.phase ≠ .free ∧ CarDirected g.target x := by
  rw [CarObeys, if_pos h]

theorem carObeys_of_untriggered {g : LGroup} (h : g.triggered = false) (x : Car) : CarObeys g x ↔ CarAtRest x := by
  rw [CarObeys, h]
  exact Iff.rfl

/-! ## A car at a judgement of its group (R91, R92, R94) -/

theorem exemptMode_iff (m : ServiceMode) : exemptMode m = true ↔ m = .firefighter ∨ m = .outOfService := by
  cases m <;> simp [exemptMode]

/-- A car by its group before and after a judgement, before its no-stop set and warning are set. -/
def movedCar (old new : LGroup) (x : Car) : Car :=
  if !old.triggered && new.triggered then carRise new.target x
  else if old.triggered && !new.triggered then carFall x
  else if new.triggered && old.target != new.target then carRetarget new.target x
  else x

theorem carSettle_eq (s : State) (old : LGroup) (g : Fin 3) (fs : FloorSet) (x : Car) :
    carSettle s old g fs x = carNoStop s g fs (movedCar old s.lgroups[g] x) := rfl

section
variable {old new : LGroup} {x : Car}

theorem movedCar_rise (ho : old.triggered = false) (hn : new.triggered = true) :
    movedCar old new x = carRise new.target x := by
  simp only [movedCar, ho, hn, Bool.not_false, Bool.and_self, if_true]

theorem movedCar_fall (ho : old.triggered = true) (hn : new.triggered = false) : movedCar old new x = carFall x := by
  simp [movedCar, ho, hn]

theorem movedCar_turn (ho : old.triggered = true) (hn : new.triggered = true) (ht : old.target ≠ new.target) :
    movedCar old new x = carRetarget new.target x := by
  simp [movedCar, ho, hn, ht]

theorem movedCar_stay (h : old.triggered = new.triggered) (ht : new.triggered = true → old.target = new.target) :
    movedCar old new x = x := by
  cases hn : new.triggered with
  | true => simp [movedCar, h.trans hn, hn, ht hn]
  | false => simp [movedCar, h.trans hn, hn]

/-- A car without a report that counts is LOST at the rise (R91). -/
theorem carRise_unreported (t : Option (Fin 48)) (h : x.reported = false) :
    carRise t x = recallTo t { x with phase := .lost } := by
  rw [carRise, h]
  rfl

theorem carRise_reported (t : Option (Fin 48)) {r : Report} (h : x.reported = true) (hr : x.report = some r) :
    carRise t x =
      if r.mode = .firefighter ∨ r.mode = .outOfService then
        { x with phase := .exempt, directive := .none, target := none }
      else recallTo t { x with phase := .recalling } := by
  simp only [carRise, h, hr, if_true, exemptMode_iff]

/-- At the rise a car becomes EXEMPT, RECALLING or LOST, with the directive of that state (R91). -/
theorem carRise_directed (t : Option (Fin 48)) (x : Car) :
    (carRise t x).phase ≠ .free ∧ CarDirected t (carRise t x) := by
  unfold carRise recallTo
  (repeat' split) <;> simp [CarDirected]

theorem carFall_atRest (x : Car) : CarAtRest (carFall x) := ⟨rfl, rfl, rfl, rfl, rfl⟩

/-- At a new target a car that is not FREE stays so, and takes the target by the table of R94. -/
theorem carRetarget_directed {t t' : Option (Fin 48)} (hp : x.phase ≠ .free) (hd : CarDirected t x) :
    (carRetarget t' x).phase ≠ .free ∧ CarDirected t' (carRetarget t' x) := by
  cases hx : x.phase with
  | free => exact absurd hx hp
  | recalling | parked => simp [carRetarget, CarDirected, recallTo, hx]
  | exempt =>
    simp only [CarDirected, hx] at hd
    simp [carRetarget, CarDirected, hx, hd]
  | lost =>
    simp only [CarDirected, hx] at hd
    by_cases hn : x.directive = .none
    · simp only [hn, if_true] at hd
      simp [carRetarget, CarDirected, hx, hn, hd]
    · simp [carRetarget, CarDirected, recallTo, hx, hn]

/-- A car that followed its group before a judgement follows it after. -/
theorem CarObeys.movedCar (h : CarObeys old x) : CarObeys new (movedCar old new x) := by
  cases ho : old.triggered <;> cases hn : new.triggered
  · rw [carObeys_of_untriggered ho] at h
    rwa [movedCar_stay (ho.trans hn.symm) (by rw [hn]; nofun), carObeys_of_untriggered hn]
  · rw [movedCar_rise ho hn, carObeys_of_triggered hn]
    exact carRise_directed _ x
  · rw [movedCar_fall ho hn, carObeys_of_untriggered hn]
    exact carFall_atRest x
  · obtain ⟨hp, hd⟩ := (carObeys_of_triggered ho x).mp h
    rw [carObeys_of_triggered hn]
    by_cases ht : old.target = new.target
    · rw [movedCar_stay (ho.trans hn.symm) fun _ => ht, ← ht]
      exact ⟨hp, hd⟩
    · rw [movedCar_turn ho hn ht]
      exact carRetarget_directed hp hd

end

section
variable (s : State) (g : Fin 3) (fs : FloorSet) (x : Car)

theorem carNoStop_of_free {x : Car} (h : x.phase = .free) : carNoStop s g fs x = x := if_pos h

/-- A car that is not FREE is given its no-stop set and its warning (R95, R96). -/
theorem carNoStop_of_not_free {x : Car} (h : x.phase ≠ .free) :
    (∀ f : Fin 48, (carNoStop s g fs x).noStop.has f =
      ((fireFloors s).has f && fs.has f && s.lgroups[g].target != some f)) ∧
    (carNoStop s g fs x).warning = hoistwayCause s g := by
  rw [carNoStop, if_neg h]
  exact ⟨fun f => by simp, rfl⟩

theorem carNoStop_directive :
    (carNoStop s g fs x).phase = x.phase ∧ (carNoStop s g fs x).directive = x.directive ∧
      (carNoStop s g fs x).target = x.target := by
  unfold carNoStop
  split <;> exact ⟨rfl, rfl, rfl⟩

theorem CarObeys.carNoStop {x : Car} {k : LGroup} (h : CarObeys k x) : CarObeys k (carNoStop s g fs x) := by
  obtain ⟨hphase, hdirective, htarget⟩ := carNoStop_directive s g fs x
  cases hk : k.triggered with
  | true =>
    rw [carObeys_of_triggered hk] at h ⊢
    rwa [carDirected_congr _ hphase hdirective htarget, hphase]
  | false =>
    have hfree : x.phase = .free := ((carObeys_of_untriggered hk x).mp h).1
    rwa [carNoStop_of_free s g fs hfree]

end

/-! ## The lift unit's work (R90 to R96) -/

section
variable {w : State} (s0 : State) {c : Fin 12}

theorem liftSettle_lgroups : (liftSettle s0 w).lgroups = (judgeGroups w).lgroups := by
  simp [liftSettle]

theorem liftSettle_car_of_present (hp : w.config.cars[c].present = true) :
    (liftSettle s0 w).cars[c] =
      carNoStop (judgeGroups w) w.config.cars[c].group w.config.cars[c].served
        (movedCar w.lgroups[w.config.cars[c].group] (liftSettle s0 w).lgroups[w.config.cars[c].group] w.cars[c]) := by
  have h : (liftSettle s0 w).cars = (settleCars w.lgroups (judgeGroups w)).cars := by simp [liftSettle]
  rw [h, liftSettle_lgroups, ← carSettle_eq]
  exact (getElem_tabulate _ _ _).trans (if_pos hp)

theorem liftSettle_car_of_absent (hp : w.config.cars[c].present = false) :
    (liftSettle s0 w).cars[c] = w.cars[c] := by
  have h : (liftSettle s0 w).cars = (settleCars w.lgroups (judgeGroups w)).cars := by simp [liftSettle]
  rw [h]
  exact (getElem_tabulate _ _ _).trans (if_neg (by rw [Bool.not_eq_true]; exact hp))

theorem causesKept_of_eq {s t : State} (hc : t.config = s.config) (hr : t.regime.state = s.regime.state)
    (hl : t.lines = s.lines) (hf : ∀ f : Fin 48, t.floors[f].alarmCount = s.floors[f].alarmCount) : CausesKept s t :=
  ⟨hc, by rw [hr], fun i => by rw [hl], hf⟩

theorem causesKept_liftSettle (w : State) : CausesKept w (liftSettle s0 w) :=
  causesKept_of_eq (by simp) (by rw [onlyTroubles_liftSettle]) (by simp) fun f => by simp

/-- After the lift unit's work every group's trigger and target are those of the state that it leaves. -/
theorem liftSettle_judged (g : Fin 3) :
    (liftSettle s0 w).lgroups[g].triggered = trigger (liftSettle s0 w) g ∧
      (liftSettle s0 w).lgroups[g].target = targetOf (liftSettle s0 w) g := by
  have hk := causesKept_liftSettle s0 w
  have hm : (liftSettle s0 w).lgroups[g].manual = w.lgroups[g].manual := by rw [liftSettle_lgroup]
  rw [hk.trigger hm, hk.targetOf, liftSettle_lgroup]
  exact ⟨rfl, rfl⟩

/-- After the lift unit's work a present car that is not FREE has its no-stop set and warning by R95 and R96. -/
theorem noStopGood_liftSettle (hp : w.config.cars[c].present = true)
    (hfree : (liftSettle s0 w).cars[c].phase ≠ .free) : NoStopGood (liftSettle s0 w) c := by
  have hk := causesKept_liftSettle s0 w
  have hc := liftSettle_car_of_present s0 hp
  rw [hc, (carNoStop_directive ..).1] at hfree
  have hset := carNoStop_of_not_free (judgeGroups w) w.config.cars[c].group w.config.cars[c].served hfree
  rw [noStopGood_iff]
  simp only [hk.fireFloors, hk.config, hk.hoistwayCause, hc]
  simp only [liftSettle_lgroups] at hset ⊢
  exact hset

theorem liftSettle_directive (hp : w.config.cars[c].present = true) :
    let x := movedCar w.lgroups[w.config.cars[c].group] (liftSettle s0 w).lgroups[w.config.cars[c].group] w.cars[c]
    (liftSettle s0 w).cars[c].phase = x.phase ∧ (liftSettle s0 w).cars[c].directive = x.directive ∧
      (liftSettle s0 w).cars[c].target = x.target := by
  rw [liftSettle_car_of_present s0 hp]
  exact carNoStop_directive ..

/-- A car that takes its group's new target turns by the table of R94. -/
theorem carTurns_of_carRetarget {s t : State} {x : Car}
    (hx : x = carRetarget t.lgroups[s.config.cars[c].group].target s.cars[c]) (hphase : t.cars[c].phase = x.phase)
    (hdirective : t.cars[c].directive = x.directive) (htarget : t.cars[c].target = x.target) : CarTurns s t c := by
  unfold CarTurns
  dsimp only
  rw [hphase, hdirective, htarget, hx]
  cases hp : s.cars[c].phase with
  | free => trivial
  | recalling | parked | exempt => simp [carRetarget, recallTo, hp, -Fin.getElem_fin]
  | lost =>
    by_cases hn : s.cars[c].directive = .none
    · simp [carRetarget, hp, hn, -Fin.getElem_fin]
    · simp [carRetarget, recallTo, hp, hn, -Fin.getElem_fin]

/-- A present car moves as the tables of R91, R92 and R94 say when the lift unit judges its group. -/
theorem carMoves_liftSettle (hp : w.config.cars[c].present = true) : CarMoves w (liftSettle s0 w) c := by
  obtain ⟨hphase, hdirective, htarget⟩ := liftSettle_directive s0 hp
  refine ⟨fun ho hn => ⟨fun hr => ?_, fun r hr hreport => ?_⟩, fun ho hn => ?_, fun ho hn ht => ?_⟩
  · rw [hphase, hdirective, htarget, movedCar_rise ho hn, carRise_unreported _ hr]
    exact ⟨rfl, rfl, rfl⟩
  · rw [hphase, hdirective, htarget, movedCar_rise ho hn, carRise_reported _ hr hreport]
    split <;> exact ⟨rfl, rfl, rfl⟩
  · rw [CarFalls, liftSettle_car_of_present s0 hp, movedCar_fall ho hn,
      carNoStop_of_free _ _ _ (carFall_atRest _).1]
    rfl
  · exact carTurns_of_carRetarget (movedCar_turn ho hn ht) hphase hdirective htarget

end

end Sys2Proof.Machine
end

section
/-! SUPPORT. The law of the lifts outside the load, the events that keep it, and how a car moves at them. -/

namespace Sys2Proof.Machine

/-! ## The law -/

/-- A car is in its place with a record: a present one follows its group, and an absent one is at rest. -/
def CarInPlace (s : State) (c : Fin 12) (x : Car) : Prop :=
  if s.config.cars[c].present then CarObeys s.lgroups[s.config.cars[c].group] x else CarAtRest x

/-- The law of the lifts, with its claims named (R90 to R96). -/
structure LiftGood (s : State) : Prop where
  group : ∀ g : Fin 3, s.lgroups[g].triggered = trigger s g ∧ s.lgroups[g].target = targetOf s g
  car : ∀ c : Fin 12, CarInPlace s c s.cars[c]
  noStop : ∀ c : Fin 12, s.cars[c].phase ≠ .free → NoStopGood s c

/-- A car that is in its place is FREE exactly while its group is not triggered, or it is absent; then it is at rest,
and otherwise its recall state directs it. -/
theorem carInPlace_iff (s : State) (c : Fin 12) :
    CarInPlace s c s.cars[c] ↔
      (s.cars[c].phase = .free ↔
        ¬(s.config.cars[c].present = true ∧ s.lgroups[s.config.cars[c].group].triggered = true)) ∧
      (s.cars[c].phase = .free → CarAtRest s.cars[c]) ∧ (s.cars[c].phase ≠ .free → DirectiveGood s c) := by
  have hrest (h : CarAtRest s.cars[c]) : s.cars[c].phase = .free := h.1
  rw [directiveGood_iff, CarInPlace]
  cases hp : s.config.cars[c].present with
  | false => grind
  | true =>
    rw [if_pos rfl]
    cases ht : s.lgroups[s.config.cars[c].group].triggered with
    | false => rw [carObeys_of_untriggered ht]; grind
    | true => rw [carObeys_of_triggered ht]; grind

section
variable {s t u w : State} {c : Fin 12}

theorem LiftGood.law (h : LiftGood s) : LiftInv s := by
  refine ⟨fun _ => h.group, fun c => ?_⟩
  obtain ⟨hfree, hrest, hdirected⟩ := (carInPlace_iff s c).mp (h.car c)
  exact ⟨hfree, fun hx => (hrest hx).2, fun hx => ⟨h.noStop c hx, hdirected hx⟩⟩

theorem LiftInv.good (h : LiftInv s) (hl : s.load = none) : LiftGood s := by
  obtain ⟨hgroup, hcars⟩ := h
  refine ⟨hgroup hl, fun c => (carInPlace_iff s c).mpr ?_, fun c hx => ?_⟩
  · obtain ⟨hfree, hrest, hdirected⟩ := hcars c
    exact ⟨hfree, fun hx => ⟨hx, hrest hx⟩, fun hx => (hdirected hx).2⟩
  · obtain ⟨-, -, hdirected⟩ := hcars c
    exact (hdirected hx).1

/-! ## What a car's moves depend on -/

/-- The configuration, the cars, and every group's trigger and target are as they were. -/
structure LiftsHeld (s t : State) : Prop where
  config : t.config = s.config
  cars : t.cars = s.cars
  group : ∀ g : Fin 3, t.lgroups[g].triggered = s.lgroups[g].triggered ∧ t.lgroups[g].target = s.lgroups[g].target

theorem liftsHeld_of_eq (hc : t.config = s.config) (hcars : t.cars = s.cars) (hg : t.lgroups = s.lgroups) :
    LiftsHeld s t :=
  ⟨hc, hcars, fun g => by rw [hg]; exact ⟨rfl, rfl⟩⟩

theorem LiftsHeld.trans (h : LiftsHeld s t) (k : LiftsHeld t u) : LiftsHeld s u where
  config := k.config.trans h.config
  cars := k.cars.trans h.cars
  group g := ⟨(k.group g).1.trans (h.group g).1, (k.group g).2.trans (h.group g).2⟩

theorem carInPlace_congr (hc : t.config = s.config)
    (hg : ∀ g : Fin 3, t.lgroups[g].triggered = s.lgroups[g].triggered ∧ t.lgroups[g].target = s.lgroups[g].target)
    (x : Car) : CarInPlace t c x ↔ CarInPlace s c x := by
  simp only [CarInPlace, CarObeys, hc, (hg _).1, (hg _).2]

/-- Where no trigger and no target changes, no car has to move. -/
theorem carMoves_of_held
    (hg : ∀ g : Fin 3, t.lgroups[g].triggered = s.lgroups[g].triggered ∧ t.lgroups[g].target = s.lgroups[g].target) :
    CarMoves s t c := by
  obtain ⟨htriggered, htarget⟩ := hg s.config.cars[c].group
  unfold CarMoves
  dsimp only
  rw [htriggered, htarget]
  exact ⟨fun h k => by rw [h] at k; (cases k), fun h k => by rw [h] at k; (cases k), fun _ _ h => absurd rfl h⟩

/-- A car's moves are the same seen from a state in which the lifts were held. -/
theorem LiftsHeld.carMoves_from (h : LiftsHeld s t) (k : CarMoves t u c) : CarMoves s u c := by
  simp only [CarMoves, CarRises, CarFalls, CarTurns, h.config, h.cars, (h.group _).1, (h.group _).2] at k ⊢
  exact k

theorem LiftsHeld.carMoves_to (k : LiftsHeld t u) (h : CarMoves s t c) : CarMoves s u c := by
  simp only [CarMoves, CarRises, CarFalls, CarTurns, k.cars, (k.group _).1, (k.group _).2] at h ⊢
  exact h

/-! ## Events that leave the lifts -/

/-- What the lift rules read, the cars and the groups are as they were. -/
structure LiftsSteady (s t : State) : Prop extends CausesKept s t where
  cars : t.cars = s.cars
  lgroups : t.lgroups = s.lgroups

theorem LiftsSteady.held (h : LiftsSteady s t) : LiftsHeld s t := liftsHeld_of_eq h.config h.cars h.lgroups

theorem LiftsSteady.trans (h : LiftsSteady s t) (k : LiftsSteady t u) : LiftsSteady s u where
  toCausesKept := h.toCausesKept.trans k.toCausesKept
  cars := k.cars.trans h.cars
  lgroups := k.lgroups.trans h.lgroups

theorem LiftsSteady.refl (s : State) : LiftsSteady s s := ⟨⟨rfl, rfl, fun _ => rfl, fun _ => rfl⟩, rfl, rfl⟩

/-- The law reads of the cars what a LIFT notice reports of them. -/
theorem LiftGood.of_kept (h : LiftGood s) (hk : CausesKept s t) (hg : t.lgroups = s.lgroups)
    (hv : ∀ c : Fin 12, carView t.cars[c] = carView s.cars[c]) : LiftGood t where
  group g := by
    rw [hk.trigger (by rw [hg]), hk.targetOf, hg]
    exact h.group g
  car c := by
    rw [carInPlace_congr hk.config (by simp [hg])]
    have hc := h.car c
    simp only [CarInPlace, carAtRest_congr (hv c), carObeys_congr _ (hv c)] at hc ⊢
    exact hc
  noStop c hx := by
    obtain ⟨hphase, -, -, hnoStop, hwarning⟩ := (carView_eq_iff _ _).mp (hv c)
    rw [hphase] at hx
    exact (h.noStop c hx).of_kept hk (by rw [hg]) hnoStop hwarning

theorem LiftsSteady.good (k : LiftsSteady s t) (h : LiftGood s) : LiftGood t :=
  h.of_kept k.toCausesKept k.lgroups fun c => by rw [k.cars]

/-! ## Events of the lifts -/

/-- The event keeps the law, and the present cars move as their tables say (R91, R92, R94). -/
structure LiftEvent (s t : State) : Prop where
  law : LiftGood s → LiftGood t
  moves : ∀ c : Fin 12, s.config.cars[c].present = true → CarMoves s t c

theorem LiftsSteady.event (k : LiftsSteady s t) : LiftEvent s t := ⟨k.good, fun _ _ => carMoves_of_held k.held.group⟩

@[simp] theorem LiftEvent.refl (s : State) : LiftEvent s s := (LiftsSteady.refl s).event

/-- An event after one that leaves the lifts. -/
theorem LiftsSteady.before (k : LiftsSteady s t) (h : LiftEvent t u) : LiftEvent s u where
  law := h.law ∘ k.good
  moves c hp := k.held.carMoves_from (h.moves c (by rw [k.config]; exact hp))

/-- An event before one that leaves the lifts. -/
theorem LiftEvent.after (h : LiftEvent s t) (k : LiftsSteady t u) : LiftEvent s u where
  law := k.good ∘ h.law
  moves c hp := k.held.carMoves_to (h.moves c hp)

/-- An event that takes effect only on a condition. -/
theorem LiftEvent.ite {p : Prop} [Decidable p] (h : p → LiftEvent s t) : LiftEvent s (if p then t else s) := by
  split
  · next hp => exact h hp
  · exact .refl s

theorem liftsSteady_setPort (s : State) (p : Fin 4) (x : Port) : LiftsSteady s (s.setPort p x) :=
  ⟨⟨rfl, rfl, fun _ => rfl, fun _ => rfl⟩, rfl, rfl⟩

theorem liftEvent_command {p : Fin 4} {bytes : List Byte} {body : State → State × Result}
    (h : ∀ u, LiftEvent u (body u).1) : LiftEvent s (command p bytes body s) := by
  unfold command
  split
  · exact ((liftsSteady_setPort s p _).before (h _)).after (liftsSteady_setPort _ p _)
  · exact .refl s

theorem liftEvent_afterLoad {p : Fin 4} {bytes : List Byte} {body : State → State × Result}
    (h : ∀ u, LiftEvent u (body u).1) : LiftEvent s (command p bytes (afterLoad body) s) :=
  liftEvent_command fun u => afterLoad_preserves (fun _ => h u) (.refl u)

theorem liftEvent_controlled {p : Fin 4} {bytes : List Byte} {body : State → State × Result}
    (h : ∀ u, LiftEvent u (body u).1) : LiftEvent s (command p bytes (controlled p body) s) :=
  liftEvent_command fun u => controlled_preserves (fun _ => h u) (.refl u)

/-! ## The lift unit's work as an event -/

/-- The lift unit judges every group and moves every car on any change of what the rules read (R90 to R96). -/
theorem liftEvent_liftSettle (hw : LiftsHeld s w) (s0 : State) : LiftEvent s (liftSettle s0 w) where
  law h := by
    have hc : (liftSettle s0 w).config = w.config := by simp
    refine ⟨liftSettle_judged s0, fun c => ?_, fun c hfree => ?_⟩
    · have hcar : CarInPlace w c w.cars[c] := by
        rw [carInPlace_congr hw.config hw.group, hw.cars]
        exact h.car c
      simp only [CarInPlace, hc] at hcar ⊢
      split
      · next hp =>
        rw [if_pos hp] at hcar
        rw [liftSettle_car_of_present s0 hp]
        exact hcar.movedCar.carNoStop _ _ _
      · next hp =>
        rw [if_neg hp] at hcar
        rw [liftSettle_car_of_absent s0 (Bool.not_eq_true _ ▸ hp)]
        exact hcar
    · cases hp : w.config.cars[c].present with
      | true => exact noStopGood_liftSettle s0 hp hfree
      | false =>
        have hcar := h.car c
        simp only [CarInPlace, ← hw.config, hp] at hcar
        rw [liftSettle_car_of_absent s0 hp, hw.cars] at hfree
        exact absurd hcar.1 hfree
  moves c hp := hw.carMoves_from (carMoves_liftSettle s0 (by rw [hw.config]; exact hp))

theorem liftsHeld_floorSettle (s0 w : State) : LiftsHeld w (floorSettle s0 w) :=
  liftsHeld_of_eq (by simp) (by simp) (by simp)

theorem liftsSteady_of_frame (hc : t.config = s.config) (hr : t.regime.state = s.regime.state) (hl : t.lines = s.lines)
    (hf : ∀ f : Fin 48, t.floors[f].alarmCount = s.floors[f].alarmCount) (hcars : t.cars = s.cars)
    (hg : t.lgroups = s.lgroups) : LiftsSteady s t :=
  ⟨causesKept_of_eq hc hr hl hf, hcars, hg⟩

theorem liftsSteady_doorSettle (s0 w : State) : LiftsSteady w (doorSettle s0 w) :=
  liftsSteady_of_frame (by simp) (by rw [onlyTroubles_doorSettle]) (by simp) (fun f => by simp) (by simp) (by simp)

theorem liftsSteady_routerSettle (s0 w : State) : LiftsSteady w (routerSettle s0 w) :=
  liftsSteady_of_frame (by simp) (by rw [onlyTroubles_routerSettle]) (by simp) (fun f => by rw [routerSettle_floor])
    (by simp) (by simp)

/-- The work of every unit, after an event that has touched no car and no group's trigger or target. -/
theorem liftEvent_settle (hw : LiftsHeld s w) (s0 : State) : LiftEvent s (settle s0 w) :=
  ((liftEvent_liftSettle (hw.trans (liftsHeld_floorSettle s0 w)) s0).after (liftsSteady_doorSettle s0 _)).after
    (liftsSteady_routerSettle s0 _)

/-! ## The event of one car (R98, R101) -/

theorem liftsSteady_liftNotices (s0 w : State) : LiftsSteady w (liftNotices s0 w) :=
  liftsSteady_of_frame (by simp) (by rw [liftNotices_regime]) (by simp) (fun f => by simp) (by simp) (by simp)

theorem setCar_car (s : State) (c j : Fin 12) (x : Car) :
    (s.setCar c x).cars[j] = if j = c then x else s.cars[j] :=
  getElem_set_fin _ _ _ _

/-- A car may change while it stays in its place and keeps its no-stop set and warning, and no FREE car leaves
FREE. -/
theorem liftEvent_setCar {x : Car} (hplace : CarInPlace s c s.cars[c] → CarInPlace s c x)
    (hfree : s.cars[c].phase = .free → x.phase = .free) (hn : x.noStop = s.cars[c].noStop)
    (hw : x.warning = s.cars[c].warning) : LiftEvent s (liftNotices s (s.setCar c x)) := by
  have hcauses : CausesKept s (s.setCar c x) := ⟨rfl, rfl, fun _ => rfl, fun _ => rfl⟩
  have hset : LiftEvent s (s.setCar c x) := by
    refine ⟨fun h => ⟨h.group, fun j => ?_, fun j hj => ?_⟩, fun j _ => carMoves_of_held fun _ => ⟨rfl, rfl⟩⟩
    · rw [setCar_car]
      split
      · next e => subst e; exact hplace (h.car j)
      · exact h.car j
    · rw [setCar_car] at hj
      by_cases e : j = c
      · subst e
        rw [if_pos rfl] at hj
        exact (h.noStop j (mt hfree hj)).of_kept hcauses rfl (by simpa using hn) (by simpa using hw)
      · rw [if_neg e] at hj
        have hother := setCar_other s c x j e
        exact (h.noStop j hj).of_kept hcauses rfl (by rw [hother]) (by rw [hother])
  exact hset.after (liftsSteady_liftNotices s _)

end

/-- A car with a report stored and its report timer restarted at `n` ms (R98). -/
def withReport (n : Nat) (r : Report) (x : Car) : Car :=
  { x with report := some r, reported := true, timer := some n, lapsed := false }

theorem takeReport_eq (c : Fin 12) (r : Report) (s : State) :
    takeReport c r s =
      liftNotices s (s.setCar c
        (judgeReport s.lgroups[s.config.cars[c].group].target r (withReport (carTime s) r s.cars[c]))) := rfl

/-- A report of a car that is not FREE gives it the directive of its new recall state (R98). -/
theorem judgeReport_directed {t : Option (Fin 48)} {x : Car} (r : Report) (hp : x.phase ≠ .free) :
    (judgeReport t r x).phase ≠ .free ∧ CarDirected t (judgeReport t r x) := by
  cases hx : x.phase with
  | free => exact absurd hx hp
  | parked | recalling | lost | exempt =>
    simp only [judgeReport, hx]
    (repeat' split) <;> simp [CarDirected, recallTo]

theorem judgeReport_of_free {t : Option (Fin 48)} {x : Car} (r : Report) (h : x.phase = .free) :
    judgeReport t r x = x := by
  simp only [judgeReport, h]

/-- A report leaves the no-stop set, the warning and what it has stored (R98). -/
theorem judgeReport_kept (t : Option (Fin 48)) (r : Report) (x : Car) :
    judgeReport t r x =
      { x with
        phase := (judgeReport t r x).phase, directive := (judgeReport t r x).directive
        target := (judgeReport t r x).target } := by
  unfold judgeReport recallTo
  (repeat' split) <;> rfl

/-- A car that follows its group still does so after its report is judged against the group's target. -/
theorem CarObeys.judgeReport {g : LGroup} {x : Car} (h : CarObeys g x) (r : Report) :
    CarObeys g (judgeReport g.target r x) := by
  cases hg : g.triggered with
  | true =>
    rw [carObeys_of_triggered hg] at h ⊢
    exact judgeReport_directed r h.1
  | false =>
    rw [judgeReport_of_free r ((carObeys_of_untriggered hg x).mp h).1]
    exact h

/-- At the expiry of its report timer a car that is not FREE is LOST, and keeps its directive (R101). -/
theorem carTimeoutPhase_eq (x : RecallState) : carTimeoutPhase x = if x = .free then .free else .lost := by
  cases x <;> rfl

/-- A car at the expiry of its report timer (R101). -/
def timedOut (x : Car) : Car :=
  { x with timer := none, reported := false, lapsed := true, phase := carTimeoutPhase x.phase }

theorem timedOut_of_free {x : Car} (h : x.phase = .free) : (timedOut x).phase = .free := by
  simp only [timedOut, h, carTimeoutPhase]

theorem CarAtRest.timedOut {x : Car} (h : CarAtRest x) : CarAtRest (timedOut x) :=
  ⟨timedOut_of_free h.1, h.2⟩

/-- A car that follows its group still does so once it is LOST. -/
theorem CarObeys.timedOut {g : LGroup} {x : Car} (h : CarObeys g x) : CarObeys g (timedOut x) := by
  cases hg : g.triggered with
  | true =>
    obtain ⟨hp, hd⟩ := (carObeys_of_triggered hg x).mp h
    have hlost : (Machine.timedOut x).phase = .lost := (carTimeoutPhase_eq x.phase).trans (if_neg hp)
    rw [carObeys_of_triggered hg]
    simp only [CarDirected, hlost]
    refine ⟨nofun, ?_⟩
    cases hx : x.phase with
    | free => exact absurd hx hp
    | recalling | parked | exempt =>
      simp only [CarDirected, hx] at hd
      simp [Machine.timedOut, hd]
    | lost =>
      simp only [CarDirected, hx] at hd
      exact hd
  | false => exact (carObeys_of_untriggered hg _).mpr ((carObeys_of_untriggered hg x).mp h).timedOut

end Sys2Proof.Machine
end

section
/-! SUPPORT. What a step leaves to the lift unit: the steps of every other unit keep the groups and the cars, and what
a trigger is judged by. -/

namespace Sys2Proof.Machine

/-! ## The groups and the cars -/

/-- The lift groups and the cars are as they were. -/
def LiftsKept (s t : State) : Prop := t.lgroups = s.lgroups ∧ t.cars = s.cars

section
variable {s t u : State}

@[simp] theorem LiftsKept.refl (s : State) : LiftsKept s s := ⟨rfl, rfl⟩

theorem LiftsKept.trans (h : LiftsKept s t) (k : LiftsKept t u) : LiftsKept s u :=
  ⟨k.1.trans h.1, k.2.trans h.2⟩

/-- An event that takes effect only on a condition. -/
theorem LiftsKept.ite {c : Prop} [Decidable c] (h : LiftsKept s t) : LiftsKept s (if c then t else s) := by
  split
  · exact h
  · exact .refl s

theorem liftsKept_command {p : Fin 4} {bytes : List Byte} {body : State → State × Result}
    (h : ∀ u, LiftsKept u (body u).1) : LiftsKept s (command p bytes body s) :=
  command_preserves (fun k => k.trans ⟨rfl, rfl⟩) (fun u k => k.trans (h u)) (fun _ _ k => k.trans ⟨rfl, rfl⟩) (.refl s)

theorem liftsKept_afterLoad {body : State → State × Result} (h : ∀ u, LiftsKept u (body u).1) (s : State) :
    LiftsKept s (afterLoad body s).1 :=
  afterLoad_preserves (fun _ => h s) (.refl s)

theorem liftsKept_controlled {p : Fin 4} {body : State → State × Result} (h : ∀ u, LiftsKept u (body u).1)
    (s : State) : LiftsKept s (controlled p body s).1 :=
  controlled_preserves (fun _ => h s) (.refl s)

/-! ## The commands' own rules -/

theorem takeControlBody_keeps_lifts {p : Fin 4} (s : State) : LiftsKept s (takeControlBody p s).1 := by
  unfold takeControlBody
  (repeat' split) <;> simp [LiftsKept]

theorem silenceBody_keeps_lifts (s : State) : LiftsKept s (silenceBody s).1 := by
  unfold silenceBody
  (repeat' split) <;> simp [LiftsKept]

theorem resoundBody_keeps_lifts (s : State) : LiftsKept s (resoundBody s).1 := by
  unfold resoundBody
  split <;> simp [LiftsKept]

theorem spreadHoldBody_keeps_lifts (s : State) : LiftsKept s (spreadHoldBody s).1 := by
  unfold spreadHoldBody
  (repeat' split) <;> simp [LiftsKept]

theorem spreadResumeBody_keeps_lifts (s : State) : LiftsKept s (spreadResumeBody s).1 := by
  unfold spreadResumeBody
  split <;> simp [LiftsKept]

theorem isolateLineBody_keeps_lifts {b : Byte} (s : State) : LiftsKept s (isolateLineBody b s).1 := by
  unfold isolateLineBody
  (repeat' split) <;> simp [LiftsKept]

theorem restoreLineBody_keeps_lifts {b : Byte} (s : State) : LiftsKept s (restoreLineBody b s).1 := by
  unfold restoreLineBody
  (repeat' split) <;> simp [LiftsKept]

theorem doorOverrideBody_keeps_lifts {g o : Byte} (s : State) : LiftsKept s (doorOverrideBody g o s).1 := by
  unfold doorOverrideBody overrideGroup
  (repeat' split) <;> simp [LiftsKept]

theorem clearDoorFaultBody_keeps_lifts {c : Byte} (s : State) : LiftsKept s (clearDoorFaultBody c s).1 := by
  unfold clearDoorFaultBody
  (repeat' split) <;> simp [LiftsKept]

/-- A post makes room in the queue and creates its entry (R145). -/
theorem postJudged_keeps_lifts {p : Fin 4} {k : AnnClass} {m : Byte} {fs : FloorSet} {n : Nat} (s : State) :
    LiftsKept s (postJudged p k m fs n s).1 := by
  have room {u : State} (h : roomFor k s = some u) : LiftsKept s u := by
    unfold roomFor at h
    split at h
    · cases h; exact .refl s
    · split at h
      · obtain ⟨sl, -, rfl⟩ := Option.map_eq_some_iff.mp h
        simp [LiftsKept]
      all_goals cases h
  unfold postJudged
  (repeat' split)
  · exact .refl s
  · exact .refl s
  · exact .refl s
  · next u hu =>
    refine (room hu).trans ?_
    unfold postEntry
    split <;> simp [LiftsKept]

theorem postBody_keeps_lifts {p : Fin 4} {k m : Byte} {fs : FloorSet} {n : Byte} (s : State) :
    LiftsKept s (postBody p k m fs n s).1 := by
  unfold postBody
  (repeat' split) <;> simp [postJudged_keeps_lifts]

theorem cancelBody_keeps_lifts {p : Fin 4} {sl m : Byte} (s : State) : LiftsKept s (cancelBody p sl m s).1 := by
  unfold cancelBody
  (repeat' split) <;> simp [LiftsKept]

theorem playEndBody_keeps_lifts {p : Fin 4} {c m : Byte} (s : State) : LiftsKept s (playEndBody p c m s).1 := by
  unfold playEndBody
  (repeat' split) <;> simp [LiftsKept]

theorem storeWriteBody_keeps_lifts {p : Fin 4} {k n e : Byte} {im : Image} (s : State) :
    LiftsKept s (storeWriteBody p k n e im s).1 := by
  unfold storeWriteBody storeWriteRecord
  (repeat' split) <;> simp [LiftsKept]

theorem checkConfigBody_keeps_lifts {p : Fin 4} (s : State) : LiftsKept s (checkConfigBody p s).1 := by
  unfold checkConfigBody
  (repeat' split) <;> simp [LiftsKept]

theorem selectBody_keeps_lifts {p : Fin 4} {t r f : Byte} (s : State) : LiftsKept s (selectBody p t r f s).1 := by
  unfold selectBody
  (repeat' split) <;> simp [LiftsKept]

theorem windowBody_keeps_lifts {p : Fin 4} {fr lr ff lf o : Byte} (s : State) :
    LiftsKept s (windowBody p fr lr ff lf o s).1 := by
  unfold windowBody
  (repeat' split) <;> simp [LiftsKept]

theorem maskBody_keeps_lifts {p : Fin 4} {w : Word} (s : State) : LiftsKept s (maskBody p w s).1 := by
  unfold maskBody
  split <;> simp [LiftsKept]

end

/-- The steps that may change a group or a car: the lift unit's own, those after which every unit acts, and those that
begin and end the load. -/
def liftActs : Instr → Bool
  | .powerOnReset | .startUpLoadEnd | .restart _ => true
  | .zoneLineSlotCompletion .. | .retardExpiry _ | .resetRegime _ => true
  | .holdTimerExpiry | .spreadExpiry | .acknowledge _ | .evacuateAll _ => true
  | .carReport .. | .carReportTimeout _ | .recallGroup .. | .releaseGroup .. => true
  | _ => false

/-- Every other step keeps the groups and the cars. -/
theorem exec_keeps_lifts {i : Instr} {s t : State} (hi : liftActs i = false) (h : exec i s = .next t) :
    LiftsKept s t := by
  cases i with
  | powerOnReset | startUpLoadEnd | restart | zoneLineSlotCompletion | retardExpiry | resetRegime | holdTimerExpiry
  | spreadExpiry | acknowledge | evacuateAll | carReport | carReportTimeout | recallGroup | releaseGroup => cases hi
  | resetExpiry | settleExpiry | silenceInhibitExpiry | frameBegin => exact of_next h (.ite ⟨rfl, rfl⟩)
  | openWaitExpiry | coolDownExpiry | stopTimerExpiry | playTimerExpiry | chainRefreshExpiry =>
    exact of_next h (.ite (by simp [LiftsKept]))
  | windowExpiry g =>
    have hg : LiftsKept s (s.setPGroup g groupIdle) := ⟨rfl, rfl⟩
    exact of_next h (.ite (hg.trans
      (foldl_relates .refl .trans (fun u i => .ite (by simp [LiftsKept])) _ _)))
  | doorSenseSlotCompletion =>
    refine of_next h (.ite ?_)
    dsimp only
    split <;> simp [LiftsKept]
  | staggerExpiry =>
    refine of_next h (.ite ?_)
    split <;> simp [LiftsKept]
  | routingShiftComplete =>
    refine of_next h ?_
    split
    · exact .refl s
    · refine .ite ?_
      unfold shiftEnds
      dsimp only
      split <;> simp [LiftsKept]
  | storeWriteCompletion =>
    refine of_next h ?_
    split
    · exact .refl s
    · exact .ite (by simp [LiftsKept])
  | enableInputDrop =>
    refine of_next h ?_
    split <;> simp [LiftsKept]
  | enableInputAssert | frameEnd => exact of_next h ⟨rfl, rfl⟩
  | unknownCommand =>
    refine of_next h ?_
    split
    · exact .refl s
    · exact liftsKept_command .refl
  | portReset =>
    refine of_next h ?_
    dsimp only
    split <;> simp [LiftsKept]
  | readWordShifted =>
    refine of_next h ?_
    split <;> exact ⟨rfl, rfl⟩
  | noticesReplyComplete =>
    refine of_next h ?_
    split <;> exact ⟨rfl, rfl⟩
  | select => exact of_next h (liftsKept_command selectBody_keeps_lifts)
  | window => exact of_next h (liftsKept_command windowBody_keeps_lifts)
  | read | status => exact of_next h (liftsKept_command fun _ => ⟨rfl, rfl⟩)
  | notices => exact of_next h (liftsKept_command (liftsKept_afterLoad fun _ => ⟨rfl, rfl⟩))
  | mask => exact of_next h (liftsKept_command (liftsKept_afterLoad maskBody_keeps_lifts))
  | takeControl => exact of_next h (liftsKept_command (liftsKept_afterLoad takeControlBody_keeps_lifts))
  | postAnnouncement => exact of_next h (liftsKept_command (liftsKept_afterLoad postBody_keeps_lifts))
  | cancelAnnouncement => exact of_next h (liftsKept_command (liftsKept_afterLoad cancelBody_keeps_lifts))
  | playEnd => exact of_next h (liftsKept_command (liftsKept_afterLoad playEndBody_keeps_lifts))
  | storeWrite => exact of_next h (liftsKept_command (liftsKept_afterLoad storeWriteBody_keeps_lifts))
  | checkConfig => exact of_next h (liftsKept_command (liftsKept_afterLoad checkConfigBody_keeps_lifts))
  | releaseControl => exact of_next h (liftsKept_command (liftsKept_controlled fun _ => ⟨rfl, rfl⟩))
  | silence => exact of_next h (liftsKept_command (liftsKept_controlled silenceBody_keeps_lifts))
  | resound => exact of_next h (liftsKept_command (liftsKept_controlled resoundBody_keeps_lifts))
  | spreadHold => exact of_next h (liftsKept_command (liftsKept_controlled spreadHoldBody_keeps_lifts))
  | spreadResume => exact of_next h (liftsKept_command (liftsKept_controlled spreadResumeBody_keeps_lifts))
  | isolateLine => exact of_next h (liftsKept_command (liftsKept_controlled isolateLineBody_keeps_lifts))
  | restoreLine => exact of_next h (liftsKept_command (liftsKept_controlled restoreLineBody_keeps_lifts))
  | doorOverride => exact of_next h (liftsKept_command (liftsKept_controlled doorOverrideBody_keeps_lifts))
  | clearDoorFault => exact of_next h (liftsKept_command (liftsKept_controlled clearDoorFaultBody_keeps_lifts))

/-! ## What a trigger is judged by -/

section
variable {s t : State}

/-- A line that is replaced and enters or leaves no accepted fire alarm. -/
theorem fireKept_of_set_line {i : Fin 64} {l' : Line} (hl : t.lines = s.lines.set i l')
    (h : fireActive s.config.lines[i] l' = fireActive s.config.lines[i] s.lines[i]) (j : Fin 64) :
    fireActive s.config.lines[j] t.lines[j] = fireActive s.config.lines[j] s.lines[j] := by
  rw [hl, getElem_set_fin]
  split
  · next e => subst e; exact h
  · rfl

theorem causesKept_changeLine {i : Fin 64} {l' : Line}
    (h : fireActive s.config.lines[i] l' = fireActive s.config.lines[i] s.lines[i]) :
    CausesKept s (changeLine i l' s) where
  config := by simp
  quiet := by rw [changeLine_regime_state]
  fire := fireKept_of_set_line (changeLine_lines i l' s) h
  alarmCount f := by rw [(troubleCounted_changeLine h).floor f]

theorem causesKept_setPGroup (s : State) (g : Fin 8) (x : PGroup) : CausesKept s (s.setPGroup g x) :=
  ⟨rfl, rfl, fun _ => rfl, fun _ => rfl⟩

theorem CausesKept.refl (s : State) : CausesKept s s := ⟨rfl, rfl, fun _ => rfl, fun _ => rfl⟩

/-- An event that takes effect only on a condition. -/
theorem CausesKept.ite {c : Prop} [Decidable c] (h : CausesKept s t) : CausesKept s (if c then t else s) := by
  split
  · exact h
  · exact .refl s

theorem causesKept_controlled {p : Fin 4} {bytes : List Byte} {body : State → State × Result}
    (h : ∀ u, CausesKept u (body u).1) : CausesKept s (command p bytes (controlled p body) s) :=
  command_preserves (P := CausesKept s) (fun _ => ⟨rfl, rfl, fun _ => rfl, fun _ => rfl⟩)
    (fun u k => k.trans (controlled_preserves (fun _ => h u) (.refl u)))
    (fun _ _ k => k.trans ⟨rfl, rfl, fun _ => rfl, fun _ => rfl⟩) (.refl s)

theorem isolateLineBody_keeps_causes {b : Byte} (s : State) : CausesKept s (isolateLineBody b s).1 := by
  unfold isolateLineBody
  split
  · exact .refl s
  · next i _ =>
    split
    · next hi =>
      have hsame := isolated_fireActive hi
      split
      · refine (causesKept_setPGroup s _ groupIdle).trans (causesKept_changeLine ?_)
        exact hsame
      · exact causesKept_changeLine hsame
    · exact .refl s

theorem restoreLineBody_keeps_causes {b : Byte} (s : State) : CausesKept s (restoreLineBody b s).1 := by
  unfold restoreLineBody
  split
  · exact .refl s
  · next i _ =>
    split
    · next hi =>
      split
      · exact .refl s
      · have hbefore : fireActive s.config.lines[i] s.lines[i] = false :=
          fireActive_eq_false_of_state _ (by rw [hi]; nofun)
        have hafter : fireActive s.config.lines[i] (restored s.lines[i]) = false := fireActive_eq_false_of_state _ nofun
        exact causesKept_changeLine (hafter.trans hbefore.symm)
    · exact .refl s

/-- A VERIFYING line is no accepted fire alarm, and neither is the NORMAL one it becomes (R36). -/
theorem causesKept_windowLine (g : Fin 8) (s : State) (i : Fin 64) : CausesKept s (windowLine g s i) := by
  unfold windowLine
  split
  · next h =>
    obtain ⟨-, -, hs⟩ := (windowLine_member_iff s g i).mp h
    have hbefore : fireActive s.config.lines[i] s.lines[i] = false :=
      fireActive_eq_false_of_state _ (by rw [hs]; nofun)
    refine causesKept_changeLine (Eq.trans ?_ hbefore.symm)
    exact fireActive_eq_false_of_state _ nofun
  · exact .refl s

/-- The members of a group that enters SETTLE keep their states (R33). -/
theorem causesKept_settleMembers (g : Fin 8) (x : PGroup) (s : State) :
    CausesKept s { s.setPGroup g x with lines := tabulate fun i => settleMember s g i } := by
  refine ⟨rfl, rfl, fun i => fireActive_congr _ ((countsKept_settleMembers g x s).line i).1, fun _ => rfl⟩

/-! ## The regime's state at the events that leave the lifts -/

/-- The regime is in the state that it was in. -/
def SameState (s t : State) : Prop := t.regime.state = s.regime.state

@[simp] theorem SameState.refl (s : State) : SameState s s := rfl

/-- An event that takes effect only on a condition. -/
theorem SameState.ite {c : Prop} [Decidable c] (h : SameState s t) : SameState s (if c then t else s) := by
  split
  · exact h
  · exact .refl s

theorem sameState_afterLoad {p : Fin 4} {bytes : List Byte} {body : State → State × Result}
    (h : ∀ u, SameState u (body u).1) : SameState s (command p bytes (afterLoad body) s) :=
  command_preserves (P := SameState s) id
    (fun u k => (afterLoad_preserves (P := SameState u) (fun _ => h u) (.refl u)).trans k) (fun _ _ => id) (.refl s)

theorem sameState_controlled {p : Fin 4} {bytes : List Byte} {body : State → State × Result}
    (h : ∀ u, SameState u (body u).1) : SameState s (command p bytes (controlled p body) s) :=
  sameState_afterLoad fun u => by
    split
    · exact h u
    · exact .refl u

theorem sameState_doorNotices (h : t.regime = s.regime) : SameState s (doorNotices s t) := by
  rw [SameState, doorNotices_regime, h]

theorem takeControlBody_keeps_state {p : Fin 4} (s : State) : SameState s (takeControlBody p s).1 := by
  unfold takeControlBody
  (repeat' split) <;> simp [SameState, setHolder]

theorem silenceBody_keeps_state (s : State) : SameState s (silenceBody s).1 := by
  unfold silenceBody
  (repeat' split) <;> simp [SameState, setSilenced_fields]

theorem resoundBody_keeps_state (s : State) : SameState s (resoundBody s).1 := by
  unfold resoundBody
  split <;> simp [SameState, setSilenced_fields]

theorem spreadHoldBody_keeps_state (s : State) : SameState s (spreadHoldBody s).1 := by
  unfold spreadHoldBody
  (repeat' split) <;> simp [SameState]

theorem spreadResumeBody_keeps_state (s : State) : SameState s (spreadResumeBody s).1 := by
  unfold spreadResumeBody
  split <;> simp [SameState]

theorem doorOverrideBody_keeps_state {g o : Byte} (s : State) : SameState s (doorOverrideBody g o s).1 := by
  unfold doorOverrideBody overrideGroup
  (repeat' split) <;> simp [sameState_doorNotices]

end

/-- Every step that leaves the lifts keeps the regime's state. -/
theorem exec_keeps_state {i : Instr} {s t : State} (hi : liftActs i = false) (h : exec i s = .next t) :
    SameState s t := by
  cases hr : regimeActs i with
  | false => rw [SameState, (exec_unitEvent hr h).regime]
  | true =>
    cases i with
    | silenceInhibitExpiry => exact of_next h (.ite rfl)
    | portReset =>
      refine of_next h ?_
      dsimp only
      split <;> exact rfl
    | staggerExpiry =>
      refine of_next h (.ite ?_)
      split
      · exact rfl
      · exact sameState_doorNotices (by simp)
    | takeControl => exact of_next h (sameState_afterLoad takeControlBody_keeps_state)
    | releaseControl => exact of_next h (sameState_controlled fun _ => rfl)
    | silence => exact of_next h (sameState_controlled silenceBody_keeps_state)
    | resound => exact of_next h (sameState_controlled resoundBody_keeps_state)
    | spreadHold => exact of_next h (sameState_controlled spreadHoldBody_keeps_state)
    | spreadResume => exact of_next h (sameState_controlled spreadResumeBody_keeps_state)
    | doorOverride => exact of_next h (sameState_controlled doorOverrideBody_keeps_state)
    | powerOnReset | startUpLoadEnd | restart | zoneLineSlotCompletion | retardExpiry | resetRegime | holdTimerExpiry
    | spreadExpiry | acknowledge | evacuateAll => cases hi
    | _ => cases hr

/-- Every step that leaves the lifts keeps what their triggers are judged by. -/
theorem exec_keeps_causes {i : Instr} {s t : State} (hi : liftActs i = false) (h : exec i s = .next t) :
    CausesKept s t := by
  cases ha : scannerActs i || floorActs i with
  | false =>
    obtain ⟨hscan, hfloor⟩ := Bool.or_eq_false_iff.mp ha
    obtain ⟨-, hconfig, hlines, -⟩ := exec_keeps_scanner hscan h
    exact causesKept_of_eq hconfig (exec_keeps_state hi h) hlines fun f => ((exec_keeps_floors hfloor h).counts f).1
  | true =>
    cases i with
    | resetExpiry g => exact of_next h (.ite (causesKept_settleMembers g _ s))
    | settleExpiry g => exact of_next h (.ite (causesKept_setPGroup s g _))
    | windowExpiry g =>
      exact of_next h (.ite ((causesKept_setPGroup s g groupIdle).trans
        (foldl_relates .refl .trans (causesKept_windowLine g) _ _)))
    | isolateLine => exact of_next h (causesKept_controlled isolateLineBody_keeps_causes)
    | restoreLine => exact of_next h (causesKept_controlled restoreLineBody_keeps_causes)
    | powerOnReset | startUpLoadEnd | restart | zoneLineSlotCompletion | retardExpiry | resetRegime | holdTimerExpiry
    | spreadExpiry | acknowledge | evacuateAll => cases hi
    | _ => cases ha

theorem exec_liftsSteady {i : Instr} {s t : State} (hi : liftActs i = false) (h : exec i s = .next t) :
    LiftsSteady s t := by
  obtain ⟨hgroups, hcars⟩ := exec_keeps_lifts hi h
  exact ⟨exec_keeps_causes hi h, hcars, hgroups⟩

end Sys2Proof.Machine
end

section
/-! SUPPORT. Every step keeps the law of the lifts, and moves the cars as their tables say (O15). -/

namespace Sys2Proof.Machine

section
variable {s t : State}

/-! ## The line scanner -/

/-- A line's event that ends no accepted fire alarm: it reaches the lifts through the work of every unit, or leaves
what they read. -/
theorem liftEvent_lineEvent {i : Fin 64} {l' : Line}
    (hstays : fireActive s.config.lines[i] s.lines[i] = true → fireActive s.config.lines[i] l' = true) :
    LiftEvent s (lineEvent i l' s) := by
  by_cases hsame : fireActive s.config.lines[i] l' = fireActive s.config.lines[i] s.lines[i]
  · rw [lineEvent_of_fire_same hsame]
    exact LiftsSteady.event ⟨causesKept_changeLine hsame, by simp, by simp⟩
  · have hbefore : fireActive s.config.lines[i] s.lines[i] = false :=
      Bool.eq_false_iff.mpr fun hb => hsame ((hstays hb).trans hb.symm)
    have hafter : fireActive s.config.lines[i] l' = true := by
      rw [hbefore, Bool.not_eq_false] at hsame
      exact hsame
    rw [lineEvent_of_rise hafter hbefore]
    exact liftEvent_settle (liftsHeld_of_eq (by simp) (by simp) (by simp)) s

/-- A line that is measured, or whose code is stored, keeps its state. -/
theorem liftsSteady_setLine {i : Fin 64} {l' : Line} (h : l'.state = s.lines[i].state) :
    LiftsSteady s (s.setLine i l') :=
  ⟨⟨rfl, rfl, fireKept_of_set_line rfl (fireActive_congr _ h), fun _ => rfl⟩, rfl, rfl⟩

theorem liftsSteady_setPGroup (s : State) (g : Fin 8) (x : PGroup) : LiftsSteady s (s.setPGroup g x) :=
  ⟨causesKept_setPGroup s g x, rfl, rfl⟩

theorem liftsSteady_codeStored (i : Fin 64) (code : BitVec 10) (s : State) : LiftsSteady s (codeStored i code s) :=
  (liftsSteady_setLine (l' := { s.lines[i] with lastCode := code }) rfl).trans
    ⟨⟨rfl, rfl, fun _ => rfl, fun _ => rfl⟩, rfl, rfl⟩

/-- A sample is measured, or is the line's event, which ends no accepted fire alarm (R18, R22, R28). -/
theorem liftEvent_takeSample (i : Fin 64) (code : BitVec 10) (s : State) : LiftEvent s (takeSample i code s) := by
  have hstays (hb : fireActive s.config.lines[i] s.lines[i] = true) :
      fireActive s.config.lines[i] (sampledLineOf i code s) = true := sampledLine_keeps_fire hb ..
  unfold takeSample
  dsimp only
  split
  · refine (liftsSteady_setLine ?_).event
    rfl
  · next b hb =>
    rw [sampledLineOf, sampledLine_of_some hb] at hstays
    split
    · exact (liftsSteady_setPGroup s _ _).before (liftEvent_lineEvent hstays)
    · exact liftEvent_lineEvent hstays

/-- RESET REGIME clears the manual recalls, and then every unit acts (R62, R63). -/
theorem liftEvent_resetRegime (s : State) : LiftEvent s (resetRegime s) := by
  rw [resetRegime_eq]
  refine liftEvent_settle ⟨(regimeReturned_load_config s).2, by simp [regimeReturned], fun g => ?_⟩ s
  rw [regimeReturned, clearManual_lgroup]
  simp

theorem resetRegimeBody_liftEvent (s : State) : LiftEvent s (resetRegimeBody s).1 := by
  unfold resetRegimeBody
  split <;> simp [liftEvent_resetRegime]

/-! ## The regime -/

/-- A change of the regime record, or of the door groups, and the work of every unit after it. -/
theorem liftEvent_settle_of_eq {w : State} (h : w = { s with regime := w.regime, dgroups := w.dgroups }) (s0 : State) :
    LiftEvent s (settle s0 w) := by
  refine liftEvent_settle ?_ s0
  rw [h]
  exact liftsHeld_of_eq rfl rfl rfl

/-- HOLD_ACK and HOLD_INVESTIGATE are alike to the lifts: neither is QUIET (R52, R90). -/
theorem acknowledgeBody_liftEvent (s : State) : LiftEvent s (acknowledgeBody s).1 := by
  unfold acknowledgeBody
  split
  · next ha =>
    split
    · exact liftEvent_settle_of_eq rfl s
    · rw [accept_state, regimeNotice_eq_with]
      exact LiftsSteady.event ⟨⟨rfl, by rw [ha]; rfl, fun _ => rfl, fun _ => rfl⟩, rfl, rfl⟩
  all_goals exact .refl s

theorem evacuateAllBody_liftEvent (s : State) : LiftEvent s (evacuateAllBody s).1 := by
  by_cases hs : s.regime.evacuateAll = true ∧ s.regime.state = .active
  · rw [evacuateAllBody_again hs]
    exact .refl s
  · rw [evacuateAllBody_new hs]
    exact liftEvent_settle_of_eq (evacuating_frame s) s

/-! ## The lift unit's own steps -/

/-- A group with its manual recall flag set or cleared (R104, R105). -/
def withManual (g : Fin 3) (b : Bool) (s : State) : State := s.setLGroup g { s.lgroups[g] with manual := b }

theorem liftsHeld_withManual (s : State) (g : Fin 3) (b : Bool) : LiftsHeld s (withManual g b s) := by
  refine ⟨rfl, rfl, fun k => ?_⟩
  rw [withManual, setLGroup_lgroups, getElem_set_fin]
  split
  · next e => subst e; exact ⟨rfl, rfl⟩
  · exact ⟨rfl, rfl⟩

theorem liftEvent_withManual (s : State) (g : Fin 3) (b : Bool) : LiftEvent s (liftSettle s (withManual g b s)) :=
  liftEvent_liftSettle (liftsHeld_withManual s g b) s

theorem recallGroupBody_liftEvent {b : Byte} (s : State) : LiftEvent s (recallGroupBody b s).1 := by
  unfold recallGroupBody
  (repeat' split)
  case h_2.isTrue.isFalse => exact liftEvent_withManual s _ true
  all_goals exact .refl s

theorem releaseGroupBody_liftEvent {b : Byte} (s : State) : LiftEvent s (releaseGroupBody b s).1 := by
  unfold releaseGroupBody
  (repeat' split)
  case h_2.isTrue.isFalse.isTrue => exact liftEvent_withManual s _ false
  all_goals exact .refl s

/-- A report of a present car is judged against its group's target (R98). -/
theorem liftEvent_takeReport {c : Fin 12} (hp : s.config.cars[c].present = true) (r : Report) :
    LiftEvent s (takeReport c r s) := by
  rw [takeReport_eq]
  refine liftEvent_setCar (fun h => ?_) (fun h => ?_) (by rw [judgeReport_kept]; rfl) (by rw [judgeReport_kept]; rfl)
  · rw [CarInPlace, if_pos hp] at h ⊢
    have hstored : CarObeys s.lgroups[s.config.cars[c].group] (withReport (carTime s) r s.cars[c]) := h
    exact hstored.judgeReport r
  · have hstored : (withReport (carTime s) r s.cars[c]).phase = .free := h
    rw [judgeReport_of_free r hstored]
    exact h

theorem carReportBody_liftEvent {p : Fin 4} {c x m d v : Byte} (s : State) :
    LiftEvent s (carReportBody p c x m d v s).1 := by
  unfold carReportBody
  dsimp only
  (repeat' split)
  · exact .refl s
  · exact liftEvent_takeReport (by assumption) _
  all_goals exact .refl s

theorem liftEvent_carTimeout (c : Fin 12) (s : State) :
    LiftEvent s (liftNotices s (s.setCar c (timedOut s.cars[c]))) := by
  refine liftEvent_setCar (fun h => ?_) timedOut_of_free rfl rfl
  unfold CarInPlace at h ⊢
  split
  · next hp =>
    rw [if_pos hp] at h
    exact h.timedOut
  · next hp =>
    rw [if_neg hp] at h
    exact h.timedOut

/-! ## Power, load and time -/

/-- While every car and every group holds its reset value the law claims nothing more, as long as no group is to be
triggered (R87, R89). -/
theorem liftInv_of_loading (hl : s.load ≠ none) (hg : ∀ g : Fin 3, s.lgroups[g] = lgroupReset)
    (hc : ∀ c : Fin 12, s.cars[c] = carReset) : LiftInv s := by
  refine ⟨fun h => absurd h hl, fun c => ?_⟩
  rw [hc, hg]
  exact ⟨⟨fun _ h => Bool.false_ne_true h.2, fun _ => rfl⟩, fun _ => ⟨rfl, rfl, rfl, rfl⟩, fun h => absurd rfl h⟩

theorem liftInv_powerOn (s : State) : LiftInv (powerOn s) :=
  liftInv_of_loading nofun (fun _ => getElem_tabulate _ _ _) fun _ => getElem_tabulate _ _ _

theorem Dormant.liftInv (h : Dormant s) : LiftInv s := liftInv_of_loading h.load h.lgroup h.car

/-- At the end of the load the regime is QUIET, so no group is triggered, and every group has its target (R87, R93,
R192). -/
theorem Dormant.liftInv_startUp (h : Dormant s) : LiftInv (startUp s) := by
  have hquiet : (startBlocks s).regime.state = .quiet := by
    have hr : (startBlocks s).regime = regimeReset s.regime.trouble.store := h.regime
    rw [hr]
    rfl
  have hgroup (g : Fin 3) : (startBlocks s).lgroups[g] = { s.lgroups[g] with target := targetOf s g } :=
    getElem_tabulate _ _ _
  have hcar (c : Fin 12) : CarAtRest (startBlocks s).cars[c] := by
    rw [startBlocks_car h]
    exact ⟨rfl, rfl, rfl, rfl, rfl⟩
  have hgood : LiftGood (startBlocks s) := by
    refine ⟨fun g => ?_, fun c => ?_, fun c hx => absurd (hcar c).1 hx⟩
    · rw [trigger_of_quiet hquiet, hgroup, h.lgroup]
      exact ⟨rfl, rfl⟩
    · unfold CarInPlace
      split
      · refine (carObeys_of_untriggered ?_ _).mpr (hcar c)
        rw [hgroup, h.lgroup]
        rfl
      · exact hcar c
  rw [startUp_eq_with]
  exact hgood.law

/-- A millisecond moves the report timers alone (R100). -/
theorem LiftGood.tick (h : LiftGood s) : LiftGood (tick s) :=
  h.of_kept ⟨rfl, rfl, fun i => by rw [tick_line]; rfl, fun _ => rfl⟩ rfl fun c => by rw [tick_car]; rfl

end

/-! ## Every step -/

/-- What a step claims of the lifts: the law after it, and the moves of the present cars unless a load begins. -/
def LiftStep (s t : State) : Prop :=
  LiftInv t ∧ (t.load = none → ∀ c : Fin 12, s.config.cars[c].present = true → CarMoves s t c)

theorem liftStep_powerOn (s u : State) : LiftStep s (powerOn u) := ⟨liftInv_powerOn u, nofun⟩

/-- RESTART begins a new load, or is turned away and leaves the lifts (R190). -/
theorem restartBody_liftStep {s u : State} (h : LiftStep s u) (p : Fin 4) : LiftStep s (restartBody p u).1 := by
  unfold restartBody
  (repeat' split)
  case h_2 => exact liftStep_powerOn s _
  all_goals exact h

theorem exec_liftEvent {i : Instr} {s t : State} (hl : s.load = none) (hon : i ≠ .powerOnReset)
    (hre : ∀ p, i ≠ .restart p) (h : exec i s = .next t) : LiftEvent s t := by
  cases hi : liftActs i with
  | false => exact (exec_liftsSteady hi h).event
  | true =>
    cases i with
    | powerOnReset => exact absurd rfl hon
    | restart p => exact absurd rfl (hre p)
    | startUpLoadEnd => exact of_next h (.ite fun hd => by rw [hl] at hd; cases hd)
    | zoneLineSlotCompletion i code =>
      have hc := liftsSteady_codeStored i code s
      refine of_next h (.ite fun _ => ?_)
      dsimp only
      split
      · exact hc.before (liftEvent_takeSample i code _)
      · exact hc.event
    | retardExpiry i =>
      refine of_next h (.ite fun _ => liftEvent_lineEvent fun hb => ?_)
      exact (fireActive_iff _ _).mpr ⟨((fireActive_iff _ _).mp hb).1, rfl⟩
    | holdTimerExpiry | spreadExpiry => exact of_next h (.ite fun _ => liftEvent_settle_of_eq rfl s)
    | carReportTimeout c => exact of_next h (.ite fun _ => liftEvent_carTimeout c s)
    | acknowledge => exact of_next h (liftEvent_controlled acknowledgeBody_liftEvent)
    | evacuateAll => exact of_next h (liftEvent_controlled evacuateAllBody_liftEvent)
    | resetRegime => exact of_next h (liftEvent_controlled resetRegimeBody_liftEvent)
    | recallGroup => exact of_next h (liftEvent_controlled recallGroupBody_liftEvent)
    | releaseGroup => exact of_next h (liftEvent_controlled releaseGroupBody_liftEvent)
    | carReport => exact of_next h (liftEvent_afterLoad carReportBody_liftEvent)
    | _ => cases hi

theorem exec_liftStep_of_ready {i : Instr} {s t : State} (hl : s.load = none) (hs : LiftInv s)
    (h : exec i s = .next t) : LiftStep s t := by
  have hsame : LiftStep s s := ⟨hs, fun _ => (LiftEvent.refl s).moves⟩
  by_cases hon : i = .powerOnReset
  · subst hon
    exact of_next h (liftStep_powerOn s s)
  · by_cases hre : ∃ p, i = .restart p
    · obtain ⟨p, rfl⟩ := hre
      exact of_next h (command_preserves (P := LiftStep s) id
        (fun u hu => controlled_preserves (fun _ => restartBody_liftStep hu p) hu) (fun _ _ => id) hsame)
    · have he := exec_liftEvent hl hon (not_exists.mp hre) h
      exact ⟨(he.law (hs.good hl)).law, fun _ => he.moves⟩

theorem exec_keeps_liftInv_of_loading {i : Instr} {s t : State} (hd : Dormant s) (h : exec i s = .next t) :
    LiftInv t := by
  by_cases hon : i = .powerOnReset
  · subst hon
    exact of_next h (liftInv_powerOn s)
  · by_cases hend : i = .startUpLoadEnd
    · subst hend
      refine of_next h ?_
      split
      · exact hd.liftInv_startUp
      · exact hd.liftInv
    · exact (exec_keeps_dormant hd hon hend h).liftInv

/-- Settles O15: a step leaves what the lift rules read, or ends in the lift unit's work, which judges every group and
moves every car by its table; a report and a timeout move their car alone. -/
theorem stepKeepsLiftLaw : Obligations.StepKeepsLiftLaw := by
  intro s t hload hs h
  unfold step at h
  by_cases hl : s.load = none
  · split at h
    · have ht : LiftStep s (tick s) := ⟨(hs.good hl).tick.law, fun _ _ _ => carMoves_of_held fun _ => ⟨rfl, rfl⟩⟩
      obtain ⟨hlaw, hmoves⟩ := of_next h ht
      exact ⟨hlaw, fun _ => hmoves⟩
    · next i rest _ =>
      obtain ⟨hlaw, hmoves⟩ := exec_liftStep_of_ready (s := { s with pending := rest }) hl hs h
      exact ⟨hlaw, fun _ => hmoves⟩
  · refine ⟨?_, fun h0 => absurd h0 hl⟩
    have hd : Dormant s := hload.dormant hl
    split at h
    · exact of_next h hd.tick.liftInv
    · next i rest _ =>
      exact exec_keeps_liftInv_of_loading (s := { s with pending := rest }) { hd with } h

end Sys2Proof.Machine
end

section
/-! SUPPORT. The commands and the timer of the lift unit: CAR REPORT (O39), the report timeout (O40), and RECALL GROUP
and RELEASE GROUP (O41). -/

namespace Sys2Proof.Machine

/-! ## An event of the lift unit as the whole part shows it -/

/-- The lift unit's notices change the lifts flag and the ports alone. -/
theorem liftNotices_eq_with (s0 s : State) :
    liftNotices s0 s =
      { s with regime := (liftNotices s0 s).regime, ports := (liftNotices s0 s).ports } := by
  unfold liftNotices raiseIf
  dsimp only
  split <;> split <;> rfl

/-- The lift unit's work changes the groups, the cars, the lifts flag and the ports alone. -/
theorem liftSettle_eq_with (s0 s : State) :
    liftSettle s0 s =
      { s with
        lgroups := (liftSettle s0 s).lgroups, cars := (liftSettle s0 s).cars
        regime := (liftSettle s0 s).regime, ports := (liftSettle s0 s).ports } := by
  unfold liftSettle
  rw [liftNotices_eq_with]
  rfl

theorem liftSettle_regime (s0 s : State) :
    (liftSettle s0 s).regime =
      { s.regime with
        trouble := { s.regime.trouble with lifts := (liftSettle s0 s).regime.trouble.lifts } } :=
  liftNotices_regime s0 _

theorem liftNoticed_liftSettle {s0 s : State} (hl : s.load = s0.load) (hc : s.config = s0.config) :
    LiftNoticed s0 (liftSettle s0 s) :=
  liftNoticed_liftNotices hl hc

section
variable {s u : State} {p : Fin 4} {i : Instr}

/-- The sender's port is not of the event. -/
theorem LiftNoticed.answered (h : LiftNoticed (opened p i s) u) (r : Result) : LiftNoticed s (setResult p r u) :=
  fun hl hx => Raised.setResult (s := s) (h hl hx) p r

/-- An event that changes no group and no car owes no LIFT notice. -/
theorem liftNoticed_of_eq {t : State} (hg : t.lgroups = s.lgroups) (hc : t.cars = s.cars) : LiftNoticed s t := by
  rintro - (⟨g, h⟩ | ⟨c, h⟩)
  · exact absurd (by rw [hg]) h
  · simp [hc] at h

end

/-! ## The report timeout (R101) -/

/-- A car that enters or leaves lift trouble raises TROUBLE (R102). -/
theorem raised_trouble_liftNotices {s0 s : State} (hl : s.load = none) (hc : s.config = s0.config) {c : Fin 12}
    (h : carInTrouble s0 c ≠ carInTrouble s c) : Raised .trouble s0 (liftNotices s0 s) := by
  have hchange : liftTroubleChanged s0 s = true :=
    List.any_eq_true.mpr ⟨c, List.mem_finRange c, bne_iff_ne.mpr h⟩
  exact (raised_raiseIf (by simpa using hl) (by simpa using hc) hchange).mono (quiet_raiseIf _ _ _)

/-- Settles O40: an expiry that is due leaves the car timed out, its phase by the table of R101, and the notices of the
lift unit. -/
theorem reportTimeoutLosesTheCar : Obligations.ReportTimeoutLosesTheCar := by
  refine ⟨fun s c h => congrArg _ (if_neg (mt (timerDue_iff _).mp h)), fun s c h => ?_⟩
  have hquiet : QuietPorts s (liftNotices s (s.setCar c (timedOut s.cars[c]))) :=
    QuietPorts.trans (quiet_of_ports rfl) (quiet_liftNotices s _)
  refine ⟨liftNotices s (s.setCar c (timedOut s.cars[c])), congrArg _ (if_pos ((timerDue_iff _).mpr h)), ?_,
    liftNotices_regime s _, hquiet, liftNoticed_liftNotices rfl rfl, fun hl hp hlapsed => ?_⟩
  · rw [← carTimeoutPhase_eq]
    exact liftNotices_eq_with s (s.setCar c (timedOut s.cars[c]))
  · have hbefore : carInTrouble s c = false := by rw [carInTrouble, hlapsed, Bool.and_false]
    have hafter : carInTrouble (s.setCar c (timedOut s.cars[c])) c = true := by
      rw [carInTrouble, setCar_self]
      exact (Bool.and_true _).trans hp
    refine raised_trouble_liftNotices hl rfl (c := c) ?_
    rw [hbefore, hafter]
    exact Bool.false_ne_true

/-! ## CAR REPORT (R97 to R99) -/

theorem argIn_eq_none_iff {α : Type} (l : List α) (b : Byte) : argIn l b = none ↔ l.length ≤ b.toNat :=
  List.getElem?_eq_none_iff

/-- The code of a value of a list of at most 256 names the value (section 11.1). -/
theorem argIn_codeIn {α : Type} [DecidableEq α] {l : List α} {x : α} (hx : x ∈ l) (hl : l.length ≤ 256) :
    argIn l (BitVec.ofNat 8 (codeIn l x)) = some x := by
  have hlt : l.idxOf x < l.length := List.idxOf_lt_length_of_mem hx
  have hb : (BitVec.ofNat 8 (codeIn l x)).toNat = l.idxOf x := by
    rw [BitVec.toNat_ofNat]
    exact Nat.mod_eq_of_lt (Nat.lt_of_lt_of_le hlt hl)
  rw [argIn, hb, List.getElem?_eq_getElem hlt, List.getElem_idxOf]

theorem mem_motionList (x : Motion) : x ∈ Motion.list := by cases x <;> decide

theorem mem_carDoorsList (x : CarDoors) : x ∈ CarDoors.list := by cases x <;> decide

theorem mem_serviceModeList (x : ServiceMode) : x ∈ ServiceMode.list := by cases x <;> decide

/-- The codes that no motion, no state of the doors or no service mode has (section 11.1). -/
theorem reportValue_unknown_iff (m d v : Byte) :
    (argIn Motion.list m = none ∨ argIn CarDoors.list d = none ∨ argIn ServiceMode.list v = none) ↔
      3 ≤ m.toNat ∨ 3 ≤ d.toNat ∨ 4 ≤ v.toNat := by
  simp only [argIn_eq_none_iff]
  rfl

/-- A position argument is a floor of the served set, or UNKNOWN (R97). -/
theorem carPosition_eq (served : FloorSet) (b : Byte) :
    carPosition served b =
      if h : b.toNat < 48 then (if served.has b.toNat then some ⟨b.toNat, h⟩ else none) else none := by
  unfold carPosition argIndex
  by_cases h : b.toNat < 48
  · simp only [dif_pos h]
  · simp only [dif_neg h]

section
variable {s : State} {p : Fin 4} {b pos m d v : Byte} {c : Fin 12}

theorem carReportBody_unknown (hr : s.role p = some .lift) (hb : argIndex 12 b = none) :
    carReportBody p b pos m d v s = refuse .range s := by
  simp only [carReportBody, hr, hb, if_true]

theorem carReportBody_absent (hr : s.role p = some .lift) (hb : argIndex 12 b = some c)
    (hp : s.config.cars[c].present = false) : carReportBody p b pos m d v s = refuse .range s := by
  simp only [carReportBody, hr, hb, hp, if_true, Bool.false_eq_true, if_false]

theorem carReportBody_elsewhere (hr : s.role p = some .lift) (hb : argIndex 12 b = some c)
    (hp : s.config.cars[c].present = true) (hport : s.config.lgroups[s.config.cars[c].group].reportPort ≠ p) :
    carReportBody p b pos m d v s = refuse .role s := by
  simp only [carReportBody, hr, hb, hp, if_true, hport, if_false]

/-- A report of the group's own port is refused when a value is unknown (R97). -/
theorem carReportBody_unread (hr : s.role p = some .lift) (hb : argIndex 12 b = some c)
    (hp : s.config.cars[c].present = true) (hport : s.config.lgroups[s.config.cars[c].group].reportPort = p)
    (h : argIn Motion.list m = none ∨ argIn CarDoors.list d = none ∨ argIn ServiceMode.list v = none) :
    carReportBody p b pos m d v s = refuse .range s := by
  simp only [carReportBody, hr, hb, hp, if_true, hport]
  split
  · next hm hd hv => simp [hm, hd, hv] at h
  · rfl

/-- A report that is read is stored and judged (R97, R98). -/
theorem carReportBody_accepted {x : Motion} {y : CarDoors} {z : ServiceMode} (hr : s.role p = some .lift)
    (hb : argIndex 12 b = some c) (hp : s.config.cars[c].present = true)
    (hport : s.config.lgroups[s.config.cars[c].group].reportPort = p) (hm : argIn Motion.list m = some x)
    (hd : argIn CarDoors.list d = some y) (hv : argIn ServiceMode.list v = some z) :
    carReportBody p b pos m d v s = accept (takeReport c ⟨carPosition s.config.cars[c].served pos, x, y, z⟩ s) := by
  simp only [carReportBody, hr, hb, hp, if_true, hport, hm, hd, hv]

theorem quiet_takeReport (c : Fin 12) (r : Report) (s : State) : QuietPorts s (takeReport c r s) :=
  QuietPorts.trans (quiet_of_ports rfl) (quiet_liftNotices s _)

end

/-- A car that is not FREE, judged on a report against its group's target (the table of R98). -/
theorem judgeReport_of_not_free {t : Option (Fin 48)} {r : Report} {x : Car} (h : x.phase ≠ .free) :
    judgeReport t r x =
      if r.mode = .firefighter ∨ r.mode = .outOfService then
        { x with phase := .exempt, directive := .none, target := none }
      else if r.position ≠ none ∧ r.position = t ∧
          (x.phase = .parked ∨ (r.motion = .stopped ∧ r.doors = .opened)) then
        { x with phase := .parked, directive := .park, target := t }
      else { x with phase := .recalling, directive := .recall, target := t } := by
  simp only [← exemptMode_iff]
  cases hx : x.phase with
  | free => exact absurd hx h
  | parked =>
    simp [judgeReport, hx, recallTo, Option.isSome_iff_ne_none]
  | recalling | lost | exempt =>
    simp [judgeReport, hx, recallTo, atTarget, Option.isSome_iff_ne_none, and_assoc]

/-- The judgement of a stored report leaves the report, its timer and flags, the no-stop set and the warning (R97,
R98). -/
theorem judgeReport_stored (t : Option (Fin 48)) (r : Report) (n : Nat) (x : Car) :
    (judgeReport t r (withReport n r x)).report = some r ∧ (judgeReport t r (withReport n r x)).reported = true ∧
      (judgeReport t r (withReport n r x)).lapsed = false ∧ (judgeReport t r (withReport n r x)).timer = some n ∧
      (judgeReport t r (withReport n r x)).noStop = x.noStop ∧
      (judgeReport t r (withReport n r x)).warning = x.warning := by
  rw [judgeReport_kept]
  exact ⟨rfl, rfl, rfl, rfl, rfl, rfl⟩

/-- The recall state and the directive to which a stored report leads (the table of R98). -/
theorem judgeReport_leads (t : Option (Fin 48)) (r : Report) (n : Nat) (x : Car) :
    let y := judgeReport t r (withReport n r x)
    if x.phase = .free then y.phase = .free ∧ y.directive = x.directive
    else if r.mode = .firefighter ∨ r.mode = .outOfService then
      y.phase = .exempt ∧ y.directive = .none ∧ y.target = none
    else if r.position ≠ none ∧ r.position = t ∧ (x.phase = .parked ∨ (r.motion = .stopped ∧ r.doors = .opened)) then
      y.phase = .parked ∧ y.directive = .park ∧ y.target = t
    else y.phase = .recalling ∧ y.directive = .recall ∧ y.target = t := by
  have hphase : (withReport n r x).phase = x.phase := rfl
  dsimp only
  split
  · next hfree =>
    rw [judgeReport_of_free r (hphase.trans hfree)]
    exact ⟨hfree, rfl⟩
  · next hfree =>
    rw [judgeReport_of_not_free (by rwa [hphase]), hphase]
    split
    · exact ⟨rfl, rfl, rfl⟩
    · split <;> exact ⟨rfl, rfl, rfl⟩

theorem takeReport_cars (c : Fin 12) (r : Report) (s : State) :
    (takeReport c r s).cars = s.cars.set c
      (judgeReport s.lgroups[s.config.cars[c].group].target r (withReport (carTime s) r s.cars[c])) := by
  simp only [takeReport_eq, liftNotices_frame, setCar_cars]

/-- What an accepted CAR REPORT leaves: its car judged, the lifts flag, and the notices. -/
theorem takeReport_answered (s : State) (p : Fin 4) (i : Instr) (c : Fin 12) (r : Report) :
    let t := setResult p .ok (takeReport c r (opened p i s))
    Accepted p s t ∧ LiftNoticed s t ∧ t = { s with cars := t.cars, regime := t.regime, ports := t.ports } ∧
      t.regime = { s.regime with trouble := { s.regime.trouble with lifts := t.regime.trouble.lifts } } ∧
      (∀ j : Fin 12, j ≠ c → t.cars[j] = s.cars[j]) ∧
      t.cars[c] =
        judgeReport s.lgroups[s.config.cars[c].group].target r (withReport (carTime s) r s.cars[c]) := by
  have hframe : takeReport c r (opened p i s) =
      { opened p i s with
        cars := (takeReport c r (opened p i s)).cars, regime := (takeReport c r (opened p i s)).regime
        ports := (takeReport c r (opened p i s)).ports } := by
    rw [takeReport_eq, liftNotices_eq_with]
    rfl
  have hquiet : QuietPorts (opened p i s) (takeReport c r (opened p i s)) := quiet_takeReport c r _
  have hnoticed : LiftNoticed (opened p i s) (takeReport c r (opened p i s)) := liftNoticed_liftNotices rfl rfl
  refine ⟨accepted_setResult hquiet, hnoticed.answered .ok, ?_, ?_, ?_, ?_⟩
  · exact congrArg (fun v : State => { v with ports := (setResult p .ok (takeReport c r (opened p i s))).ports }) hframe
  · exact liftNotices_regime (opened p i s) _
  · intro j hj
    exact (congrArg (·[j]) (takeReport_cars c r (opened p i s))).trans ((getElem_set_fin ..).trans (if_neg hj))
  · exact (congrArg (·[c]) (takeReport_cars c r (opened p i s))).trans ((getElem_set_fin ..).trans (if_pos rfl))

/-- Settles O39: the car, its group's port and the values decide whether the report is read; one that is read is
stored, and the car is judged by the table of R98. -/
theorem carReportIsJudged : Obligations.CarReportIsJudged := by
  refine ⟨fun s p b pos m d v hready hrole => ⟨_, rfl, ?_⟩, fun s p c pos m d v i hi hready hrole hp hport => ?_⟩
  · obtain ⟨hl, hh⟩ := hready
    have hw : (opened p (.carReport p b pos m d v) s).load = none := hl
    have hr : (opened p (.carReport p b pos m d v) s).role p = some .lift :=
      (role_of_ready hw p).trans (congrArg some hrole.2)
    cases hb : argIndex 12 b with
    | none => exact command_refused hh ((afterLoad_ready hw).trans (carReportBody_unknown hr hb))
    | some k =>
      dsimp only
      split
      · next hp => exact command_refused hh ((afterLoad_ready hw).trans (carReportBody_absent hr hb hp))
      · next hp =>
        rw [Bool.not_eq_false] at hp
        split
        · next hport =>
          exact command_refused hh ((afterLoad_ready hw).trans (carReportBody_elsewhere hr hb hp hport))
        · next hport =>
          rw [not_not] at hport
          split
          · next hval =>
            exact command_refused hh ((afterLoad_ready hw).trans
              (carReportBody_unread hr hb hp hport ((reportValue_unknown_iff m d v).mpr hval)))
          · next hval =>
            rw [← reportValue_unknown_iff, not_or, not_or] at hval
            obtain ⟨hm, hd, hv⟩ := hval
            obtain ⟨x, hm⟩ := Option.ne_none_iff_exists'.mp hm
            obtain ⟨y, hd⟩ := Option.ne_none_iff_exists'.mp hd
            obtain ⟨z, hv⟩ := Option.ne_none_iff_exists'.mp hv
            rw [afterLoad_accepted hh hl (carReportBody_accepted hr hb hp hport hm hd hv)]
            exact accepted_setResult (quiet_takeReport _ _ _)
  · obtain ⟨hl, hh⟩ := hready
    have hw : (opened p i s).load = none := hl
    have hr : (opened p i s).role p = some .lift := (role_of_ready hw p).trans (congrArg some hrole.2)
    have hbody := carReportBody_accepted (s := opened p i s) (pos := pos) hr (argIndex_ofNat (by decide) c) hp hport
      (argIn_codeIn (mem_motionList m) (by decide)) (argIn_codeIn (mem_carDoorsList d) (by decide))
      (argIn_codeIn (mem_serviceModeList v) (by decide))
    have ht := afterLoad_accepted hh hl hbody
    obtain ⟨haccepted, hnoticed, hframe, hregime, hothers, hcar⟩ :=
      takeReport_answered s p i c ⟨carPosition s.config.cars[c].served pos, m, d, v⟩
    subst hi
    refine ⟨setResult p .ok (takeReport c ⟨carPosition s.config.cars[c].served pos, m, d, v⟩ (opened p _ s)),
      congrArg Host.Outcome.next ht, haccepted, hnoticed, hframe, hregime, hothers, ?_⟩
    dsimp only
    rw [hcar, ← carPosition_eq, ← seconds_eq]
    obtain ⟨hreport, hreported, hlapsed, htimer, hnoStop, hwarning⟩ :=
      judgeReport_stored s.lgroups[s.config.cars[c].group].target ⟨carPosition s.config.cars[c].served pos, m, d, v⟩
        (carTime s) s.cars[c]
    exact ⟨hreport, hreported, hlapsed, htimer, hnoStop, hwarning, judgeReport_leads ..⟩

/-! ## RECALL GROUP and RELEASE GROUP (R104, R105) -/

section
variable {s : State} {b : Byte} {g : Fin 3}

theorem recallGroupBody_unknown (hb : argIndex 3 b = none) : recallGroupBody b s = refuse .range s := by
  simp only [recallGroupBody, hb]

theorem recallGroupBody_absent (hb : argIndex 3 b = some g) (hp : s.config.lgroups[g].present = false) :
    recallGroupBody b s = refuse .range s := by
  simp only [recallGroupBody, hb, hp, Bool.false_eq_true, if_false]

theorem recallGroupBody_again (hb : argIndex 3 b = some g) (hp : s.config.lgroups[g].present = true)
    (hm : s.lgroups[g].manual = true) : recallGroupBody b s = accept s := by
  simp only [recallGroupBody, hb, hp, hm, if_true]

theorem recallGroupBody_new (hb : argIndex 3 b = some g) (hp : s.config.lgroups[g].present = true)
    (hm : s.lgroups[g].manual = false) : recallGroupBody b s = accept (liftSettle s (withManual g true s)) := by
  simp only [recallGroupBody, hb, hp, hm, if_true, Bool.false_eq_true, if_false, withManual]

theorem releaseGroupBody_unknown (hb : argIndex 3 b = none) : releaseGroupBody b s = refuse .range s := by
  simp only [releaseGroupBody, hb]

theorem releaseGroupBody_absent (hb : argIndex 3 b = some g) (hp : s.config.lgroups[g].present = false) :
    releaseGroupBody b s = refuse .range s := by
  simp only [releaseGroupBody, hb, hp, Bool.false_eq_true, if_false]

/-- A group is not released while an automatic cause stands (R105). -/
theorem releaseGroupBody_caused (hb : argIndex 3 b = some g) (hp : s.config.lgroups[g].present = true)
    (ha : automaticCause s g = true) : releaseGroupBody b s = refuse .state s := by
  simp only [releaseGroupBody, hb, hp, ha, if_true]

theorem releaseGroupBody_again (hb : argIndex 3 b = some g) (hp : s.config.lgroups[g].present = true)
    (ha : automaticCause s g = false) (hm : s.lgroups[g].manual = false) : releaseGroupBody b s = accept s := by
  simp only [releaseGroupBody, hb, hp, ha, hm, if_true, Bool.false_eq_true, if_false]

theorem releaseGroupBody_new (hb : argIndex 3 b = some g) (hp : s.config.lgroups[g].present = true)
    (ha : automaticCause s g = false) (hm : s.lgroups[g].manual = true) :
    releaseGroupBody b s = accept (liftSettle s (withManual g false s)) := by
  simp only [releaseGroupBody, hb, hp, ha, hm, if_true, Bool.false_eq_true, if_false, withManual]

end

/-- What RECALL GROUP and RELEASE GROUP leave where the manual recall flag of group `g` changes to `b`. -/
structure ManuallyRecalled (g : Fin 3) (b : Bool) (s t : State) : Prop where
  manual : t.lgroups[g].manual = b
  frame : t = { s with lgroups := t.lgroups, cars := t.cars, regime := t.regime, ports := t.ports }
  regime : t.regime = { s.regime with trouble := { s.regime.trouble with lifts := t.regime.trouble.lifts } }
  noticed : LiftNoticed s t
  causes : CausesKept s t
  group : ∀ k : Fin 3, t.lgroups[k].triggered = trigger t k ∧ t.lgroups[k].target = targetOf s k
  cars : ∀ c : Fin 12, s.config.cars[c].present = true → CarMoves s t c ∧ (t.cars[c].phase ≠ .free → NoStopGood t c)

theorem withManual_manual (s : State) (g : Fin 3) (b : Bool) : (withManual g b s).lgroups[g].manual = b := by
  rw [withManual, setLGroup_self]

theorem causesKept_withManual (s : State) (g : Fin 3) (b : Bool) : CausesKept s (withManual g b s) :=
  ⟨rfl, rfl, fun _ => rfl, fun _ => rfl⟩

theorem quiet_withManual (s : State) (g : Fin 3) (b : Bool) : QuietPorts s (liftSettle s (withManual g b s)) :=
  QuietPorts.trans (quiet_of_ports rfl) (quiet_liftSettle s _)

/-- The lift unit acts on a manual recall flag that changes. -/
theorem manuallyRecalled_withManual (s : State) (g : Fin 3) (b : Bool) :
    ManuallyRecalled g b s (liftSettle s (withManual g b s)) where
  manual := by rw [liftSettle_lgroup]; exact withManual_manual s g b
  frame := by rw [liftSettle_eq_with]; rfl
  regime := liftSettle_regime s (withManual g b s)
  noticed := liftNoticed_liftSettle rfl rfl
  causes := (causesKept_withManual s g b).trans (causesKept_liftSettle s _)
  group k := by
    obtain ⟨htriggered, htarget⟩ := liftSettle_judged (w := withManual g b s) s k
    refine ⟨htriggered, htarget.trans ?_⟩
    exact ((causesKept_withManual s g b).trans (causesKept_liftSettle s _)).targetOf k
  cars c hp := ⟨(liftEvent_withManual s g b).moves c hp, noStopGood_liftSettle s hp⟩

section
variable {s u : State} {p : Fin 4} {i : Instr} {g : Fin 3} {b : Bool}

/-- The sender's port is not of the event. -/
theorem ManuallyRecalled.answered (h : ManuallyRecalled g b (opened p i s) u) (r : Result) :
    ManuallyRecalled g b s (setResult p r u) where
  manual := h.manual
  frame := congrArg (fun v : State => { v with ports := (setResult p r u).ports }) h.frame
  regime := h.regime
  noticed := h.noticed.answered r
  causes :=
    (liftsSteady_setPort s p _).toCausesKept.trans (h.causes.trans (liftsSteady_setPort u p _).toCausesKept)
  group := h.group
  cars := h.cars

/-- A group that is recalled outside QUIET is triggered (R90, R104). -/
theorem ManuallyRecalled.triggered (h : ManuallyRecalled g true s u) (hp : s.config.lgroups[g].present = true)
    (hq : s.regime.state ≠ .quiet) : u.lgroups[g].triggered = true := by
  have hstate : u.regime.state = s.regime.state := by rw [h.regime]
  rw [(h.group g).1]
  exact trigger_of_manual (by rw [h.causes.config]; exact hp) (by rw [hstate]; exact hq) h.manual

/-- A group that is released without an automatic cause is not triggered (R90, R105). -/
theorem ManuallyRecalled.untriggered (h : ManuallyRecalled g false s u) (ha : automaticCause s g = false) :
    u.lgroups[g].triggered = false := by
  rw [(h.group g).1]
  exact trigger_of_no_cause ((h.causes.automaticCause g).trans ha) h.manual

end

/-- Settles O41: the argument, then the automatic cause decide; a flag that changes lets the lift unit act, and one that
stands already changes nothing. -/
theorem manualRecallIsSetAndCleared : Obligations.ManualRecallIsSetAndCleared := by
  refine ⟨fun s p b hc => ⟨_, rfl, ?_⟩, fun s p b hc => ⟨_, rfl, ?_⟩⟩
  · cases hb : argIndex 3 b with
    | none => exact controlled_refused hc (recallGroupBody_unknown hb)
    | some g =>
      dsimp only
      split
      · next hp => exact controlled_refused hc (recallGroupBody_absent hb hp)
      · next hp =>
        rw [Bool.not_eq_false] at hp
        cases hm : s.lgroups[g].manual with
        | true =>
          rw [controlled_accepted hc (recallGroupBody_again hb hp hm)]
          exact ⟨accepted_setResult (.refl _), hm, rfl, rfl, liftNoticed_of_eq rfl rfl, fun _ => rfl, nofun⟩
        | false =>
          rw [controlled_accepted hc (recallGroupBody_new hb hp hm)]
          have h := (manuallyRecalled_withManual (opened p (.recallGroup p b) s) g true).answered .ok
          exact ⟨accepted_setResult (quiet_withManual _ g true), h.manual, h.frame, h.regime, h.noticed, nofun,
            fun _ => ⟨h.group, h.triggered hp, h.cars⟩⟩
  · cases hb : argIndex 3 b with
    | none => exact controlled_refused hc (releaseGroupBody_unknown hb)
    | some g =>
      dsimp only
      split
      · next hp => exact controlled_refused hc (releaseGroupBody_absent hb hp)
      · next hp =>
        rw [Bool.not_eq_false] at hp
        split
        · next ha => exact controlled_refused hc (releaseGroupBody_caused hb hp ha)
        · next ha =>
          rw [Bool.not_eq_true] at ha
          cases hm : s.lgroups[g].manual with
          | false =>
            rw [controlled_accepted hc (releaseGroupBody_again hb hp ha hm)]
            exact ⟨accepted_setResult (.refl _), hm, rfl, rfl, liftNoticed_of_eq rfl rfl, fun _ => rfl, nofun⟩
          | true =>
            rw [controlled_accepted hc (releaseGroupBody_new hb hp ha hm)]
            have h := (manuallyRecalled_withManual (opened p (.releaseGroup p b) s) g false).answered .ok
            exact ⟨accepted_setResult (quiet_withManual _ g false), h.manual, h.frame, h.regime, h.noticed, nofun,
              fun _ => ⟨h.group, h.untriggered ha, h.cars⟩⟩

end Sys2Proof.Machine
end

section
/-! SUPPORT. The door unit's operations: what each leaves of a group and of a circuit (R112, R116, R117, R120). -/

namespace Sys2Proof.Machine

section
variable {s : State} {g : Fin 16} {c : Fin 32}

theorem memberOf_iff :
    memberOf s g c = true ↔ s.config.doors[c].present = true ∧ s.config.doors[c].group = g := by
  simp only [memberOf, Bool.and_eq_true, beq_iff_eq]

theorem releaseGroup_door (g : Fin 16) (s : State) (c : Fin 32) :
    (releaseGroup g s).doors[c] = if memberOf s g c then releaseDoor s.doors[c] else s.doors[c] :=
  getElem_tabulate _ _ _

theorem secureGroup_door (g : Fin 16) (s : State) (c : Fin 32) :
    (secureGroup g s).doors[c] = if memberOf s g c then secureDoor s.doors[c] else s.doors[c] :=
  getElem_tabulate _ _ _

theorem secureGroup_state (k : Fin 16) :
    (secureGroup g s).dgroups[k].state = if k = g then .secured else s.dgroups[k].state := by
  simp only [secureGroup, getElem_set_fin]
  split <;> rfl

theorem rejoin_state (k : Fin 16) : (rejoin g s).dgroups[k].state = s.dgroups[k].state := by
  simp only [rejoin, getElem_set_fin]
  split
  · next e => subst e; rfl
  · rfl

end

end Sys2Proof.Machine
end

section
/-! SUPPORT. Every step keeps each door circuit's law: energised or cooling in a SECURED group alone, and LATCHED_OFF at
seven trips (O16). -/

namespace Sys2Proof.Machine

/-! ## The law of one circuit -/

/-- The circuit is a member of a SECURED group. -/
def HeldSecure (s : State) (c : Fin 32) : Prop :=
  ∃ g : Fin 16, memberOf s g c = true ∧ s.dgroups[g].state = .secured

theorem heldSecure_iff (s : State) (c : Fin 32) :
    HeldSecure s c ↔
      s.config.doors[c].present = true ∧ s.dgroups[s.config.doors[c].group].state = .secured := by
  simp only [HeldSecure, memberOf_iff]
  exact ⟨fun ⟨_, ⟨hp, hg⟩, hs⟩ => ⟨hp, hg ▸ hs⟩, fun ⟨hp, hs⟩ => ⟨_, ⟨hp, rfl⟩, hs⟩⟩

/-- The law of a circuit on which current may flow only while `held` (R113, R116, R120, R126, R127). -/
structure CircuitLaw (held : Prop) (d : Door) : Prop where
  energised : d.state = .on ∨ d.state = .tripped → held
  cool : d.cool.isSome = true ↔ d.state = .tripped
  latched : d.state = .latchedOff ↔ d.trips = 7
  trips : d.trips ≤ 7
  count : d.count ≤ 42
  current : d.current ≤ 1998

theorem circuitGood_iff (s : State) (c : Fin 32) : CircuitGood s c ↔ CircuitLaw (HeldSecure s c) s.doors[c] := by
  rw [heldSecure_iff]
  exact ⟨fun ⟨he, hc, hl, ht, hn, hi⟩ => ⟨he, hc, hl, ht, hn, hi⟩,
    fun h => ⟨h.energised, h.cool, h.latched, h.trips, h.count, h.current⟩⟩

section
variable {P Q : Prop} {d : Door}

theorem CircuitLaw.mono (h : CircuitLaw P d) (hpq : P → Q) : CircuitLaw Q d :=
  { h with energised := hpq ∘ h.energised }

theorem circuitLaw_doorReset : CircuitLaw P doorReset := by
  constructor <;> simp [doorReset]

/-- A released circuit carries no current, whatever its group (R116, R125). -/
theorem CircuitLaw.releaseDoor (h : CircuitLaw P d) : CircuitLaw Q (releaseDoor d) := by
  unfold Machine.releaseDoor
  split
  case h_1 hs | h_2 hs =>
    exact { h with
      energised := by simp, cool := by simp, latched := by simpa [hs] using h.latched, count := Nat.zero_le _ }
  case h_3 hs | h_4 hs => exact { h with energised := by simp [hs] }

/-- A circuit of a group that is secured goes from OFF to ON (R120). -/
theorem CircuitLaw.secureDoor (h : CircuitLaw P d) (hq : Q) : CircuitLaw Q (secureDoor d) := by
  unfold Machine.secureDoor
  split
  case h_1 hs =>
    exact { h with
      energised := fun _ => hq, cool := by simpa [hs] using h.cool, latched := by simpa [hs] using h.latched }
  all_goals exact h.mono fun _ => hq

/-- The second over-current reading in a row counts a trip; the seventh latches the circuit off (R126). -/
theorem CircuitLaw.trip (h : CircuitLaw P d) (hon : d.state = .on) : CircuitLaw P (trip d) := by
  have hne : d.trips ≠ 7 := fun h7 => by rw [h.latched.mpr h7] at hon; cases hon
  have hlt : d.trips < 7 := Nat.lt_of_le_of_ne h.trips hne
  have hmin : min (d.trips + 1) 7 = d.trips + 1 := by omega
  simp only [Machine.trip, hmin]
  split
  case isTrue hn =>
    exact { h with
      energised := fun _ => h.energised (.inl hon), cool := by simp, latched := iff_of_false nofun hn.ne
      trips := hlt, count := Nat.zero_le _ }
  case isFalse hn =>
    exact { h with
      energised := by simp, cool := by simp, latched := iff_of_true rfl (Nat.le_antisymm hlt (Nat.not_lt.mp hn))
      trips := hlt, count := Nat.zero_le _ }

theorem superviseCount_le (k : CurrentClass) (d : Door) : superviseCount k d ≤ 42 := by
  have hq : classQ k ≤ 42 := by cases k <;> decide
  unfold superviseCount
  split <;> omega

theorem currentOf_le (code : BitVec 10) : currentOf code ≤ 1998 := by
  have := code.isLt
  unfold currentOf
  omega

theorem CircuitLaw.supervise (h : CircuitLaw P d) (hon : d.state = .on) (sys : SystemCfg) (code : BitVec 10) :
    CircuitLaw P (supervise sys (currentOf code) d) := by
  have hread (b : Bool) : CircuitLaw P
      { d with
        current := currentOf code, candidate := some (classOf sys (currentOf code))
        count := superviseCount (classOf sys (currentOf code)) d, openFault := b } :=
    { h with count := superviseCount_le _ d, current := currentOf_le code }
  unfold Machine.supervise
  dsimp only
  split
  · split
    · exact (hread d.openFault).trip hon
    · exact hread true
    · exact hread false
  · exact hread d.openFault

/-- A circuit that is cleared has no trips, so it is latched off no more (R133). -/
theorem CircuitLaw.clearFault (h : CircuitLaw P d) {b : Bool} (hb : b = true → P) :
    CircuitLaw P (clearFault b d) := by
  cases hs : d.state with
  | latchedOff =>
    have hcool := h.cool
    cases b with
    | true =>
      exact ⟨fun _ => hb rfl, by simpa [Machine.clearFault, hs] using hcool, by simp [Machine.clearFault, hs],
        Nat.zero_le _, Nat.zero_le _, h.current⟩
    | false =>
      exact ⟨by simp [Machine.clearFault, hs], by simpa [Machine.clearFault, hs] using hcool,
        by simp [Machine.clearFault, hs], Nat.zero_le _, Nat.zero_le _, h.current⟩
  | on | off | tripped =>
    have hclear : Machine.clearFault b d =
        { d with trips := 0, openFault := false, candidate := none, count := 0 } := by
      simp [Machine.clearFault, hs]
    rw [hclear]
    exact { h with latched := by simp [hs], trips := Nat.zero_le _, count := Nat.zero_le _ }

/-- A circuit whose cool-down has run out goes back ON (R127). -/
theorem CircuitLaw.cooled (h : CircuitLaw P d) (hd : d.cool = some 0) :
    CircuitLaw P { d with state := .on, cool := none } := by
  have hs : d.state = .tripped := h.cool.mp (by rw [hd]; rfl)
  have hl := h.latched
  rw [hs] at hl
  exact { h with energised := fun _ => h.energised (.inr hs), cool := by simp, latched := by simpa using hl }

theorem CircuitLaw.tick (h : CircuitLaw P d) : CircuitLaw P { d with cool := tickTimer d.cool } := by
  refine { h with cool := ?_ }
  have hc : (tickTimer d.cool).isSome = d.cool.isSome := by cases d.cool <;> rfl
  rw [hc]
  exact h.cool

end

/-! ## What leaves the circuits -/

section
variable {s t u w : State} {g : Fin 16}

/-- The configuration, the circuits and the states of their groups are as they were. -/
def CircuitsKept (s t : State) : Prop :=
  t.config = s.config ∧ t.doors = s.doors ∧ ∀ g : Fin 16, t.dgroups[g].state = s.dgroups[g].state

@[simp] theorem CircuitsKept.refl (s : State) : CircuitsKept s s := ⟨rfl, rfl, fun _ => rfl⟩

theorem CircuitsKept.trans (h : CircuitsKept s t) (k : CircuitsKept t u) : CircuitsKept s u := by
  obtain ⟨hc, hd, hg⟩ := h
  obtain ⟨kc, kd, kg⟩ := k
  exact ⟨kc.trans hc, kd.trans hd, fun g => (kg g).trans (hg g)⟩

/-- An event that takes effect only on a condition. -/
theorem CircuitsKept.ite {p : Prop} [Decidable p] (h : CircuitsKept s t) : CircuitsKept s (if p then t else s) := by
  split
  · exact h
  · exact .refl s

/-- A group that is replaced in its state. -/
theorem circuitsKept_setDGroup {x : DGroup} (hx : x.state = s.dgroups[g].state) :
    CircuitsKept s (s.setDGroup g x) := by
  refine ⟨rfl, rfl, fun k => ?_⟩
  rw [setDGroup_dgroup]
  split
  · next e => subst e; exact hx
  · rfl

theorem DoorInv.circuit (h : DoorInv s) (c : Fin 32) : CircuitLaw (HeldSecure s c) s.doors[c] :=
  (circuitGood_iff s c).mp (h c)

theorem doorInv_of_circuits (h : ∀ c : Fin 32, CircuitLaw (HeldSecure s c) s.doors[c]) : DoorInv s :=
  fun c => (circuitGood_iff s c).mpr (h c)

theorem DoorInv.of_kept (h : DoorInv s) (hk : CircuitsKept s t) : DoorInv t := by
  obtain ⟨hc, hd, hg⟩ := hk
  refine doorInv_of_circuits fun c => ?_
  rw [hd]
  refine (h.circuit c).mono fun ⟨g, hm, hs⟩ => ⟨g, ?_, (hg g).trans hs⟩
  rw [memberOf, hc]
  exact hm

/-! ## Demands judged anew (R115 to R117) -/

theorem DoorInv.releaseGroup (h : DoorInv s) (g : Fin 16) : DoorInv (releaseGroup g s) := by
  refine doorInv_of_circuits fun c => ?_
  rw [releaseGroup_door]
  split
  · exact (h.circuit c).releaseDoor
  · next hm =>
    refine (h.circuit c).mono fun ⟨k, hk, hs⟩ => ⟨k, hk, ?_⟩
    have hne : k ≠ g := fun e => hm (e ▸ hk)
    rw [releaseGroup_state, if_neg hne]
    exact hs

/-- A group that joins the queue was RELEASED, so no current flows in its circuits. -/
theorem DoorInv.joinQueue (h : DoorInv s) (hr : s.dgroups[g].state = .released) : DoorInv (joinQueue g s) := by
  refine doorInv_of_circuits fun c => (h.circuit c).mono fun ⟨k, hk, hs⟩ => ⟨k, hk, ?_⟩
  have hne : k ≠ g := fun e => by rw [e, hr] at hs; cases hs
  rw [joinQueue_state, if_neg hne]
  exact hs

theorem DoorInv.judgeDemand (h : DoorInv s) (g : Fin 16) : DoorInv (judgeDemand s g) := by
  unfold Machine.judgeDemand
  split
  · split
    · split
      · exact h
      · exact h.releaseGroup g
    · split
      · next hr => exact h.joinQueue hr
      · exact h
  · exact h

theorem DoorInv.judgeDemands (h : DoorInv s) : DoorInv (judgeDemands s) :=
  foldl_relates (R := fun u v => DoorInv u → DoorInv v) (fun _ => id) (fun k l => l ∘ k)
    (fun _ g k => k.judgeDemand g) _ s h

/-! ## The work of the units -/

theorem circuitsKept_doorNotices (s0 s : State) : CircuitsKept s (doorNotices s0 s) := by simp [CircuitsKept]

theorem DoorInv.doorNotices (h : DoorInv s) (s0 : State) : DoorInv (doorNotices s0 s) :=
  h.of_kept (circuitsKept_doorNotices s0 s)

theorem circuitsKept_setRegime (s : State) (x : Regime) : CircuitsKept s (s.setRegime x) := ⟨rfl, rfl, fun _ => rfl⟩

/-- The work of every unit releases and queues groups, and leaves the circuits otherwise (R115). -/
theorem DoorInv.settle (h : DoorInv s) (hw : CircuitsKept s w) (s0 : State) : DoorInv (settle s0 w) := by
  have hf : CircuitsKept w (liftSettle s0 (floorSettle s0 w)) := by simp [CircuitsKept]
  have hd : DoorInv (doorSettle s0 (liftSettle s0 (floorSettle s0 w))) :=
    ((h.of_kept (hw.trans hf)).judgeDemands).doorNotices s0
  exact hd.of_kept (by simp [CircuitsKept, Machine.settle])

/-- A line's event reaches the circuits through the work of every unit alone. -/
theorem DoorInv.lineEvent (h : DoorInv s) (i : Fin 64) (l : Line) : DoorInv (lineEvent i l s) := by
  have hc : CircuitsKept s (changeLine i l s) := by simp [CircuitsKept]
  unfold Machine.lineEvent
  dsimp only
  split
  · have hq := queueKept_fireLine i (changeLine i l s)
    exact h.settle (hc.trans ⟨hq.config, by simp, hq.groupState⟩) s
  · exact h.of_kept hc

theorem DoorInv.takeSample (h : DoorInv s) (i : Fin 64) (code : BitVec 10) : DoorInv (takeSample i code s) := by
  obtain e | e | e := takeSample_cases i code s <;> rw [e]
  · exact h
  · exact h.lineEvent i _
  · have hg : DoorInv (s.setPGroup s.config.lines[i].powerGroup groupReset) := h
    exact hg.lineEvent i _

theorem DoorInv.resetRegime (h : DoorInv s) : DoorInv (resetRegime s) := by
  rw [resetRegime_eq]
  exact h.settle (by simp [CircuitsKept, regimeReturned]) s

/-! ## The commands of the regime -/

theorem DoorInv.acknowledgeBody (h : DoorInv s) : DoorInv (acknowledgeBody s).1 := by
  unfold Machine.acknowledgeBody
  split
  · split
    · exact h.settle (circuitsKept_setRegime s _) s
    · exact h.of_kept (by simp [CircuitsKept])
  all_goals exact h

theorem queueKept_evacuating (s : State) : QueueKept s (evacuating s) := by
  have hset := queueKept_setRegime s { s.regime with evacuateAll := true }
  unfold evacuating
  split
  · exact (hset.trans (queueKept_revertForceSecure _)).trans (queueKept_setRegime _ _)
  · exact hset.trans (queueKept_setRegime _ _)
  · exact hset.trans (queueKept_setRegime _ _)
  · exact queueKept_setRegime _ _

theorem DoorInv.evacuateAllBody (h : DoorInv s) : DoorInv (evacuateAllBody s).1 := by
  by_cases hs : s.regime.evacuateAll = true ∧ s.regime.state = .active
  · rw [evacuateAllBody_again hs]
    exact h
  · rw [evacuateAllBody_new hs]
    have hq := queueKept_evacuating s
    exact h.settle ⟨hq.config, by rw [evacuating_frame], hq.groupState⟩ s

theorem DoorInv.resetRegimeBody (h : DoorInv s) : DoorInv (resetRegimeBody s).1 := by
  unfold Machine.resetRegimeBody
  split <;> simp [h, h.resetRegime]

/-! ## The door unit's own steps -/

/-- A circuit that is replaced within its law. -/
theorem DoorInv.setDoor (h : DoorInv s) {c : Fin 32} {d : Door} (hd : CircuitLaw (HeldSecure s c) d) :
    DoorInv (s.setDoor c d) := by
  refine doorInv_of_circuits fun k => ?_
  rw [setDoor_doors, getElem_set_fin]
  split
  · next e => subst e; exact hd
  · exact h.circuit k

theorem DoorInv.secureGroup (h : DoorInv s) (g : Fin 16) : DoorInv (secureGroup g s) := by
  refine doorInv_of_circuits fun c => ?_
  rw [secureGroup_door]
  split
  · next hm => exact (h.circuit c).secureDoor ⟨g, hm, by rw [secureGroup_state, if_pos rfl]⟩
  · refine (h.circuit c).mono fun ⟨k, hk, hs⟩ => ⟨k, hk, ?_⟩
    rw [secureGroup_state, hs, ite_self]

theorem DoorInv.takeHead (h : DoorInv s) (g : Fin 16) (rest : List (Fin 16)) : DoorInv (takeHead g rest s) := by
  have hr : DoorInv { s with resecure := rest } := h
  unfold Machine.takeHead
  dsimp only
  split
  · exact hr.secureGroup g
  · exact hr.of_kept ⟨rfl, rfl, rejoin_state⟩

theorem DoorInv.overrideGroup (h : DoorInv s) (g : Fin 16) (o : Override) : DoorInv (overrideGroup g o s) := by
  unfold Machine.overrideGroup
  split
  · exact h
  · have hset : CircuitsKept s (s.setDGroup g { s.dgroups[g] with override := o }) := circuitsKept_setDGroup rfl
    exact ((h.of_kept hset).judgeDemand g).doorNotices s

theorem DoorInv.doorOverrideBody (h : DoorInv s) (g o : Byte) : DoorInv (doorOverrideBody g o s).1 := by
  unfold Machine.doorOverrideBody
  (repeat' split) <;> simp [h, h.overrideGroup]

theorem DoorInv.clearDoorFaultBody (h : DoorInv s) (b : Byte) : DoorInv (clearDoorFaultBody b s).1 := by
  unfold Machine.clearDoorFaultBody
  split
  · exact h
  · next c _ =>
    split
    · next hp =>
      refine DoorInv.doorNotices (h.setDoor ((h.circuit c).clearFault fun hs => ?_)) s
      exact (heldSecure_iff s c).mpr ⟨hp, beq_iff_eq.mp hs⟩
    · exact h

/-! ## Power, load and time -/

theorem doorInv_powerOn (s : State) : DoorInv (powerOn s) :=
  doorInv_of_circuits fun c => by
    have hd : (powerOn s).doors[c] = doorReset := getElem_tabulate _ _ _
    rw [hd]
    exact circuitLaw_doorReset

theorem DoorInv.restartBody (h : DoorInv s) (p : Fin 4) : DoorInv (restartBody p s).1 := by
  unfold Machine.restartBody setConflict
  (repeat' split) <;> simp only [accept_state, refuse_state, h, doorInv_powerOn]
  exact h

/-- At the end of the load an absent group becomes SECURED, and a SECURED one stays so (R137). -/
theorem DoorInv.startUp (h : DoorInv s) : DoorInv (startUp s) := by
  have hblocks : DoorInv (startBlocks s) := by
    refine doorInv_of_circuits fun c => (h.circuit c).mono fun ⟨g, hm, hs⟩ => ⟨g, hm, ?_⟩
    have hg : (startBlocks s).dgroups[g] = startDGroup s g := getElem_tabulate _ _ _
    rw [hg]
    unfold startDGroup
    split
    · exact hs
    · rfl
  rw [startUp_eq_with]
  exact hblocks

theorem DoorInv.tick (h : DoorInv s) : DoorInv (tick s) :=
  doorInv_of_circuits fun c => by
    rw [tick_door]
    exact (h.circuit c).tick.mono fun ⟨g, hm, hs⟩ => ⟨g, hm, by rw [tick_dgroup]; exact hs⟩

/-! ## The commands that leave the circuits -/

theorem circuitsKept_afterLoad {p : Fin 4} {bytes : List Byte} {body : State → State × Result}
    (h : ∀ u, CircuitsKept u (body u).1) : CircuitsKept s (command p bytes (afterLoad body) s) :=
  command_preserves (P := CircuitsKept s) id
    (fun u k => k.trans (afterLoad_preserves (P := CircuitsKept u) (fun _ => h u) (.refl u))) (fun _ _ => id) (.refl s)

theorem circuitsKept_command {p : Fin 4} {bytes : List Byte} {body : State → State × Result}
    (h : ∀ u, CircuitsKept u (body u).1) : CircuitsKept s (command p bytes body s) :=
  command_preserves (P := CircuitsKept s) id (fun u k => k.trans (h u)) (fun _ _ => id) (.refl s)

theorem circuitsKept_controlled {p : Fin 4} {bytes : List Byte} {body : State → State × Result}
    (h : ∀ u, CircuitsKept u (body u).1) : CircuitsKept s (command p bytes (controlled p body) s) :=
  circuitsKept_afterLoad fun u => by
    split
    · exact h u
    · exact .refl u

theorem takeControlBody_keeps_circuits {p : Fin 4} (s : State) : CircuitsKept s (takeControlBody p s).1 := by
  unfold takeControlBody
  (repeat' split) <;> simp [CircuitsKept]

theorem silenceBody_keeps_circuits (s : State) : CircuitsKept s (silenceBody s).1 := by
  unfold silenceBody
  (repeat' split) <;> simp [CircuitsKept]

theorem resoundBody_keeps_circuits (s : State) : CircuitsKept s (resoundBody s).1 := by
  unfold resoundBody
  split <;> simp [CircuitsKept]

theorem spreadHoldBody_keeps_circuits (s : State) : CircuitsKept s (spreadHoldBody s).1 := by
  unfold spreadHoldBody
  (repeat' split) <;> simp [CircuitsKept]

theorem spreadResumeBody_keeps_circuits (s : State) : CircuitsKept s (spreadResumeBody s).1 := by
  unfold spreadResumeBody
  split <;> simp [CircuitsKept]

theorem isolateLineBody_keeps_circuits {b : Byte} (s : State) : CircuitsKept s (isolateLineBody b s).1 := by
  unfold isolateLineBody
  (repeat' split) <;> simp [CircuitsKept]

theorem restoreLineBody_keeps_circuits {b : Byte} (s : State) : CircuitsKept s (restoreLineBody b s).1 := by
  unfold restoreLineBody
  (repeat' split) <;> simp [CircuitsKept]

theorem recallGroupBody_keeps_circuits {b : Byte} (s : State) : CircuitsKept s (recallGroupBody b s).1 := by
  unfold recallGroupBody
  (repeat' split) <;> simp [CircuitsKept]

theorem releaseGroupBody_keeps_circuits {b : Byte} (s : State) : CircuitsKept s (releaseGroupBody b s).1 := by
  unfold releaseGroupBody
  (repeat' split) <;> simp [CircuitsKept]

theorem carReportBody_keeps_circuits {p : Fin 4} {c x m d v : Byte} (s : State) :
    CircuitsKept s (carReportBody p c x m d v s).1 := by
  unfold carReportBody
  dsimp only
  (repeat' split) <;> simp [CircuitsKept, takeReport]

/-- A post makes room in the queue and creates its entry (R145). -/
theorem postJudged_keeps_circuits {p : Fin 4} {k : AnnClass} {m : Byte} {fs : FloorSet} {n : Nat} (s : State) :
    CircuitsKept s (postJudged p k m fs n s).1 := by
  have room {u : State} (h : roomFor k s = some u) : CircuitsKept s u := by
    unfold roomFor at h
    split at h
    · cases h; exact .refl s
    · split at h
      · obtain ⟨sl, -, rfl⟩ := Option.map_eq_some_iff.mp h
        simp [CircuitsKept]
      all_goals cases h
  unfold postJudged
  (repeat' split)
  · exact .refl s
  · exact .refl s
  · exact .refl s
  · next u hu =>
    refine (room hu).trans ?_
    unfold postEntry
    split <;> simp [CircuitsKept]

theorem postBody_keeps_circuits {p : Fin 4} {k m : Byte} {fs : FloorSet} {n : Byte} (s : State) :
    CircuitsKept s (postBody p k m fs n s).1 := by
  unfold postBody
  (repeat' split) <;> simp [postJudged_keeps_circuits]

theorem cancelBody_keeps_circuits {p : Fin 4} {sl m : Byte} (s : State) : CircuitsKept s (cancelBody p sl m s).1 := by
  unfold cancelBody
  (repeat' split) <;> simp [CircuitsKept]

theorem playEndBody_keeps_circuits {p : Fin 4} {c m : Byte} (s : State) : CircuitsKept s (playEndBody p c m s).1 := by
  unfold playEndBody
  (repeat' split) <;> simp [CircuitsKept]

theorem storeWriteBody_keeps_circuits {p : Fin 4} {k n e : Byte} {im : Image} (s : State) :
    CircuitsKept s (storeWriteBody p k n e im s).1 := by
  unfold storeWriteBody storeWriteRecord
  (repeat' split) <;> simp [CircuitsKept]

theorem checkConfigBody_keeps_circuits {p : Fin 4} (s : State) : CircuitsKept s (checkConfigBody p s).1 := by
  unfold checkConfigBody
  (repeat' split) <;> simp [CircuitsKept]

theorem selectBody_keeps_circuits {p : Fin 4} {t r f : Byte} (s : State) :
    CircuitsKept s (selectBody p t r f s).1 := by
  unfold selectBody
  (repeat' split) <;> simp [CircuitsKept]

theorem windowBody_keeps_circuits {p : Fin 4} {fr lr ff lf o : Byte} (s : State) :
    CircuitsKept s (windowBody p fr lr ff lf o s).1 := by
  unfold windowBody
  (repeat' split) <;> simp [CircuitsKept]

theorem maskBody_keeps_circuits {p : Fin 4} {w : Word} (s : State) : CircuitsKept s (maskBody p w s).1 := by
  unfold maskBody
  split <;> simp [CircuitsKept]

end

/-! ## The steps that leave the circuits -/

/-- The steps that may change a circuit or a door group's state: the door unit's own, those after which every unit acts,
and those that begin and end the load. -/
def doorActs : Instr → Bool
  | .powerOnReset | .startUpLoadEnd | .restart _ => true
  | .zoneLineSlotCompletion .. | .retardExpiry _ | .resetRegime _ => true
  | .holdTimerExpiry | .spreadExpiry | .acknowledge _ | .evacuateAll _ => true
  | .doorSenseSlotCompletion .. | .staggerExpiry | .openWaitExpiry _ | .coolDownExpiry _ => true
  | .doorOverride .. | .clearDoorFault .. => true
  | _ => false

/-- Every other step keeps the circuits and the states of their groups. -/
theorem exec_keeps_circuits {i : Instr} {s t : State} (hi : doorActs i = false) (h : exec i s = .next t) :
    CircuitsKept s t := by
  cases i with
  | powerOnReset | startUpLoadEnd | restart | zoneLineSlotCompletion | retardExpiry | resetRegime | holdTimerExpiry
  | spreadExpiry | acknowledge | evacuateAll | doorSenseSlotCompletion | staggerExpiry | openWaitExpiry
  | coolDownExpiry | doorOverride | clearDoorFault => cases hi
  | resetExpiry | settleExpiry | silenceInhibitExpiry | frameBegin =>
    exact of_next h (.ite ⟨rfl, rfl, fun _ => rfl⟩)
  | carReportTimeout | stopTimerExpiry | playTimerExpiry | chainRefreshExpiry =>
    exact of_next h (.ite (by simp [CircuitsKept]))
  | windowExpiry g =>
    have hg : CircuitsKept s (s.setPGroup g groupIdle) := ⟨rfl, rfl, fun _ => rfl⟩
    exact of_next h (.ite (hg.trans
      (foldl_relates .refl .trans (fun u i => .ite (by simp [CircuitsKept])) _ _)))
  | routingShiftComplete =>
    refine of_next h ?_
    split
    · exact .refl s
    · refine .ite ?_
      unfold shiftEnds
      dsimp only
      split <;> simp [CircuitsKept]
  | storeWriteCompletion =>
    refine of_next h ?_
    split
    · exact .refl s
    · exact .ite (by simp [CircuitsKept])
  | enableInputDrop =>
    refine of_next h ?_
    split <;> simp [CircuitsKept]
  | enableInputAssert | frameEnd => exact of_next h ⟨rfl, rfl, fun _ => rfl⟩
  | unknownCommand =>
    refine of_next h ?_
    split
    · exact .refl s
    · exact circuitsKept_command .refl
  | portReset =>
    refine of_next h ?_
    dsimp only
    split <;> simp [CircuitsKept]
  | readWordShifted | noticesReplyComplete =>
    refine of_next h ?_
    split <;> exact ⟨rfl, rfl, fun _ => rfl⟩
  | select => exact of_next h (circuitsKept_command selectBody_keeps_circuits)
  | window => exact of_next h (circuitsKept_command windowBody_keeps_circuits)
  | read | status => exact of_next h (circuitsKept_command fun _ => ⟨rfl, rfl, fun _ => rfl⟩)
  | notices => exact of_next h (circuitsKept_afterLoad fun _ => ⟨rfl, rfl, fun _ => rfl⟩)
  | mask => exact of_next h (circuitsKept_afterLoad maskBody_keeps_circuits)
  | takeControl => exact of_next h (circuitsKept_afterLoad takeControlBody_keeps_circuits)
  | carReport => exact of_next h (circuitsKept_afterLoad carReportBody_keeps_circuits)
  | postAnnouncement => exact of_next h (circuitsKept_afterLoad postBody_keeps_circuits)
  | cancelAnnouncement => exact of_next h (circuitsKept_afterLoad cancelBody_keeps_circuits)
  | playEnd => exact of_next h (circuitsKept_afterLoad playEndBody_keeps_circuits)
  | storeWrite => exact of_next h (circuitsKept_afterLoad storeWriteBody_keeps_circuits)
  | checkConfig => exact of_next h (circuitsKept_afterLoad checkConfigBody_keeps_circuits)
  | releaseControl => exact of_next h (circuitsKept_controlled fun _ => ⟨rfl, rfl, fun _ => rfl⟩)
  | silence => exact of_next h (circuitsKept_controlled silenceBody_keeps_circuits)
  | resound => exact of_next h (circuitsKept_controlled resoundBody_keeps_circuits)
  | spreadHold => exact of_next h (circuitsKept_controlled spreadHoldBody_keeps_circuits)
  | spreadResume => exact of_next h (circuitsKept_controlled spreadResumeBody_keeps_circuits)
  | isolateLine => exact of_next h (circuitsKept_controlled isolateLineBody_keeps_circuits)
  | restoreLine => exact of_next h (circuitsKept_controlled restoreLineBody_keeps_circuits)
  | recallGroup => exact of_next h (circuitsKept_controlled recallGroupBody_keeps_circuits)
  | releaseGroup => exact of_next h (circuitsKept_controlled releaseGroupBody_keeps_circuits)

/-! ## Every step -/

section
variable {s t : State}

theorem DoorInv.controlled {p : Fin 4} {bytes : List Byte} {body : State → State × Result} (h : DoorInv s)
    (hbody : ∀ u, DoorInv u → DoorInv (body u).1) : DoorInv (command p bytes (Machine.controlled p body) s) :=
  command_preserves id (fun u hu => controlled_preserves (fun _ => hbody u hu) hu) (fun _ _ => id) h

theorem exec_keeps_doorInv {i : Instr} (hs : DoorInv s) (h : exec i s = .next t) : DoorInv t := by
  cases hi : doorActs i with
  | false => exact hs.of_kept (exec_keeps_circuits hi h)
  | true =>
    cases i with
    | powerOnReset => exact of_next h (doorInv_powerOn s)
    | restart p => exact of_next h (hs.controlled fun u hu => hu.restartBody p)
    | acknowledge => exact of_next h (hs.controlled fun u hu => hu.acknowledgeBody)
    | evacuateAll => exact of_next h (hs.controlled fun u hu => hu.evacuateAllBody)
    | resetRegime => exact of_next h (hs.controlled fun u hu => hu.resetRegimeBody)
    | doorOverride p g o => exact of_next h (hs.controlled fun u hu => hu.doorOverrideBody g o)
    | clearDoorFault p c => exact of_next h (hs.controlled fun u hu => hu.clearDoorFaultBody c)
    | startUpLoadEnd =>
      refine of_next h ?_
      split
      · exact hs.startUp
      · exact hs
    | holdTimerExpiry | spreadExpiry =>
      refine of_next h ?_
      split
      · exact hs.settle (circuitsKept_setRegime s _) s
      · exact hs
    | zoneLineSlotCompletion i code =>
      have hc : DoorInv (codeStored i code s) := hs
      refine of_next h ?_
      split
      · dsimp only
        split
        · exact hc.takeSample i code
        · exact hc
      · exact hs
    | retardExpiry i =>
      refine of_next h ?_
      split
      · exact hs.lineEvent i _
      · exact hs
    | doorSenseSlotCompletion c code =>
      have hn : DoorInv { s with scanSlot := some (nextSlot (doorSlot c)) } := hs
      refine of_next h ?_
      split
      · dsimp only
        split
        · next hon =>
          simp only [Bool.and_eq_true, beq_iff_eq] at hon
          exact (hn.setDoor ((hs.circuit c).supervise hon.2 _ code)).doorNotices s
        · exact hn
      · exact hs
    | staggerExpiry =>
      refine of_next h ?_
      split
      · split
        · exact hs
        · next g rest _ =>
          have hn : DoorInv { s with stagger := some Config.staggerTime } := hs
          exact (hn.takeHead g rest).doorNotices s
      · exact hs
    | openWaitExpiry g =>
      refine of_next h ?_
      split
      · have hset : CircuitsKept s (s.setDGroup g { s.dgroups[g] with openWait := none, notSecured := true }) :=
          circuitsKept_setDGroup rfl
        exact (hs.of_kept hset).doorNotices s
      · exact hs
    | coolDownExpiry c =>
      refine of_next h ?_
      split
      · next hd => exact (hs.setDoor ((hs.circuit c).cooled ((timerDue_iff _).mp hd))).doorNotices s
      · exact hs
    | _ => cases hi

end

/-- Settles O16: a step leaves the circuits, or moves one within its law, or releases, queues and secures groups, where
every circuit that is energised lies in a SECURED group. -/
theorem stepKeepsDoorLaw : Obligations.StepKeepsDoorLaw := by
  intro s t hs h
  unfold step at h
  split at h
  · exact of_next h hs.tick
  · next i rest _ =>
    have hs' : DoorInv { s with pending := rest } := hs
    exact exec_keeps_doorInv hs' h

end Sys2Proof.Machine
end

section
/-! SUPPORT. The timers of the door unit: stagger, open-wait and cool-down (O43). -/

namespace Sys2Proof.Machine

section
variable {s w : State} {g : Fin 16} {rest : List (Fin 16)}

/-- An event of the door unit that touches neither the regime record nor the ports: the notices join the ports, and the
doors flag follows (R134, R135). -/
theorem doorNotices_shown (hl : w.load = s.load) (hc : w.config = s.config) (hr : w.regime = s.regime)
    (hp : w.ports = s.ports) :
    (doorNotices s w).regime =
        { s.regime with trouble := { s.regime.trouble with doors := (doorNotices s w).regime.trouble.doors } } ∧
      QuietPorts s (doorNotices s w) ∧ DoorNoticed s (doorNotices s w) := by
  refine ⟨?_, QuietPorts.trans (quiet_of_ports hp) (quiet_doorNotices s w), doorNoticed_doorNotices hl hc⟩
  rw [doorNotices_regime, hr]

/-! ## The head of the queue (R120) -/

theorem groupClosed_iff (s : State) (g : Fin 16) :
    groupClosed s g = true ↔ ∀ c : Fin 32, memberOf s g c = true → readsClosed s c = true := by
  simp only [groupClosed, List.all_eq_true, List.mem_finRange, true_implies, Bool.or_eq_true, Bool.not_eq_true',
    ← Bool.not_eq_true, ← imp_iff_not_or]

/-- The head is secured when every member's door reads closed, or under FORCE_SECURE. -/
def HeadSecured (s : State) (g : Fin 16) : Prop :=
  (∀ c : Fin 32, memberOf s g c = true → readsClosed s c = true) ∨ s.dgroups[g].override = .forceSecure

theorem headSecured_iff (s : State) (g : Fin 16) :
    (groupClosed s g || s.dgroups[g].override == .forceSecure) = true ↔ HeadSecured s g := by
  rw [HeadSecured, ← groupClosed_iff, Bool.or_eq_true, beq_iff_eq]

theorem takeHead_secured (h : HeadSecured s g) : takeHead g rest s = secureGroup g { s with resecure := rest } :=
  if_pos ((headSecured_iff s g).mpr h)

theorem takeHead_open (h : ¬ HeadSecured s g) : takeHead g rest s = rejoin g { s with resecure := rest } :=
  if_neg (mt (headSecured_iff s g).mp h)

theorem secureDoor_eq (d : Door) : secureDoor d = if d.state = .off then { d with state := .on } else d := by
  unfold secureDoor
  cases d.state <;> rfl

/-- The open-wait timer of a group that is found open starts once: a running one, and one that has run out into
not-secured, stay (R120). -/
theorem openWaitTaken_eq (x : DGroup) :
    openWaitTaken x =
      match x.openWait with
      | some n => some n
      | none => if x.notSecured = true then none else some 30000 := by
  unfold openWaitTaken
  cases x.openWait <;> rfl

theorem takeHead_dgroup_other {k : Fin 16} (hk : k ≠ g) : (takeHead g rest s).dgroups[k] = s.dgroups[k] := by
  by_cases h : HeadSecured s g
  · rw [takeHead_secured h]
    exact (getElem_set_fin ..).trans (if_neg hk)
  · rw [takeHead_open h]
    exact (getElem_set_fin ..).trans (if_neg hk)

theorem takeHead_eq_with :
    takeHead g rest s =
      { s with
        doors := (takeHead g rest s).doors, dgroups := (takeHead g rest s).dgroups
        resecure := (takeHead g rest s).resecure } := by
  by_cases h : HeadSecured s g
  · rw [takeHead_secured h]; rfl
  · rw [takeHead_open h]; rfl

/-- A group that is secured: its open-wait and not-secured are cleared, and its OFF circuits go ON (R120). -/
theorem secureGroup_self : (secureGroup g s).dgroups[g] =
    { s.dgroups[g] with state := .secured, openWait := none, notSecured := false } :=
  (getElem_set_fin ..).trans (if_pos rfl)

theorem rejoin_self : (rejoin g s).dgroups[g] = { s.dgroups[g] with openWait := openWaitTaken s.dgroups[g] } :=
  (getElem_set_fin ..).trans (if_pos rfl)

theorem secureGroup_door_eq (c : Fin 32) :
    (secureGroup g s).doors[c] =
      if memberOf s g c = true ∧ s.doors[c].state = .off then { s.doors[c] with state := .on } else s.doors[c] := by
  rw [secureGroup_door, secureDoor_eq, ← ite_and]

end

/-! ## The expiries -/

section
variable {s : State}

/-- The head taken at an expiry of the stagger timer (R119). -/
def headTaken (g : Fin 16) (rest : List (Fin 16)) (s : State) : State :=
  takeHead g rest { s with stagger := some Config.staggerTime }

theorem staggerExpiry_taken {g : Fin 16} {rest : List (Fin 16)} (hd : s.stagger = some 0)
    (hr : s.resecure = g :: rest) : exec .staggerExpiry s = .next (doorNotices s (headTaken g rest s)) := by
  refine congrArg Host.Outcome.next ((if_pos ((timerDue_iff _).mpr hd)).trans ?_)
  rw [hr]
  rfl

theorem staggerExpiry_empty (hd : s.stagger = some 0) (hr : s.resecure = []) :
    exec .staggerExpiry s = .next { s with stagger := none } := by
  refine congrArg Host.Outcome.next ((if_pos ((timerDue_iff _).mpr hd)).trans ?_)
  rw [hr]

/-- A group whose open-wait has run out (R121). -/
def openTooLong (g : Fin 16) (s : State) : State :=
  s.setDGroup g { s.dgroups[g] with openWait := none, notSecured := true }

/-- TROUBLE is raised where a standing trouble of a group begins or ends (R134). -/
theorem raised_trouble_doorNotices_group {s0 : State} (hl : s.load = none) (hc : s.config = s0.config) (g : Fin 16)
    (h : notSecuredTrouble s0 g ≠ notSecuredTrouble s g) : Raised .trouble s0 (doorNotices s0 s) := by
  have hchanged : doorTroubleChanged s0 s = true :=
    Bool.or_eq_true_iff.mpr (.inr (List.any_eq_true.mpr ⟨g, List.mem_finRange g, bne_iff_ne.mpr h⟩))
  exact (raised_raiseIf (by simpa using hl) (by simpa using hc) hchanged).mono (quiet_raiseIf _ _ _)

theorem notSecuredTrouble_begins {g : Fin 16} (hp : s.config.dgroups[g].present = true)
    (hn : s.dgroups[g].notSecured = false) : notSecuredTrouble s g ≠ notSecuredTrouble (openTooLong g s) g := by
  have hbefore : notSecuredTrouble s g = false := by rw [notSecuredTrouble, hn, Bool.and_false]
  have hafter : notSecuredTrouble (openTooLong g s) g = true := by
    rw [notSecuredTrouble, openTooLong, setDGroup_self]
    exact (Bool.and_true _).trans hp
  rw [hbefore, hafter]
  exact Bool.false_ne_true

end

/-- Settles O43: an expiry that is due takes the head, sets not-secured, or puts the circuit back ON, and the notices of
the door unit follow. -/
theorem doorTimersExpire : Obligations.DoorTimersExpire := by
  refine ⟨fun s h => congrArg _ (if_neg (mt (timerDue_iff _).mp h)),
    fun s g h => congrArg _ (if_neg (mt (timerDue_iff _).mp h)),
    fun s c h => congrArg _ (if_neg (mt (timerDue_iff _).mp h)), fun s => staggerExpiry_empty,
    fun s g rest hd hr => ?_, fun s g hd => ?_, fun s c hd => ?_⟩
  · obtain ⟨hregime, hquiet, hnoticed⟩ := doorNotices_shown (s := s) (w := headTaken g rest s)
      (by simp [headTaken]) (by simp [headTaken]) (by simp [headTaken]) (by simp [headTaken])
    refine ⟨_, staggerExpiry_taken hd hr, ?_, hregime, fun k hk => ?_, hquiet, hnoticed, ?_⟩
    · rw [doorNotices_eq_with, headTaken, takeHead_eq_with]
      rfl
    · rw [doorNotices_eq_with]
      exact takeHead_dgroup_other hk
    · rw [doorNotices_eq_with]
      split
      · next h =>
        have hw : headTaken g rest s =
            secureGroup g { s with stagger := some Config.staggerTime, resecure := rest } := takeHead_secured h
        rw [hw, secureGroup_self]
        exact ⟨rfl, rfl, rfl, rfl, secureGroup_door_eq⟩
      · next h =>
        have hw : headTaken g rest s =
            rejoin g { s with stagger := some Config.staggerTime, resecure := rest } := takeHead_open h
        rw [hw, rejoin_self]
        exact ⟨rfl, rfl, rfl, openWaitTaken_eq _⟩
  · obtain ⟨hregime, hquiet, hnoticed⟩ :=
      doorNotices_shown (s := s) (w := openTooLong g s) rfl rfl rfl rfl
    refine ⟨doorNotices s (openTooLong g s), congrArg _ (if_pos ((timerDue_iff _).mpr hd)), ?_, hregime, hquiet,
      hnoticed, fun hl hp hn => raised_trouble_doorNotices_group hl rfl g (notSecuredTrouble_begins hp hn)⟩
    exact doorNotices_eq_with s (openTooLong g s)
  · obtain ⟨hregime, hquiet, hnoticed⟩ :=
      doorNotices_shown (s := s) (w := s.setDoor c { s.doors[c] with state := .on, cool := none }) rfl rfl rfl rfl
    exact ⟨doorNotices s (s.setDoor c { s.doors[c] with state := .on, cool := none }),
      congrArg _ (if_pos ((timerDue_iff _).mpr hd)), doorNotices_eq_with s _, hregime, hquiet, hnoticed⟩

end Sys2Proof.Machine
end

section
/-! SUPPORT. A command of the door unit as the ports show it, and CLEAR DOOR FAULT (O45). -/

namespace Sys2Proof.Machine

section
variable {s u : State} {p : Fin 4} {i : Instr} {b : Byte} {c : Fin 32}

/-- The sender's port is not of the event. -/
theorem DoorNoticed.answered (h : DoorNoticed (opened p i s) u) (r : Result) : DoorNoticed s (setResult p r u) :=
  fun hl hx => Raised.setResult (s := s) (h hl hx) p r

/-- An accepted command of the door unit that touches neither the regime record nor the ports: the answer, the notices
and the doors flag (R134, R135). -/
theorem doorNotices_answered {w : State} (hl : w.load = s.load) (hc : w.config = s.config)
    (hr : w.regime = s.regime) (hp : w.ports = (opened p i s).ports) :
    let t := setResult p .ok (doorNotices (opened p i s) w)
    Accepted p s t ∧ t = { w with regime := t.regime, ports := t.ports } ∧
      t.regime = { s.regime with trouble := { s.regime.trouble with doors := t.regime.trouble.doors } } ∧
      DoorNoticed s t := by
  obtain ⟨hregime, hquiet, hnoticed⟩ := doorNotices_shown (s := opened p i s) hl hc hr hp
  refine ⟨accepted_setResult hquiet, ?_, hregime, hnoticed.answered .ok⟩
  rw [doorNotices_eq_with]
  rfl

/-! ## CLEAR DOOR FAULT (R133) -/

theorem clearDoorFaultBody_unknown (hb : argIndex 32 b = none) : clearDoorFaultBody b s = refuse .range s := by
  simp only [clearDoorFaultBody, hb]

theorem clearDoorFaultBody_absent (hb : argIndex 32 b = some c) (hp : s.config.doors[c].present = false) :
    clearDoorFaultBody b s = refuse .range s := by
  simp only [clearDoorFaultBody, hb, hp, Bool.false_eq_true, if_false]

/-- The circuit that an accepted CLEAR DOOR FAULT leaves. -/
def faultCleared (s : State) (c : Fin 32) : Door :=
  { s.doors[c] with
    trips := 0, openFault := false, candidate := none, count := 0
    state :=
      if s.doors[c].state = .latchedOff then
        (if s.dgroups[s.config.doors[c].group].state = .secured then .on else .off)
      else s.doors[c].state }

/-- The part with a circuit's fault cleared, before the notices. -/
def withFaultCleared (c : Fin 32) (s : State) : State := s.setDoor c (faultCleared s c)

theorem clearDoorFaultBody_accepted (hb : argIndex 32 b = some c) (hp : s.config.doors[c].present = true) :
    clearDoorFaultBody b s = accept (doorNotices s (withFaultCleared c s)) := by
  simp only [withFaultCleared, clearDoorFaultBody, hb, hp, if_true, clearFault, beq_iff_eq, faultCleared]

theorem faultCleared_state (s : State) (c : Fin 32) : (faultCleared s c).state ≠ .latchedOff := by
  unfold faultCleared
  dsimp only
  split
  · split <;> nofun
  · assumption

/-- No trouble stands on a circuit whose fault is cleared (R134). -/
theorem faultCleared_trouble (hd : u.doors[c] = faultCleared s c) :
    latchTrouble u c = false ∧ openTrouble u c = false := by
  rw [latchTrouble, openTrouble, hd, beq_eq_false_iff_ne.mpr (faultCleared_state s c)]
  exact ⟨Bool.and_false _, Bool.and_false _⟩

theorem withFaultCleared_self (c : Fin 32) (s : State) : (withFaultCleared c s).doors[c] = faultCleared s c :=
  setDoor_self s c _

/-- The end of a standing trouble of the circuit raises TROUBLE (R134). -/
theorem raised_trouble_faultCleared (hl : s.load = none) (h : latchTrouble s c = true ∨ openTrouble s c = true) :
    Raised .trouble s (doorNotices s (withFaultCleared c s)) := by
  obtain ⟨hlatch, hopen⟩ := faultCleared_trouble (withFaultCleared_self c s)
  refine raised_trouble_doorNotices hl rfl c ?_
  rw [hlatch, hopen, Bool.ne_false_iff, Bool.ne_false_iff]
  exact h

/-- What an accepted CLEAR DOOR FAULT leaves. -/
theorem withFaultCleared_answered (s : State) (p : Fin 4) (i : Instr) (c : Fin 32) (hl : s.load = none) :
    let t := setResult p .ok (doorNotices (opened p i s) (withFaultCleared c (opened p i s)))
    Accepted p s t ∧
      t = { s with doors := s.doors.set c (faultCleared s c), regime := t.regime, ports := t.ports } ∧
      t.regime = { s.regime with trouble := { s.regime.trouble with doors := t.regime.trouble.doors } } ∧
      latchTrouble t c = false ∧ openTrouble t c = false ∧
      (latchTrouble s c = true ∨ openTrouble s c = true → Raised .trouble s t) ∧
      (s.doors[c].trips ≠ 0 ∨ s.doors[c].state = .latchedOff → Raised .door s t) := by
  obtain ⟨haccepted, hframe, hregime, hnoticed⟩ :=
    doorNotices_answered (s := s) (p := p) (i := i) (w := withFaultCleared c (opened p i s)) rfl rfl rfl rfl
  have hdoor : (setResult p .ok (doorNotices (opened p i s) (withFaultCleared c (opened p i s)))).doors[c] =
      faultCleared s c := by
    rw [hframe]
    exact withFaultCleared_self c (opened p i s)
  obtain ⟨hlatch, hopen⟩ := faultCleared_trouble hdoor
  refine ⟨haccepted, hframe, hregime, hlatch, hopen, fun h => ?_, fun h => hnoticed hl (.inr ⟨c, ?_⟩)⟩
  · exact Raised.setResult (s := s) (raised_trouble_faultCleared (s := opened p i s) hl h) p .ok
  · rw [hdoor]
    obtain h | h := h
    · exact .inr h.symm
    · exact .inl fun e => faultCleared_state s c (e.trans h)

end

/-- Settles O45: CONTROL, then the argument decide; an accepted command replaces its circuit, which ends the circuit's
standing troubles. -/
theorem doorFaultIsCleared : Obligations.DoorFaultIsCleared := by
  intro s p b hh
  refine ⟨_, rfl, controlled_command hh fun hc => ?_⟩
  cases hb : argIndex 32 b with
  | none => exact controlled_refused hc (clearDoorFaultBody_unknown hb)
  | some c =>
    dsimp only
    split
    · next hp => exact controlled_refused hc (clearDoorFaultBody_absent hb hp)
    · next hp =>
      rw [Bool.not_eq_false] at hp
      rw [controlled_accepted hc (clearDoorFaultBody_accepted hb hp)]
      exact withFaultCleared_answered s p _ c hc.1.1

end Sys2Proof.Machine
end

section
/-! SUPPORT. DOOR OVERRIDE (O44). -/

namespace Sys2Proof.Machine

/-! ## A group whose demand is judged (R115 to R117) -/

/-- A group with demand: RELEASED, out of the queue and its members de-energised if it was not so before. -/
structure GroupReleased (g : Fin 16) (s t : State) : Prop where
  state : t.dgroups[g].state = .released
  stays : s.dgroups[g].state = .released → t.resecure = s.resecure ∧ t.doors = s.doors
  leaves : s.dgroups[g].state ≠ .released → g ∉ t.resecure ∧
    ∀ c : Fin 32, memberOf s g c = true → t.doors[c].state = .off ∨ t.doors[c].state = .latchedOff

/-- A group without demand: at the tail of the queue if it was RELEASED, and otherwise as it was. -/
structure GroupQueued (g : Fin 16) (s t : State) : Prop where
  doors : t.doors = s.doors
  joins : s.dgroups[g].state = .released →
    t.dgroups[g].state = .resecureWait ∧ t.resecure = s.resecure ++ [g] ∧ t.stagger = some (s.stagger.getD 2000)
  stays : s.dgroups[g].state ≠ .released →
    t.dgroups[g].state = s.dgroups[g].state ∧ t.resecure = s.resecure ∧ t.stagger = s.stagger

section
variable {s t u : State} {g : Fin 16} {x : Override}

theorem releaseDoor_state (d : Door) : (releaseDoor d).state = .off ∨ (releaseDoor d).state = .latchedOff := by
  unfold releaseDoor
  split <;> simp_all

theorem groupReleased_judgeDemand (hp : s.config.dgroups[g].present = true) (hd : demand s g = true) :
    GroupReleased g s (judgeDemand s g) := by
  by_cases hr : s.dgroups[g].state = .released
  · have hsame : judgeDemand s g = s := by rw [judgeDemand, if_pos hp, if_pos hd, if_pos hr]
    rw [hsame]
    exact ⟨hr, fun _ => ⟨rfl, rfl⟩, fun h => absurd hr h⟩
  · have hrise : judgeDemand s g = releaseGroup g s := by rw [judgeDemand, if_pos hp, if_pos hd, if_neg hr]
    rw [hrise]
    refine ⟨by rw [releaseGroup_state, if_pos rfl], fun h => absurd h hr, fun _ => ⟨?_, fun c hm => ?_⟩⟩
    · simp [releaseGroup]
    · rw [releaseGroup_door, if_pos hm]
      exact releaseDoor_state _

theorem groupQueued_judgeDemand (hp : s.config.dgroups[g].present = true) (hn : ¬ demand s g = true) :
    GroupQueued g s (judgeDemand s g) := by
  by_cases hr : s.dgroups[g].state = .released
  · have hfall : judgeDemand s g = joinQueue g s := by rw [judgeDemand, if_pos hp, if_neg hn, if_pos hr]
    rw [hfall]
    exact ⟨rfl, fun _ => ⟨by rw [joinQueue_state, if_pos rfl], rfl, rfl⟩, fun h => absurd hr h⟩
  · have hsame : judgeDemand s g = s := by rw [judgeDemand, if_pos hp, if_neg hn, if_neg hr]
    rw [hsame]
    exact ⟨rfl, fun h => absurd h hr, fun _ => ⟨rfl, rfl, rfl⟩⟩

theorem judgeDemand_dgroup_other {k : Fin 16} (hk : k ≠ g) : (judgeDemand s g).dgroups[k] = s.dgroups[k] := by
  obtain h | h | h := judgeDemand_cases s g <;> rw [h]
  all_goals exact (getElem_set_fin ..).trans (if_neg hk)

theorem judgeDemand_eq_with (s : State) (g : Fin 16) :
    judgeDemand s g =
      { s with
        doors := (judgeDemand s g).doors, dgroups := (judgeDemand s g).dgroups
        resecure := (judgeDemand s g).resecure, stagger := (judgeDemand s g).stagger } := by
  obtain h | h | h := judgeDemand_cases s g <;> rw [h] <;> rfl

/-! ## A group with a new override (R130) -/

/-- The part with a group's override set, before its demand is judged. -/
def overridden (g : Fin 16) (x : Override) (s : State) : State :=
  s.setDGroup g { s.dgroups[g] with override := x }

theorem overrideGroup_again (h : s.dgroups[g].override = x) : overrideGroup g x s = s := if_pos h

theorem overrideGroup_new (h : s.dgroups[g].override ≠ x) :
    overrideGroup g x s = doorNotices s (judgeDemand (overridden g x s) g) := if_neg h

theorem overridden_self : (overridden g x s).dgroups[g] = { s.dgroups[g] with override := x } := setDGroup_self s g _

theorem memberEvacuates_iff (s : State) (g : Fin 16) :
    memberEvacuates s g = true ↔
      ∃ c : Fin 32, s.config.doors[c].present = true ∧ s.config.doors[c].group = g ∧
        s.present s.config.doors[c].floor = true ∧ s.floors[s.config.doors[c].floor].status = .evacuate := by
  simp only [memberEvacuates, List.any_eq_true, List.mem_finRange, true_and, Bool.and_eq_true, memberOf_iff, beq_iff_eq,
    and_assoc]

/-- A group whose override is set has demand under FORCE_RELEASE, and in AUTO as its policy gives it (R115). -/
theorem demand_overridden (hp : s.config.dgroups[g].present = true) :
    demand (overridden g x s) g = true ↔ x = .forceRelease ∨ x = .auto ∧ AutoDemand s g := by
  have hm : memberEvacuates (overridden g x s) g = memberEvacuates s g := rfl
  have hconfig : (overridden g x s).config.dgroups[g] = s.config.dgroups[g] := rfl
  have hregime : (overridden g x s).regime = s.regime := rfl
  rw [demand, hm, hconfig, hregime, hp, overridden_self, Bool.true_and]
  cases x with
  | forceRelease | forceSecure => simp
  | auto =>
    rw [AutoDemand, ← memberEvacuates_iff]
    cases s.config.dgroups[g].policy <;> simp

/-- What DOOR OVERRIDE leaves where the override of group `g` changes to `x`. -/
structure OverrideSet (g : Fin 16) (x : Override) (s t : State) : Prop where
  frame : t = { s with
    doors := t.doors, dgroups := t.dgroups, resecure := t.resecure, stagger := t.stagger, regime := t.regime
    ports := t.ports }
  override : t.dgroups[g].override = x
  others : ∀ k : Fin 16, k ≠ g → t.dgroups[k] = s.dgroups[k]
  released : x = .forceRelease ∨ x = .auto ∧ AutoDemand s g → GroupReleased g s t
  queued : ¬(x = .forceRelease ∨ x = .auto ∧ AutoDemand s g) → GroupQueued g s t

/-- The demand of the group alone is judged, on its new override. -/
theorem overrideSet_judgeDemand (hp : s.config.dgroups[g].present = true) :
    OverrideSet g x s (judgeDemand (overridden g x s) g) where
  frame := by rw [judgeDemand_eq_with]; rfl
  override := by rw [judgeDemand_override, overridden_self]
  others k hk := (judgeDemand_dgroup_other hk).trans (setDGroup_other s g _ k hk)
  released h := by
    obtain ⟨hstate, hstays, hleaves⟩ :=
      groupReleased_judgeDemand (s := overridden g x s) hp ((demand_overridden hp).mpr h)
    rw [overridden_self] at hstays hleaves
    exact ⟨hstate, hstays, hleaves⟩
  queued h := by
    obtain ⟨hdoors, hjoins, hstays⟩ :=
      groupQueued_judgeDemand (s := overridden g x s) hp (mt (demand_overridden hp).mp h)
    rw [overridden_self] at hjoins hstays
    exact ⟨hdoors, hjoins, hstays⟩

/-- The regime record and the ports, the sender's among them, are not of the override. -/
theorem OverrideSet.answered {p : Fin 4} {i : Instr} (h : OverrideSet g x (opened p i s) u)
    (ht : t = { u with regime := t.regime, ports := t.ports }) : OverrideSet g x s t where
  frame := by rw [ht, h.frame]; rfl
  override := by rw [ht]; exact h.override
  others k hk := by rw [ht]; exact h.others k hk
  released hx := by
    obtain ⟨hstate, hstays, hleaves⟩ := h.released hx
    rw [ht]
    exact ⟨hstate, hstays, hleaves⟩
  queued hx := by
    obtain ⟨hdoors, hjoins, hstays⟩ := h.queued hx
    rw [ht]
    exact ⟨hdoors, hjoins, hstays⟩

end

/-! ## The command (R130) -/

section
variable {s : State} {p : Fin 4} {i : Instr} {b o : Byte} {g : Fin 16} {x : Override}

theorem doorOverrideBody_unknown (h : argIndex 16 b = none ∨ argIn Override.list o = none) :
    doorOverrideBody b o s = refuse .range s := by
  unfold doorOverrideBody
  split
  · next hb ho => simp [hb, ho] at h
  · rfl

theorem doorOverrideBody_absent (hb : argIndex 16 b = some g) (ho : argIn Override.list o = some x)
    (hp : s.config.dgroups[g].present = false) : doorOverrideBody b o s = refuse .range s := by
  simp only [doorOverrideBody, hb, ho, hp, Bool.false_eq_true, if_false]

theorem doorOverrideBody_outside_quiet (hb : argIndex 16 b = some g) (ho : argIn Override.list o = some x)
    (hp : s.config.dgroups[g].present = true) (hx : x = .forceSecure ∧ s.regime.state ≠ .quiet) :
    doorOverrideBody b o s = refuse .state s := by
  simp only [doorOverrideBody, hb, ho, hp, if_true, if_pos hx]

theorem doorOverrideBody_accepted (hb : argIndex 16 b = some g) (ho : argIn Override.list o = some x)
    (hp : s.config.dgroups[g].present = true) (hx : ¬(x = .forceSecure ∧ s.regime.state ≠ .quiet)) :
    doorOverrideBody b o s = accept (overrideGroup g x s) := by
  simp only [doorOverrideBody, hb, ho, hp, if_true, if_neg hx]

/-- What an accepted DOOR OVERRIDE leaves where it changes the override. -/
theorem overridden_answered (hp : s.config.dgroups[g].present = true) (hx : s.dgroups[g].override ≠ x)
    (hl : s.load = none) :
    let t := setResult p .ok (overrideGroup g x (opened p i s))
    Accepted p s t ∧ OverrideSet g x s t ∧
      t.regime = { s.regime with trouble := { s.regime.trouble with doors := t.regime.trouble.doors } } ∧
      Raised .door s t := by
  have hnew : overrideGroup g x (opened p i s) =
      doorNotices (opened p i s) (judgeDemand (overridden g x (opened p i s)) g) := overrideGroup_new hx
  obtain ⟨haccepted, hframe, hregime, hnoticed⟩ := doorNotices_answered (s := s) (p := p) (i := i)
    (w := judgeDemand (overridden g x (opened p i s)) g) (by simp [overridden, opened]) (by simp [overridden, opened])
    (by simp [overridden, opened]) (by simp [overridden])
  have hset : OverrideSet g x s (setResult p .ok (overrideGroup g x (opened p i s))) := by
    rw [hnew]
    exact OverrideSet.answered (overrideSet_judgeDemand hp) hframe
  rw [hnew] at hset ⊢
  exact ⟨haccepted, hset, hregime, hnoticed hl (.inl ⟨g, .inl fun e => hx (e.symm.trans hset.override)⟩)⟩

end

/-- Settles O44: the arguments, then the regime decide whether the override is taken; one that changes judges the demand
of its group alone. -/
theorem doorOverrideIsSet : Obligations.DoorOverrideIsSet := by
  intro s p b o hc
  have hl : s.load = none := hc.1.1
  refine ⟨_, rfl, ?_⟩
  split
  · next g x hb ho =>
    split
    · next hp => exact controlled_refused hc (doorOverrideBody_absent hb ho hp)
    · next hp =>
      rw [Bool.not_eq_false] at hp
      split
      · next hx => exact controlled_refused hc (doorOverrideBody_outside_quiet hb ho hp hx)
      · next hx =>
        rw [controlled_accepted hc (doorOverrideBody_accepted hb ho hp hx)]
        by_cases hsame : s.dgroups[g].override = x
        · have hagain : overrideGroup g x (opened p (.doorOverride p b o) s) = opened p (.doorOverride p b o) s :=
            overrideGroup_again hsame
          rw [hagain]
          exact ⟨accepted_setResult (.refl _), hsame, rfl, rfl, fun _ _ => rfl, fun _ => rfl,
            fun h => absurd hsame h⟩
        · obtain ⟨haccepted, hset, hregime, hdoor⟩ :=
            overridden_answered (p := p) (i := .doorOverride p b o) hp hsame hl
          refine ⟨haccepted, hset.override, hset.frame, hregime, hset.others, fun h => absurd h hsame,
            fun _ => ⟨hdoor, fun hx => ?_, fun hx => ?_, fun hx hd => ?_, fun hx hd => ?_⟩⟩
          · have hr := hset.released (.inl hx)
            exact ⟨hr.state, hr.leaves⟩
          · subst hx
            obtain ⟨-, hjoins, -⟩ := hset.queued (by simp)
            intro hr
            obtain ⟨hstate, hqueue, -⟩ := hjoins hr
            exact ⟨hstate, hqueue⟩
          · have hr := hset.released (.inr ⟨hx, hd⟩)
            exact ⟨hr.state, hr.stays, hr.leaves⟩
          · subst hx
            obtain ⟨hdoors, hjoins, hstays⟩ := hset.queued (by simp [hd])
            refine ⟨hdoors, ?_⟩
            split
            · next hr => exact hjoins hr
            · next hr => exact hstays hr
  · next hne =>
    refine controlled_refused hc (doorOverrideBody_unknown ?_)
    by_contra hsome
    obtain ⟨hb, ho⟩ := not_or.mp hsome
    obtain ⟨g, hb⟩ := Option.ne_none_iff_exists'.mp hb
    obtain ⟨x, ho⟩ := Option.ne_none_iff_exists'.mp ho
    exact hne g x hb ho

end Sys2Proof.Machine
end

section
/-! SUPPORT. What a step leaves to the announcement router: the steps of every other unit keep what the router reads. -/

namespace Sys2Proof.Machine

/-! ## The relations -/

/-- The load, the configuration, the queue, the channels, the routing chain and every floor's routed channel are as they
were. -/
structure SpeakersKept (s t : State) : Prop where
  load : t.load = s.load
  config : t.config = s.config
  routed : ∀ f : Fin 48, t.floors[f].routed = s.floors[f].routed
  entries : t.entries = s.entries
  channels : t.channels = s.channels
  chain : t.chain = s.chain

/-- The regime has its entries in the queue: it is ACTIVE and not silenced (R146, R160). -/
def Speaking (s : State) : Prop := s.regime.state = .active ∧ s.regime.silenced = false

/-- Moreover what the router reads of the regime record and of the floor table is as it was (R144, R146, R147). -/
structure RouterKept (s t : State) : Prop extends SpeakersKept s t where
  speaking : Speaking t ↔ Speaking s
  status : ∀ f : Fin 48, t.floors[f].status = s.floors[f].status

section
variable {s t u : State}

theorem speakersKept_iff :
    SpeakersKept s t ↔
      t.load = s.load ∧ t.config = s.config ∧ (∀ f : Fin 48, t.floors[f].routed = s.floors[f].routed) ∧
        t.entries = s.entries ∧ t.channels = s.channels ∧ t.chain = s.chain :=
  ⟨fun ⟨hl, hc, hr, he, hn, hx⟩ => ⟨hl, hc, hr, he, hn, hx⟩, fun ⟨hl, hc, hr, he, hn, hx⟩ => ⟨hl, hc, hr, he, hn, hx⟩⟩

@[simp] theorem SpeakersKept.refl (s : State) : SpeakersKept s s := ⟨rfl, rfl, fun _ => rfl, rfl, rfl, rfl⟩

theorem SpeakersKept.trans (h : SpeakersKept s t) (k : SpeakersKept t u) : SpeakersKept s u where
  load := k.load.trans h.load
  config := k.config.trans h.config
  routed f := (k.routed f).trans (h.routed f)
  entries := k.entries.trans h.entries
  channels := k.channels.trans h.channels
  chain := k.chain.trans h.chain

/-- An event that takes effect only on a condition. -/
theorem SpeakersKept.ite {c : Prop} [Decidable c] (h : SpeakersKept s t) : SpeakersKept s (if c then t else s) := by
  split
  · exact h
  · exact .refl s

theorem SpeakersKept.present (h : SpeakersKept s t) (f : Nat) : t.present f = s.present f := by
  simp only [State.present, h.config]

theorem SpeakersKept.pattern (h : SpeakersKept s t) : pattern t = pattern s :=
  congrArg tabulate (funext fun f => by rw [h.present, h.routed])

theorem speaking_congr (hs : t.regime.state = s.regime.state) (hq : t.regime.silenced = s.regime.silenced) :
    Speaking t ↔ Speaking s := by
  simp only [Speaking, hs, hq]

@[simp] theorem RouterKept.refl (s : State) : RouterKept s s := ⟨.refl s, Iff.rfl, fun _ => rfl⟩

theorem RouterKept.trans (h : RouterKept s t) (k : RouterKept t u) : RouterKept s u where
  toSpeakersKept := h.toSpeakersKept.trans k.toSpeakersKept
  speaking := k.speaking.trans h.speaking
  status f := (k.status f).trans (h.status f)

/-- The ports, the counter of free values and the steps that wait bear on none of it. -/
theorem routerKept_of_frame (h : t = { s with ports := t.ports, free := t.free, pending := t.pending }) :
    RouterKept s t := by
  rw [h]
  exact ⟨⟨rfl, rfl, fun _ => rfl, rfl, rfl, rfl⟩, Iff.rfl, fun _ => rfl⟩

/-- An event of one unit reads and writes nothing of the regime and of the statuses. -/
theorem SpeakersKept.router (h : SpeakersKept s t) (k : UnitEvent s t) : RouterKept s t where
  toSpeakersKept := h
  speaking := speaking_congr (by rw [k.regime]) (by rw [k.regime])
  status := k.status

theorem speakersKept_command {p : Fin 4} {bytes : List Byte} {body : State → State × Result}
    (h : ∀ u, SpeakersKept u (body u).1) : SpeakersKept s (command p bytes body s) :=
  command_preserves (fun k => k.trans (by simp [speakersKept_iff])) (fun u k => k.trans (h u))
    (fun _ _ k => k.trans (by simp [speakersKept_iff])) (.refl s)

theorem speakersKept_afterLoad {body : State → State × Result} (h : ∀ u, SpeakersKept u (body u).1) (s : State) :
    SpeakersKept s (afterLoad body s).1 :=
  afterLoad_preserves (fun _ => h s) (.refl s)

theorem speakersKept_controlled {p : Fin 4} {body : State → State × Result} (h : ∀ u, SpeakersKept u (body u).1)
    (s : State) : SpeakersKept s (controlled p body s).1 :=
  controlled_preserves (fun _ => h s) (.refl s)

end

/-! ## The other units' work -/

/-- A change of a line counts in its floor, and routes no floor anew (R70, R71). -/
@[simp] theorem speakersKept_changeLine (i : Fin 64) (l : Line) (s : State) : SpeakersKept s (changeLine i l s) where
  load := by simp
  config := by simp
  routed f := by
    rw [changeLine_floors, getElem_set_fin]
    split
    · next e => subst e; rfl
    · rfl
  entries := by simp
  channels := by simp
  chain := by simp

theorem deriveFloors_routed (s : State) (f : Fin 48) : (deriveFloors s).floors[f].routed = s.floors[f].routed := by
  have hf : (deriveFloors s).floors[f] = if s.present f then
      deriveFloor s.regime s.config.system.alertMargin (ringOf (fireFloors s) f) s.floors[f] else s.floors[f] :=
    getElem_tabulate _ _ _
  rw [hf]
  split <;> rfl

/-- The floor table, the lifts and the doors act at an event before the router does. -/
theorem speakersKept_units (s0 s : State) :
    SpeakersKept s (doorSettle s0 (liftSettle s0 (floorSettle s0 s))) where
  load := by simp
  config := by simp
  routed f := by
    have hf : (doorSettle s0 (liftSettle s0 (floorSettle s0 s))).floors = (deriveFloors s).floors := by
      simp [floorSettle_floors]
    rw [hf, deriveFloors_routed]
  entries := by simp
  channels := by simp
  chain := by simp

/-! ## The commands' own rules -/

theorem takeControlBody_keeps_speakers {p : Fin 4} (s : State) : SpeakersKept s (takeControlBody p s).1 := by
  unfold takeControlBody
  (repeat' split) <;> simp [speakersKept_iff]

theorem releaseControlBody_keeps_speakers (s : State) : SpeakersKept s (releaseControlBody s).1 := by
  simp [releaseControlBody, speakersKept_iff]

theorem spreadHoldBody_keeps_speakers (s : State) : SpeakersKept s (spreadHoldBody s).1 := by
  unfold spreadHoldBody
  (repeat' split) <;> simp [speakersKept_iff]

theorem spreadResumeBody_keeps_speakers (s : State) : SpeakersKept s (spreadResumeBody s).1 := by
  unfold spreadResumeBody
  split <;> simp [speakersKept_iff]

theorem isolateLineBody_keeps_speakers {b : Byte} (s : State) : SpeakersKept s (isolateLineBody b s).1 := by
  have hg (i : Fin 64) (l : Line) (g : Fin 8) (x : PGroup) : SpeakersKept s (changeLine i l (s.setPGroup g x)) :=
    { speakersKept_changeLine i l (s.setPGroup g x) with }
  unfold isolateLineBody
  (repeat' split) <;> simp [hg]

theorem restoreLineBody_keeps_speakers {b : Byte} (s : State) : SpeakersKept s (restoreLineBody b s).1 := by
  unfold restoreLineBody
  (repeat' split) <;> simp

theorem recallGroupBody_keeps_speakers {b : Byte} (s : State) : SpeakersKept s (recallGroupBody b s).1 := by
  unfold recallGroupBody
  (repeat' split) <;> simp [speakersKept_iff]

theorem releaseGroupBody_keeps_speakers {b : Byte} (s : State) : SpeakersKept s (releaseGroupBody b s).1 := by
  unfold releaseGroupBody
  (repeat' split) <;> simp [speakersKept_iff]

theorem carReportBody_keeps_speakers {p : Fin 4} {c x m d v : Byte} (s : State) :
    SpeakersKept s (carReportBody p c x m d v s).1 := by
  unfold carReportBody
  dsimp only
  (repeat' split) <;> simp [speakersKept_iff, takeReport]

theorem doorOverrideBody_keeps_speakers {g o : Byte} (s : State) : SpeakersKept s (doorOverrideBody g o s).1 := by
  unfold doorOverrideBody overrideGroup
  (repeat' split) <;> simp [speakersKept_iff]

theorem clearDoorFaultBody_keeps_speakers {c : Byte} (s : State) : SpeakersKept s (clearDoorFaultBody c s).1 := by
  unfold clearDoorFaultBody
  (repeat' split) <;> simp [speakersKept_iff]

theorem storeWriteBody_keeps_speakers {p : Fin 4} {k n e : Byte} {im : Image} (s : State) :
    SpeakersKept s (storeWriteBody p k n e im s).1 := by
  unfold storeWriteBody storeWriteRecord
  (repeat' split) <;> simp [speakersKept_iff]

theorem checkConfigBody_keeps_speakers {p : Fin 4} (s : State) : SpeakersKept s (checkConfigBody p s).1 := by
  unfold checkConfigBody
  (repeat' split) <;> simp [speakersKept_iff]

theorem selectBody_keeps_speakers {p : Fin 4} {t r f : Byte} (s : State) : SpeakersKept s (selectBody p t r f s).1 := by
  unfold selectBody
  (repeat' split) <;> simp [speakersKept_iff]

theorem windowBody_keeps_speakers {p : Fin 4} {fr lr ff lf o : Byte} (s : State) :
    SpeakersKept s (windowBody p fr lr ff lf o s).1 := by
  unfold windowBody
  (repeat' split) <;> simp [speakersKept_iff]

theorem maskBody_keeps_speakers {p : Fin 4} {w : Word} (s : State) : SpeakersKept s (maskBody p w s).1 := by
  unfold maskBody
  split <;> simp [speakersKept_iff]

theorem setPort_keeps_speakers (s : State) (p : Fin 4) (c : Port) : SpeakersKept s (s.setPort p c) := by
  simp [speakersKept_iff]

/-! ## The steps -/

/-- The router's own steps, those after which every unit acts, and those that begin and end the load. -/
def routerActs : Instr → Bool
  | .powerOnReset | .startUpLoadEnd | .restart _ => true
  | .zoneLineSlotCompletion .. | .retardExpiry _ | .resetRegime _ => true
  | .holdTimerExpiry | .spreadExpiry | .acknowledge _ | .evacuateAll _ | .silence _ | .resound _ => true
  | .stopTimerExpiry _ | .playTimerExpiry _ | .chainRefreshExpiry | .routingShiftComplete => true
  | .postAnnouncement .. | .cancelAnnouncement .. | .playEnd .. => true
  | _ => false

theorem exec_keeps_speakers {i : Instr} {s t : State} (hi : routerActs i = false) (h : exec i s = .next t) :
    SpeakersKept s t := by
  cases i with
  | powerOnReset | startUpLoadEnd | restart | zoneLineSlotCompletion | retardExpiry | resetRegime | holdTimerExpiry
  | spreadExpiry | acknowledge | evacuateAll | silence | resound | stopTimerExpiry | playTimerExpiry
  | chainRefreshExpiry | routingShiftComplete | postAnnouncement | cancelAnnouncement | playEnd => cases hi
  | resetExpiry | settleExpiry | silenceInhibitExpiry | frameBegin | carReportTimeout | openWaitExpiry
  | coolDownExpiry => exact of_next h (.ite (by simp [speakersKept_iff]))
  | windowExpiry g =>
    have hg : SpeakersKept s (s.setPGroup g groupIdle) := by simp [speakersKept_iff]
    exact of_next h (.ite (hg.trans
      (foldl_relates .refl .trans (fun u i => .ite (speakersKept_changeLine ..)) _ _)))
  | doorSenseSlotCompletion =>
    refine of_next h (.ite ?_)
    dsimp only
    split <;> simp [speakersKept_iff]
  | staggerExpiry =>
    refine of_next h (.ite ?_)
    split <;> simp [speakersKept_iff]
  | storeWriteCompletion =>
    refine of_next h ?_
    split
    · exact .refl s
    · exact .ite (by simp [speakersKept_iff])
  | enableInputDrop =>
    refine of_next h ?_
    split <;> simp [speakersKept_iff]
  | enableInputAssert | frameEnd => exact of_next h (by simp [speakersKept_iff])
  | unknownCommand =>
    refine of_next h ?_
    split
    · exact .refl s
    · exact speakersKept_command .refl
  | portReset =>
    refine of_next h ?_
    dsimp only
    split <;> simp [speakersKept_iff]
  | readWordShifted =>
    refine of_next h ?_
    split <;> simp [speakersKept_iff]
  | noticesReplyComplete =>
    refine of_next h ?_
    split <;> simp [speakersKept_iff]
  | select => exact of_next h (speakersKept_command selectBody_keeps_speakers)
  | window => exact of_next h (speakersKept_command windowBody_keeps_speakers)
  | read | status => exact of_next h (speakersKept_command fun u => setPort_keeps_speakers u _ _)
  | notices => exact of_next h (speakersKept_command (speakersKept_afterLoad fun u => setPort_keeps_speakers u _ _))
  | mask => exact of_next h (speakersKept_command (speakersKept_afterLoad maskBody_keeps_speakers))
  | takeControl => exact of_next h (speakersKept_command (speakersKept_afterLoad takeControlBody_keeps_speakers))
  | carReport => exact of_next h (speakersKept_command (speakersKept_afterLoad carReportBody_keeps_speakers))
  | storeWrite => exact of_next h (speakersKept_command (speakersKept_afterLoad storeWriteBody_keeps_speakers))
  | checkConfig => exact of_next h (speakersKept_command (speakersKept_afterLoad checkConfigBody_keeps_speakers))
  | releaseControl => exact of_next h (speakersKept_command (speakersKept_controlled releaseControlBody_keeps_speakers))
  | spreadHold => exact of_next h (speakersKept_command (speakersKept_controlled spreadHoldBody_keeps_speakers))
  | spreadResume => exact of_next h (speakersKept_command (speakersKept_controlled spreadResumeBody_keeps_speakers))
  | isolateLine => exact of_next h (speakersKept_command (speakersKept_controlled isolateLineBody_keeps_speakers))
  | restoreLine => exact of_next h (speakersKept_command (speakersKept_controlled restoreLineBody_keeps_speakers))
  | recallGroup => exact of_next h (speakersKept_command (speakersKept_controlled recallGroupBody_keeps_speakers))
  | releaseGroup => exact of_next h (speakersKept_command (speakersKept_controlled releaseGroupBody_keeps_speakers))
  | doorOverride => exact of_next h (speakersKept_command (speakersKept_controlled doorOverrideBody_keeps_speakers))
  | clearDoorFault => exact of_next h (speakersKept_command (speakersKept_controlled clearDoorFaultBody_keeps_speakers))

/-- A step that silences nothing and resounds nothing. -/
def SilenceKept (s t : State) : Prop := t.regime.silenced = s.regime.silenced

theorem SilenceKept.ite {c : Prop} [Decidable c] {s t : State} (h : SilenceKept s t) :
    SilenceKept s (if c then t else s) := by
  split
  · exact h
  · rfl

theorem silenceKept_command {p : Fin 4} {bytes : List Byte} {body : State → State × Result} {s : State}
    (h : ∀ u, SilenceKept u (body u).1) : SilenceKept s (command p bytes body s) :=
  command_preserves (P := SilenceKept s) id (fun u k => (h u).trans k) (fun _ _ => id) rfl

theorem silenceKept_afterLoad {body : State → State × Result} (h : ∀ u, SilenceKept u (body u).1) (s : State) :
    SilenceKept s (afterLoad body s).1 :=
  afterLoad_preserves (P := SilenceKept s) (fun _ => h s) rfl

theorem silenceKept_controlled {p : Fin 4} {body : State → State × Result} (h : ∀ u, SilenceKept u (body u).1)
    (s : State) : SilenceKept s (controlled p body s).1 :=
  controlled_preserves (P := SilenceKept s) (fun _ => h s) rfl

theorem silenced_doorNotices (s0 s : State) : (doorNotices s0 s).regime.silenced = s.regime.silenced := by
  rw [doorNotices_regime]

/-- Every step of another unit keeps what the router reads. -/
theorem exec_keeps_router {i : Instr} {s t : State} (hi : routerActs i = false) (h : exec i s = .next t) :
    RouterKept s t := by
  have hkept := exec_keeps_speakers hi h
  cases hr : regimeActs i with
  | false => exact hkept.router (exec_unitEvent hr h)
  | true =>
    have kept (hl : liftActs i = false) (hf : floorActs i = false) (hs : SilenceKept s t) : RouterKept s t :=
      ⟨hkept, speaking_congr (exec_keeps_state hl h) hs, fun f => ((exec_keeps_floors hf h).derived f).2⟩
    cases i with
    | powerOnReset | startUpLoadEnd | restart | zoneLineSlotCompletion | retardExpiry | resetRegime
    | holdTimerExpiry | spreadExpiry | acknowledge | evacuateAll | silence | resound => cases hi
    | silenceInhibitExpiry =>
      exact kept rfl rfl (of_next h (.ite rfl))
    | portReset =>
      refine kept rfl rfl (of_next h ?_)
      dsimp only
      split <;> exact rfl
    | staggerExpiry =>
      refine kept rfl rfl (of_next h (.ite ?_))
      split
      · exact rfl
      · simp [SilenceKept, silenced_doorNotices]
    | takeControl =>
      refine kept rfl rfl (of_next h (silenceKept_command (silenceKept_afterLoad fun u => ?_)))
      unfold takeControlBody
      (repeat' split) <;> simp [SilenceKept, setHolder]
    | releaseControl =>
      exact kept rfl rfl (of_next h (silenceKept_command (silenceKept_controlled fun _ => rfl)))
    | spreadHold =>
      refine kept rfl rfl (of_next h (silenceKept_command (silenceKept_controlled fun u => ?_)))
      unfold spreadHoldBody
      (repeat' split) <;> simp [SilenceKept]
    | spreadResume =>
      refine kept rfl rfl (of_next h (silenceKept_command (silenceKept_controlled fun u => ?_)))
      unfold spreadResumeBody
      split <;> simp [SilenceKept]
    | doorOverride =>
      refine kept rfl rfl (of_next h (silenceKept_command (silenceKept_controlled fun u => ?_)))
      unfold doorOverrideBody overrideGroup
      (repeat' split) <;> simp [SilenceKept, silenced_doorNotices]
    | _ => cases hr

end Sys2Proof.Machine
end

section
/-! SUPPORT. The operations of the announcement router: what each leaves of an entry and of a channel. -/

namespace Sys2Proof.Machine

/-! ## Removal of an entry (R142, R149, R159) -/

/-- An entry after one of age `age` has left the queue: a younger one closes the gap (R142). -/
def closeGap (age : Nat) (e : Entry) : Entry := if age < e.age then { e with age := e.age - 1 } else e

theorem closeGap_eq_with (age : Nat) (e : Entry) : closeGap age e = { e with age := (closeGap age e).age } := by
  unfold closeGap
  split <;> rfl

theorem withoutSlot_entry (es : Vector (Option Entry) 16) (sl k : Fin 16) (age : Nat) :
    (withoutSlot es sl age)[k] = if k = sl then none else es[k].map (closeGap age) :=
  getElem_tabulate _ _ _

section
variable {s : State} {sl k : Fin 16} {e : Entry} {c : Fin 4}

theorem removeEntry_of_empty (h : s.entries[sl] = none) : removeEntry sl s = s := by
  simp only [removeEntry, h]

theorem removeEntry_of_waiting (he : s.entries[sl] = some e) (hc : e.channel = none) :
    removeEntry sl s = { s with entries := withoutSlot s.entries sl e.age } := by
  simp only [removeEntry, he, hc]

theorem removeEntry_of_playing (he : s.entries[sl] = some e) (hc : e.channel = some c) :
    removeEntry sl s =
      State.setChannel { s with entries := withoutSlot s.entries sl e.age } c (toStopping s.channels[c]) := by
  simp only [removeEntry, he, hc]

theorem removeEntry_entries (he : s.entries[sl] = some e) :
    (removeEntry sl s).entries = withoutSlot s.entries sl e.age := by
  cases hc : e.channel with
  | none => rw [removeEntry_of_waiting he hc]
  | some c => rw [removeEntry_of_playing he hc]; rfl

theorem removeEntry_entry (he : s.entries[sl] = some e) :
    (removeEntry sl s).entries[k] = if k = sl then none else s.entries[k].map (closeGap e.age) := by
  rw [removeEntry_entries he, withoutSlot_entry]

/-! ## A play counted (R153, R157) -/

theorem countPlay_of_none (h : s.channels[c].entry = none) : countPlay c s = s := by
  simp only [countPlay, h]

theorem countPlay_of_empty (hn : s.channels[c].entry = some sl) (he : s.entries[sl] = none) : countPlay c s = s := by
  simp only [countPlay, hn, he]

/-- The last play of an entry removes it, and its channel goes to IDLE. -/
theorem countPlay_last (hn : s.channels[c].entry = some sl) (he : s.entries[sl] = some e)
    (hr : reachedRepeat (playedOnce e) = true) :
    countPlay c s =
      State.setChannel { s with entries := withoutSlot s.entries sl e.age } c (toIdle s.channels[c]) := by
  simp only [countPlay, hn, he, hr, if_true]

/-- Any other play restarts the play timer. -/
theorem countPlay_again (hn : s.channels[c].entry = some sl) (he : s.entries[sl] = some e)
    (hr : reachedRepeat (playedOnce e) = false) :
    countPlay c s =
      State.setChannel { s with entries := s.entries.set sl (some (playedOnce e)) } c
        { s.channels[c] with play := some (playTime s) } := by
  simp only [countPlay, hn, he, hr, Bool.false_eq_true, if_false]

theorem setLapse_channel (s : State) (c d : Fin 4) (b : Bool) :
    (setLapse c b s).channels[d] = if d = c then { s.channels[c] with lapse := b } else s.channels[d] := by
  rw [setLapse, setChannel_channels, getElem_set_fin]

theorem setLapse_entry (s : State) (c d : Fin 4) (b : Bool) :
    (setLapse c b s).channels[d].entry = s.channels[d].entry := by
  rw [setLapse_channel]
  split
  · next h => subst h; rfl
  · rfl

/-- A voice lapse that is set or cleared does not bear on the count of a play. -/
theorem countPlay_setLapse (c : Fin 4) (b : Bool) (s : State) :
    countPlay c (setLapse c b s) = setLapse c b (countPlay c s) := by
  have hentry := setLapse_entry s c c b
  cases hn : s.channels[c].entry with
  | none => rw [countPlay_of_none hn, countPlay_of_none (hentry.trans hn)]
  | some sl =>
    cases he : s.entries[sl] with
    | none => rw [countPlay_of_empty hn he, countPlay_of_empty (hentry.trans hn) he]
    | some e =>
      cases hr : reachedRepeat (playedOnce e) with
      | false =>
        rw [countPlay_again hn he hr, countPlay_again (hentry.trans hn) he hr]
        simp [setLapse, State.setChannel, playTime]
      | true =>
        rw [countPlay_last hn he hr, countPlay_last (hentry.trans hn) he hr]
        simp [setLapse, State.setChannel, toIdle]

/-- A channel in STOPPING goes to IDLE, and its voice lapse is set or cleared, in either order (R152, R157). -/
theorem toIdle_setLapse (c : Fin 4) (b : Bool) (s : State) :
    (setLapse c b s).setChannel c (toIdle (setLapse c b s).channels[c]) =
      setLapse c b (s.setChannel c (toIdle s.channels[c])) := by
  simp [setLapse, State.setChannel, toIdle]

theorem playEnded_of_playing (h : s.channels[c].state = .playing) :
    playEnded c s = routerFinish s (setLapse c false (countPlay c s)) := by
  rw [← countPlay_setLapse]
  simp only [playEnded, h]

theorem playEnded_of_stopping (h : s.channels[c].state = .stopping) :
    playEnded c s = routerFinish s (setLapse c false (s.setChannel c (toIdle s.channels[c]))) := by
  rw [← toIdle_setLapse]
  simp only [playEnded, h]

theorem playEnded_of_idle (h : s.channels[c].state = .idle) : playEnded c s = s := by
  simp only [playEnded, h]

end

/-! ## The assignment (R150, R151) -/

/-- What of an entry the assignment does not touch: everything but its channel. -/
def offChannel (e : Entry) : Entry := { e with channel := none }

theorem eq_with_channel {e x : Entry} (h : offChannel x = offChannel e) : x = { e with channel := x.channel } := by
  cases e
  cases x
  simp_all [offChannel]

theorem set_offChannel {es : Vector (Option Entry) 16} {sl : Fin 16} {e : Entry} (he : es[sl] = some e)
    (ch : Option (Fin 4)) (k : Fin 16) :
    (es.set sl (some { e with channel := ch }))[k].map offChannel = es[k].map offChannel := by
  rw [getElem_set_fin]
  split
  · next h => subst h; rw [he]; rfl
  · rfl

theorem fillIdle_offChannel (k : Fin 16) : ∀ (n : Nat) (s : State),
    (fillIdle n s).entries[k].map offChannel = s.entries[k].map offChannel
  | 0, _ => rfl
  | n + 1, s => by
    rw [fillIdle]
    split
    · next c sl e rest _ hw =>
      have he : s.entries[sl] = some e := entry_of_mem_waiting (by rw [hw]; exact List.mem_cons_self)
      exact (fillIdle_offChannel k n _).trans (set_offChannel he (some c) k)
    · rfl

theorem preempt_offChannel (k : Fin 16) : ∀ (n : Nat) (s : State),
    (preempt n s).entries[k].map offChannel = s.entries[k].map offChannel
  | 0, _ => rfl
  | n + 1, s => by
    rw [preempt]
    split
    · next c sl e _ w hl _ =>
      have he : s.entries[sl] = some e := entry_of_mem_playing (lowestOf_mem hl)
      dsimp only
      split
      · exact (preempt_offChannel k n _).trans (set_offChannel he none k)
      · rfl
    · rfl

/-- The assignment changes of every entry its channel alone. -/
theorem assign_offChannel (s : State) (k : Fin 16) :
    (assign s).entries[k].map offChannel = s.entries[k].map offChannel :=
  (preempt_offChannel k 4 _).trans (fillIdle_offChannel k 4 s)

theorem entry_before_assign {s : State} {k : Fin 16} {x : Entry} (h : (assign s).entries[k] = some x) :
    ∃ e, s.entries[k] = some e ∧ x = { e with channel := x.channel } := by
  have hk := assign_offChannel s k
  rw [h] at hk
  obtain ⟨e, he, hx⟩ := Option.map_eq_some_iff.mp hk.symm
  exact ⟨e, he, eq_with_channel hx.symm⟩

theorem entry_after_assign {s : State} {k : Fin 16} {e : Entry} (h : s.entries[k] = some e) :
    ∃ x, (assign s).entries[k] = some x ∧ x = { e with channel := x.channel } := by
  have hk := assign_offChannel s k
  rw [h] at hk
  obtain ⟨x, hx, he⟩ := Option.map_eq_some_iff.mp hk
  exact ⟨x, hx, eq_with_channel he⟩

/-! ## The routing (R154, R155) -/

theorem deriveRouting_floor (s : State) (f : Fin 48) :
    (deriveRouting s).floors[f] = { s.floors[f] with routed := routeOf s f } := getElem_tabulate _ _ _

theorem beginShift_eq_with (s : State) : beginShift s = { s with chain := (beginShift s).chain } := by
  unfold beginShift
  split <;> rfl

/-- The routing changes the routed channels and the chain alone. -/
theorem route_eq_with (s : State) : route s = { deriveRouting s with chain := (route s).chain } := by
  unfold route
  dsimp only
  split
  · rfl
  · rw [beginShift_eq_with]

theorem route_floor (s : State) (f : Fin 48) : (route s).floors[f] = { s.floors[f] with routed := routeOf s f } := by
  rw [route_eq_with]
  exact deriveRouting_floor s f

end Sys2Proof.Machine
end

section
/-! SUPPORT. What a step can do to the announcement queue and to the channels, said once. -/

namespace Sys2Proof.Machine

/-! ## The router's own events (R145, R149, R152, R153, R157, R159) -/

/-- Room made in the queue for a post: none is needed, or a TENANT entry is removed (R145). -/
inductive RoomMade (u : State) : State → Prop
  | free (h : postedCount u < 14) : RoomMade u u
  | displaced {sl : Fin 16} {e : Entry} (he : u.entries[sl] = some e) (hc : e.cls = .tenant) :
    RoomMade u (removeEntry sl u)

/-- What an event of the router changes of the queue and of the channels, before the assignment. -/
inductive QueueEvent (u : State) : State → Prop
  | cancelled (sl : Fin 16) : QueueEvent u (removeEntry sl u)
  | posted {v : State} {sl : Fin 16} {k : AnnClass} {m : Byte} {fs : FloorSet} {n : Nat} {p : Fin 4}
    (hroom : RoomMade u v) (hfree : freeSlot v = some sl) (hk : k = .console ∨ k = .tenant)
    (hfs : trimmed k u fs ≠ 0) (hn : n ≤ 15) : QueueEvent u (createEntry sl k m (trimmed k u fs) n (some p) v)
  | played (c : Fin 4) (b : Bool) (h : u.channels[c].state = .playing ∨ u.channels[c].play ≠ none) :
    QueueEvent u (setLapse c b (countPlay c u))
  | freed (c : Fin 4) (b : Bool) (h : u.channels[c].state = .stopping ∨ u.channels[c].stop ≠ none) :
    QueueEvent u (setLapse c b (u.setChannel c (toIdle u.channels[c])))

/-- A channel whose timers may have run down and whose voice lapse may differ. -/
structure ChannelRuns (c d : Channel) : Prop where
  state : d.state = c.state
  entry : d.entry = c.entry
  message : d.message = c.message
  play : d.play = none ↔ c.play = none
  stop : d.stop = none ↔ c.stop = none

/-- No channel starts or stops and no entry comes or goes: timers, voice lapses, the load and the routing chain
alone may differ. -/
structure RouterIdle (s t : State) : Prop where
  config : t.config = s.config
  speaking : Speaking t ↔ Speaking s
  routed : ∀ f : Fin 48, t.floors[f].routed = s.floors[f].routed
  status : ∀ f : Fin 48, t.floors[f].status = s.floors[f].status
  entries : t.entries = s.entries
  channel : ∀ c : Fin 4, ChannelRuns s.channels[c] t.channels[c]

/-- A load has begun: the queue is empty, every channel is IDLE and no floor is routed (R141, R149, R155). -/
structure RouterReset (t : State) : Prop where
  load : t.load ≠ none
  routed : ∀ f : Fin 48, t.floors[f].routed = none
  entry : ∀ sl : Fin 16, t.entries[sl] = none
  channel : ∀ c : Fin 4, t.channels[c] = channelReset

/-- What a step can do to the announcements: nothing; an event of the router, or one of the regime and the floors, with
the assignment and the routing after it; a post that makes room and finds none; the beginning of a load. -/
inductive RouterStep (s : State) : State → Prop
  | idle {t : State} (h : RouterIdle s t) : RouterStep s t
  | worked {u w t : State} (hu : RouterKept s u) (hw : QueueEvent u w) (ht : RouterKept (route (assign w)) t) :
    RouterStep s t
  | settled {w t : State} (hw : SpeakersKept s w)
    (ht : RouterKept (route (assign (regimeEntries (stripTenants w)))) t) : RouterStep s t
  | unplaced {u v t : State} (hu : RouterKept s u) (hv : RoomMade u v) (hfree : freeSlot v = none)
    (ht : RouterKept v t) : RouterStep s t
  | began {t : State} (h : RouterReset t) : RouterStep s t

section
variable {s t u w : State}

theorem ChannelRuns.refl (c : Channel) : ChannelRuns c c := ⟨rfl, rfl, rfl, Iff.rfl, Iff.rfl⟩

theorem ChannelRuns.trans {c d e : Channel} (h : ChannelRuns c d) (k : ChannelRuns d e) : ChannelRuns c e where
  state := k.state.trans h.state
  entry := k.entry.trans h.entry
  message := k.message.trans h.message
  play := k.play.trans h.play
  stop := k.stop.trans h.stop

theorem RouterIdle.trans (h : RouterIdle s t) (k : RouterIdle t u) : RouterIdle s u where
  config := k.config.trans h.config
  speaking := k.speaking.trans h.speaking
  routed f := (k.routed f).trans (h.routed f)
  status f := (k.status f).trans (h.status f)
  entries := k.entries.trans h.entries
  channel c := (h.channel c).trans (k.channel c)

theorem RouterKept.idle (h : RouterKept s t) : RouterIdle s t where
  config := h.config
  speaking := h.speaking
  routed := h.routed
  status := h.status
  entries := h.entries
  channel c := by rw [h.channels]; exact .refl _

theorem routerIdle_of_chain (h : t = { s with chain := t.chain }) : RouterIdle s t := by
  rw [h]
  exact ⟨rfl, Iff.rfl, fun _ => rfl, fun _ => rfl, rfl, fun _ => .refl _⟩

theorem routerIdle_setLapse (s : State) (c : Fin 4) (b : Bool) : RouterIdle s (setLapse c b s) := by
  refine ⟨rfl, Iff.rfl, fun _ => rfl, fun _ => rfl, rfl, fun d => ?_⟩
  rw [setLapse, setChannel_channels, getElem_set_fin]
  split
  · next e => subst e; exact ⟨rfl, rfl, rfl, Iff.rfl, Iff.rfl⟩
  · exact .refl _

theorem routerIdle_tick (s : State) : RouterIdle s (tick s) := by
  refine ⟨rfl, Iff.rfl, fun _ => rfl, fun _ => rfl, rfl, fun c => ?_⟩
  rw [tick_channel]
  exact ⟨rfl, rfl, rfl, tickTimer_eq_none_iff _, tickTimer_eq_none_iff _⟩

theorem RouterStep.refl (s : State) : RouterStep s s := .idle (RouterKept.refl s).idle

theorem RouterStep.before (h : RouterKept s u) (k : RouterStep u t) : RouterStep s t := by
  cases k with
  | idle hi => exact .idle (h.idle.trans hi)
  | worked hu hw ht => exact .worked (h.trans hu) hw ht
  | settled hw ht => exact .settled (h.toSpeakersKept.trans hw) ht
  | unplaced hu hv hfree ht => exact .unplaced (h.trans hu) hv hfree ht
  | began hr => exact .began hr

theorem RouterReset.after (h : RouterReset t) (k : RouterKept t u) : RouterReset u where
  load := by rw [k.load]; exact h.load
  routed f := by rw [k.routed, h.routed]
  entry sl := by rw [k.entries, h.entry]
  channel c := by rw [k.channels, h.channel]

theorem RouterStep.after (h : RouterStep s t) (k : RouterKept t u) : RouterStep s u := by
  cases h with
  | idle hi => exact .idle (hi.trans k.idle)
  | worked hu hw ht => exact .worked hu hw (ht.trans k)
  | settled hw ht => exact .settled hw (ht.trans k)
  | unplaced hu hv hfree ht => exact .unplaced hu hv hfree (ht.trans k)
  | began hr => exact .began (hr.after k)

/-- An event that takes effect only on a condition. -/
theorem RouterStep.ite {c : Prop} [Decidable c] (h : c → RouterStep s t) : RouterStep s (if c then t else s) := by
  split
  · next hc => exact h hc
  · exact .refl s

theorem routerStep_command {p : Fin 4} {bytes : List Byte} {body : State → State × Result}
    (h : ∀ u, RouterStep u (body u).1) : RouterStep s (command p bytes body s) := by
  unfold command
  split
  · exact .before (routerKept_of_frame rfl) ((h _).after (routerKept_of_frame rfl))
  · exact .refl s

theorem routerStep_afterLoad {p : Fin 4} {bytes : List Byte} {body : State → State × Result}
    (h : ∀ u, RouterStep u (body u).1) : RouterStep s (command p bytes (afterLoad body) s) :=
  routerStep_command fun u => afterLoad_preserves (fun _ => h u) (.refl u)

theorem routerStep_controlled {p : Fin 4} {bytes : List Byte} {body : State → State × Result}
    (h : ∀ u, RouterStep u (body u).1) : RouterStep s (command p bytes (controlled p body) s) :=
  routerStep_command fun u => controlled_preserves (fun _ => h u) (.refl u)

/-! ## The router's work at an event -/

/-- The notices of the router bear on nothing that it reads. -/
theorem routerKept_routerFinish (s0 w : State) : RouterKept (route (assign w)) (routerFinish s0 w) where
  load := by simp [routerFinish]
  config := by simp [routerFinish]
  routed f := by simp [routerFinish]
  entries := by simp [routerFinish]
  channels := by simp [routerFinish]
  chain := by simp [routerFinish]
  speaking := speaking_congr (by rw [routerFinish_regime]; simp) (by rw [routerFinish_regime]; simp)
  status f := by simp [routerFinish]

theorem routerStep_routerFinish (s0 : State) (h : QueueEvent s w) : RouterStep s (routerFinish s0 w) :=
  .worked (.refl s) h (routerKept_routerFinish s0 w)

theorem routerStep_routerSettle (s0 : State) (h : SpeakersKept s w) : RouterStep s (routerSettle s0 w) :=
  .settled h (routerKept_routerFinish s0 _)

/-- The work of every unit ends in the router's. -/
theorem routerStep_settle (s0 : State) (h : SpeakersKept s w) : RouterStep s (settle s0 w) :=
  routerStep_routerSettle s0 (h.trans (speakersKept_units s0 w))

end

/-! ## The line scanner and the regime -/

theorem speakersKept_fireLine (i : Fin 64) (s : State) : SpeakersKept s (fireLine i s) := by
  simp [speakersKept_iff]

theorem routerStep_lineEvent (i : Fin 64) (l : Line) (s : State) : RouterStep s (lineEvent i l s) := by
  have hchanged : SpeakersKept s (changeLine i l s) := speakersKept_changeLine i l s
  unfold lineEvent
  dsimp only
  split
  · exact routerStep_settle s (hchanged.trans (speakersKept_fireLine i _))
  · exact .idle (hchanged.router (unitEvent_changeLine i l s)).idle

theorem routerKept_setPGroup (s : State) (g : Fin 8) (x : PGroup) : RouterKept s (s.setPGroup g x) :=
  ⟨⟨rfl, rfl, fun _ => rfl, rfl, rfl, rfl⟩, Iff.rfl, fun _ => rfl⟩

theorem routerKept_setLine (s : State) (i : Fin 64) (l : Line) : RouterKept s (s.setLine i l) :=
  ⟨⟨rfl, rfl, fun _ => rfl, rfl, rfl, rfl⟩, Iff.rfl, fun _ => rfl⟩

theorem routerStep_takeSample (i : Fin 64) (code : BitVec 10) (s : State) : RouterStep s (takeSample i code s) := by
  obtain e | e | e := takeSample_cases i code s <;> rw [e]
  · exact .idle (routerKept_setLine s i _).idle
  · exact routerStep_lineEvent i _ s
  · exact .before (routerKept_setPGroup s _ _) (routerStep_lineEvent i _ _)

theorem speakersKept_regimeReturned (s : State) : SpeakersKept s (regimeReturned s) := by
  have hlines : SpeakersKept s (resetEachLine s) :=
    foldl_relates .refl .trans (fun u i => speakersKept_changeLine i _ u) _ _
  have hreturned : SpeakersKept (resetEachLine s) (regimeReturned s) := by
    simp [speakersKept_iff, regimeReturned, resetLines]
  exact hlines.trans hreturned

theorem resetRegimeBody_routerStep (s : State) : RouterStep s (resetRegimeBody s).1 := by
  have hreset : RouterStep s (resetRegime s) := by
    rw [resetRegime_eq]
    exact routerStep_settle s (speakersKept_regimeReturned s)
  unfold resetRegimeBody
  split <;> simp [RouterStep.refl, hreset]

theorem speakersKept_setRegime (s : State) (g : Regime) : SpeakersKept s (s.setRegime g) := by
  simp [speakersKept_iff]

/-- The entry into HOLD_INVESTIGATE makes no unit act, and the regime has its entries neither before nor after (R52). -/
theorem acknowledgeBody_routerStep (s : State) : RouterStep s (acknowledgeBody s).1 := by
  unfold acknowledgeBody
  split
  · next ha =>
    split
    · exact routerStep_settle s (speakersKept_setRegime s _)
    · rw [accept_state, regimeNotice_eq_with]
      have hbefore : ¬ Speaking s := fun h => by rw [Speaking, ha] at h; cases h.1
      exact .idle ⟨rfl, iff_of_false (fun h => nomatch h.1) hbefore, fun _ => rfl, fun _ => rfl, rfl, fun _ => .refl _⟩
  all_goals exact .refl s

theorem evacuateAllBody_routerStep (s : State) : RouterStep s (evacuateAllBody s).1 := by
  by_cases hs : s.regime.evacuateAll = true ∧ s.regime.state = .active
  · rw [evacuateAllBody_again hs]
    exact .refl s
  · rw [evacuateAllBody_new hs, accept_state, evacuating_frame]
    exact routerStep_settle s ⟨rfl, rfl, fun _ => rfl, rfl, rfl, rfl⟩

theorem routerStep_setSilenced (b : Bool) (s : State) : RouterStep s (setSilenced b s) := by
  rw [setSilenced, regimeNotice_eq_with]
  exact (routerStep_routerSettle s (speakersKept_setRegime s _)).after (routerKept_of_frame rfl)

theorem silenceBody_routerStep (s : State) : RouterStep s (silenceBody s).1 := by
  unfold silenceBody
  (repeat' split) <;> simp [RouterStep.refl, routerStep_setSilenced]

theorem resoundBody_routerStep (s : State) : RouterStep s (resoundBody s).1 := by
  unfold resoundBody
  split <;> simp [RouterStep.refl, routerStep_setSilenced]

/-! ## The router's own commands -/

/-- The TENANT entries of the queue, with their slots. -/
theorem mem_tenants_iff {s : State} {sl : Fin 16} {e : Entry} :
    (sl, e) ∈ (List.finRange 16).filterMap (tenantIn s) ↔ s.entries[sl] = some e ∧ e.cls = .tenant := by
  simp only [List.mem_filterMap, List.mem_finRange, true_and, tenantIn, slotIf]
  constructor
  · rintro ⟨k, hk⟩
    split at hk
    · next x hx =>
      split at hk
      · next hc => cases hk; exact ⟨hx, by simpa using hc⟩
      · cases hk
    · cases hk
  · rintro ⟨he, hc⟩
    exact ⟨sl, by simp [he, hc]⟩

/-- The youngest of some entries is one of them, and none is younger. -/
theorem youngestOf_spec {l : List (Fin 16 × Entry)} {y : Fin 16 × Entry} (h : youngestOf l = some y) :
    y ∈ l ∧ ∀ x ∈ l, x.2.age ≤ y.2.age := by
  induction l generalizing y with
  | nil => cases h
  | cons z zs ih =>
    rw [youngestOf] at h
    split at h
    · next hzs =>
      cases h
      cases zs with
      | nil => simp
      | cons z' zs' =>
        rw [youngestOf] at hzs
        split at hzs
        · cases hzs
        · split at hzs <;> cases hzs
    · next x hx =>
      obtain ⟨hmem, hmax⟩ := ih hx
      split at h
      · next hlt =>
        cases h
        refine ⟨List.mem_cons_of_mem z hmem, fun w hw => ?_⟩
        obtain rfl | hw := List.mem_cons.mp hw
        · omega
        · exact hmax w hw
      · next hle =>
        cases h
        refine ⟨List.mem_cons_self, fun w hw => ?_⟩
        obtain rfl | hw := List.mem_cons.mp hw
        · exact Nat.le_refl _
        · have := hmax w hw
          omega

theorem youngestOf_eq_none {l : List (Fin 16 × Entry)} (h : youngestOf l = none) : l = [] := by
  cases l with
  | nil => rfl
  | cons z zs =>
    rw [youngestOf] at h
    split at h
    · cases h
    · split at h <;> cases h

theorem youngestTenant_spec {s : State} {sl : Fin 16} (h : youngestTenant s = some sl) :
    ∃ e, s.entries[sl] = some e ∧ e.cls = .tenant ∧
      ∀ (k : Fin 16) (x : Entry), s.entries[k] = some x → x.cls = .tenant → x.age ≤ e.age := by
  obtain ⟨⟨k, e⟩, hy, rfl⟩ := Option.map_eq_some_iff.mp h
  obtain ⟨hmem, hmax⟩ := youngestOf_spec hy
  obtain ⟨he, hc⟩ := mem_tenants_iff.mp hmem
  exact ⟨e, he, hc, fun j x hx ht => hmax (j, x) (mem_tenants_iff.mpr ⟨hx, ht⟩)⟩

theorem youngestTenant_eq_none_iff (s : State) :
    youngestTenant s = none ↔ ∀ (sl : Fin 16) (e : Entry), s.entries[sl] = some e → e.cls ≠ .tenant := by
  constructor
  · intro h sl e he hc
    have hnil := youngestOf_eq_none (Option.map_eq_none_iff.mp h)
    have hmem := mem_tenants_iff.mpr ⟨he, hc⟩
    rw [hnil] at hmem
    cases hmem
  · intro h
    by_contra hne
    obtain ⟨sl, hsl⟩ := Option.ne_none_iff_exists'.mp hne
    obtain ⟨e, he, hc, -⟩ := youngestTenant_spec hsl
    exact h sl e he hc

/-- The room that a post finds, or makes (R145). -/
theorem roomMade_of_roomFor {k : AnnClass} {s v : State} (h : roomFor k s = some v) : RoomMade s v := by
  unfold roomFor at h
  split at h
  · next hc => cases h; exact .free hc
  · split at h
    · obtain ⟨sl, hsl, rfl⟩ := Option.map_eq_some_iff.mp h
      obtain ⟨e, he, hc, -⟩ := youngestTenant_spec hsl
      exact .displaced he hc
    all_goals cases h

theorem postJudged_routerStep {p : Fin 4} {k : AnnClass} {m : Byte} {fs : FloorSet} {n : Nat} (s : State)
    (hk : k = .console ∨ k = .tenant) (hn : n ≤ 15) : RouterStep s (postJudged p k m fs n s).1 := by
  unfold postJudged
  split
  · exact .refl s
  · split
    · exact .refl s
    · next hfs =>
      split
      · exact .refl s
      · next v hv =>
        have hroom := roomMade_of_roomFor hv
        rw [accept_state]
        unfold postEntry
        split
        · next hfree => exact .unplaced (.refl s) hroom hfree (.refl v)
        · next sl hfree => exact routerStep_routerFinish s (.posted hroom hfree hk hfs hn)

theorem postBody_routerStep {p : Fin 4} {k m : Byte} {fs : FloorSet} {n : Byte} (s : State) :
    RouterStep s (postBody p k m fs n s).1 := by
  unfold postBody
  split
  · split
    · split
      · exact .refl s
      · next hn =>
        split
        · exact postJudged_routerStep s (.inl rfl) (Nat.not_lt.mp hn)
        · exact .refl s
    · split
      · exact .refl s
      · next hn => exact postJudged_routerStep s (.inr rfl) (Nat.not_lt.mp (not_or.mp hn).1)
    all_goals exact .refl s
  · exact .refl s

theorem cancelBody_routerStep {p : Fin 4} {b m : Byte} (s : State) : RouterStep s (cancelBody p b m s).1 := by
  have hremoved (sl : Fin 16) : RouterStep s (routerFinish s (removeEntry sl s)) :=
    routerStep_routerFinish s (.cancelled sl)
  unfold cancelBody
  (repeat' split) <;> simp [RouterStep.refl, hremoved]

theorem playEnded_routerStep {c : Fin 4} (s : State) : RouterStep s (playEnded c s) := by
  cases hs : s.channels[c].state with
  | playing =>
    rw [playEnded_of_playing hs]
    exact routerStep_routerFinish s (.played c false (.inl hs))
  | stopping =>
    rw [playEnded_of_stopping hs]
    exact routerStep_routerFinish s (.freed c false (.inl hs))
  | idle =>
    rw [playEnded_of_idle hs]
    exact .refl s

theorem playEndBody_routerStep {p : Fin 4} {c m : Byte} (s : State) : RouterStep s (playEndBody p c m s).1 := by
  unfold playEndBody
  (repeat' split) <;> simp [RouterStep.refl, playEnded_routerStep]

/-! ## Power and load -/

theorem routerReset_powerOn (s : State) : RouterReset (powerOn s) := by
  refine ⟨nofun, fun f => ?_, fun _ => getElem_tabulate _ _ _, fun _ => getElem_tabulate _ _ _⟩
  have hf : (powerOn s).floors[f] = floorReset := getElem_tabulate _ _ _
  rw [hf]
  rfl

/-- RESTART begins a new load, or is turned away and leaves the announcements (R190). -/
theorem restartBody_routerStep {p : Fin 4} (s : State) : RouterStep s (restartBody p s).1 := by
  unfold restartBody
  (repeat' split)
  case h_2 => exact .began (routerReset_powerOn _)
  case h_1 => exact .idle (routerKept_of_frame rfl).idle
  all_goals exact .refl s

theorem routerIdle_startUp (s : State) : RouterIdle s (startUp s) := by
  rw [startUp_eq_with]
  exact ⟨rfl, Iff.rfl, fun _ => rfl, fun _ => rfl, rfl, fun _ => .refl _⟩

theorem routerIdle_shiftEnds (x : Shift) (s : State) : RouterIdle s (shiftEnds x s) := by
  refine routerIdle_of_chain ?_
  unfold shiftEnds
  dsimp only
  split
  · rw [beginShift_eq_with]
  · rfl

/-! ## The steps -/

theorem exec_routerStep {i : Instr} {s t : State} (h : exec i s = .next t) : RouterStep s t := by
  cases hi : routerActs i with
  | false => exact .idle (exec_keeps_router hi h).idle
  | true =>
    cases i with
    | powerOnReset => exact of_next h (.began (routerReset_powerOn s))
    | restart => exact of_next h (routerStep_controlled restartBody_routerStep)
    | startUpLoadEnd => exact of_next h (.ite fun _ => .idle (routerIdle_startUp s))
    | zoneLineSlotCompletion i code =>
      refine of_next h (.ite fun _ => ?_)
      dsimp only
      have hcode : RouterKept s { s.setLine i { s.lines[i] with lastCode := code } with
          scanSlot := some (nextSlot (lineSlot i)) } :=
        ⟨⟨rfl, rfl, fun _ => rfl, rfl, rfl, rfl⟩, Iff.rfl, fun _ => rfl⟩
      split
      · exact (routerStep_takeSample i code _).before hcode
      · exact .idle hcode.idle
    | retardExpiry i => exact of_next h (.ite fun _ => routerStep_lineEvent i _ s)
    | holdTimerExpiry | spreadExpiry =>
      exact of_next h (.ite fun _ => routerStep_settle s (speakersKept_setRegime s _))
    | resetRegime => exact of_next h (routerStep_controlled resetRegimeBody_routerStep)
    | acknowledge => exact of_next h (routerStep_controlled acknowledgeBody_routerStep)
    | evacuateAll => exact of_next h (routerStep_controlled evacuateAllBody_routerStep)
    | silence => exact of_next h (routerStep_controlled silenceBody_routerStep)
    | resound => exact of_next h (routerStep_controlled resoundBody_routerStep)
    | stopTimerExpiry c =>
      refine of_next h (.ite fun hd => routerStep_routerFinish s (.freed c true (.inr ?_)))
      rw [(timerDue_iff _).mp hd]
      nofun
    | playTimerExpiry c =>
      refine of_next h (.ite fun hd => routerStep_routerFinish s (.played c true (.inr ?_)))
      rw [(timerDue_iff _).mp hd]
      nofun
    | chainRefreshExpiry =>
      refine of_next h (.ite fun _ => .idle (routerIdle_of_chain ?_))
      rw [beginShift_eq_with]
    | routingShiftComplete =>
      refine of_next h ?_
      split
      · exact .refl s
      · exact .ite fun _ => .idle (routerIdle_shiftEnds _ s)
    | postAnnouncement => exact of_next h (routerStep_afterLoad postBody_routerStep)
    | cancelAnnouncement => exact of_next h (routerStep_afterLoad cancelBody_routerStep)
    | playEnd => exact of_next h (routerStep_afterLoad playEndBody_routerStep)
    | _ => cases hi

/-- Every step, and a millisecond on an empty queue, is one of these to the announcements. -/
theorem step_routerStep {s t : State} (h : step s = .next t) : RouterStep s t := by
  unfold step at h
  split at h
  · exact of_next h (.idle (routerIdle_tick s))
  · exact (exec_routerStep h).before (routerKept_of_frame rfl)

end Sys2Proof.Machine
end

section
/-! SUPPORT. Every step keeps the law of the announcement queue: reserved slots, no regime entry outside a speaking
regime, and no TENANT entry on a floor under the regime (O18). -/

namespace Sys2Proof.Machine

/-! ## The law of an entry -/

/-- What the law of an entry asks for whatever the regime and the statuses are (R141, R144). -/
structure EntryShaped (s : State) (sl : Fin 16) (e : Entry) : Prop where
  slot : slotClass sl e.cls = true
  floors : e.floors ≠ 0
  rpt : e.rpt ≤ 15
  plays : e.plays ≤ 255
  present : ∀ f : Fin 48, e.floors.has f = true → s.present f = true

/-- A TENANT entry holds no floor under the regime (R147). -/
def TenantClear (s : State) (e : Entry) : Prop :=
  e.cls = .tenant → ∀ f : Fin 48, e.floors.has f = true → s.floors[f].status = .none

def EntriesShaped (s : State) : Prop := ∀ (sl : Fin 16) (e : Entry), s.entries[sl] = some e → EntryShaped s sl e

theorem entryGood_iff {s : State} {sl : Fin 16} {e : Entry} :
    EntryGood s sl e ↔ EntryShaped s sl e ∧ (postSlot sl = false → Speaking s) ∧ TenantClear s e := by
  constructor
  · rintro ⟨hslot, hspeak, hfloors, hrpt, hplays, hon⟩
    exact ⟨⟨hslot, hfloors, hrpt, hplays, fun f hf => (hon f hf).1⟩, hspeak, fun hc f hf => (hon f hf).2 hc⟩
  · rintro ⟨⟨hslot, hfloors, hrpt, hplays, hpresent⟩, hspeak, hclear⟩
    exact ⟨hslot, hspeak, hfloors, hrpt, hplays, fun f hf => ⟨hpresent f hf, fun hc => hclear hc f hf⟩⟩

/-- An entry restated: its class, floors and repeat are kept, and its plays stay in range. -/
structure Restated (e x : Entry) : Prop where
  cls : x.cls = e.cls
  floors : x.floors = e.floors
  rpt : x.rpt = e.rpt
  plays : e.plays ≤ 255 → x.plays ≤ 255

/-- Every entry stood in its slot before, but for its age, its channel and its plays. -/
def EntriesRestated (s t : State) : Prop :=
  ∀ (k : Fin 16) (x : Entry), t.entries[k] = some x → ∃ e, s.entries[k] = some e ∧ Restated e x

section
variable {s t u : State}

theorem Restated.refl (e : Entry) : Restated e e := ⟨rfl, rfl, rfl, id⟩

theorem entriesRestated_of_eq (h : t.entries = s.entries) : EntriesRestated s t := fun k x hx =>
  ⟨x, by rw [← h]; exact hx, .refl x⟩

theorem EntriesRestated.trans (h : EntriesRestated s t) (k : EntriesRestated t u) : EntriesRestated s u := by
  intro j x hx
  obtain ⟨e, he, hex⟩ := k j x hx
  obtain ⟨d, hd, hde⟩ := h j e he
  exact ⟨d, hd, hex.cls.trans hde.cls, hex.floors.trans hde.floors, hex.rpt.trans hde.rpt, hex.plays ∘ hde.plays⟩

theorem restated_closeGap (age : Nat) (e : Entry) : Restated e (closeGap age e) := by
  rw [closeGap_eq_with]
  exact ⟨rfl, rfl, rfl, id⟩

theorem entriesRestated_withoutSlot {sl : Fin 16} {age : Nat} (h : t.entries = withoutSlot s.entries sl age) :
    EntriesRestated s t := by
  intro k x hx
  rw [h, withoutSlot_entry] at hx
  split at hx
  · cases hx
  · obtain ⟨e, he, rfl⟩ := Option.map_eq_some_iff.mp hx
    exact ⟨e, he, restated_closeGap age e⟩

theorem entriesRestated_removeEntry (s : State) (sl : Fin 16) : EntriesRestated s (removeEntry sl s) := by
  cases he : s.entries[sl] with
  | none => rw [removeEntry_of_empty he]; exact entriesRestated_of_eq rfl
  | some e => exact entriesRestated_withoutSlot (removeEntry_entries he)

theorem entriesRestated_countPlay (s : State) (c : Fin 4) : EntriesRestated s (countPlay c s) := by
  cases hn : s.channels[c].entry with
  | none => rw [countPlay_of_none hn]; exact entriesRestated_of_eq rfl
  | some sl =>
    cases he : s.entries[sl] with
    | none => rw [countPlay_of_empty hn he]; exact entriesRestated_of_eq rfl
    | some e =>
      cases hr : reachedRepeat (playedOnce e) with
      | true =>
        rw [countPlay_last hn he hr]
        exact entriesRestated_withoutSlot rfl
      | false =>
        rw [countPlay_again hn he hr]
        intro k x hx
        rw [setChannel_entries, getElem_set_fin] at hx
        split at hx
        · next hk =>
          subst hk
          cases hx
          exact ⟨e, he, rfl, rfl, rfl, fun _ => Nat.min_le_left ..⟩
        · exact ⟨x, hx, .refl x⟩

theorem entriesRestated_assign (s : State) : EntriesRestated s (assign s) := by
  intro k x hx
  obtain ⟨e, he, hex⟩ := entry_before_assign hx
  exact ⟨e, he, by rw [hex], by rw [hex], by rw [hex], by rw [hex]; exact id⟩

theorem EntryShaped.restated {sl : Fin 16} {e x : Entry} (h : EntryShaped s sl e) (hc : t.config = s.config)
    (hx : Restated e x) : EntryShaped t sl x where
  slot := by rw [hx.cls]; exact h.slot
  floors := by rw [hx.floors]; exact h.floors
  rpt := by rw [hx.rpt]; exact h.rpt
  plays := hx.plays h.plays
  present f hf := by
    rw [hx.floors] at hf
    rw [State.present, hc]
    exact h.present f hf

theorem EntriesShaped.restated (h : EntriesShaped s) (hc : t.config = s.config) (he : EntriesRestated s t) :
    EntriesShaped t := by
  intro k x hx
  obtain ⟨e, hs, hex⟩ := he k x hx
  exact (h k e hs).restated hc hex

theorem TenantClear.restated {e x : Entry} (h : TenantClear s e)
    (hf : ∀ f : Fin 48, t.floors[f].status = s.floors[f].status) (hx : Restated e x) : TenantClear t x := by
  intro hc f hh
  rw [hx.cls] at hc
  rw [hx.floors] at hh
  rw [hf]
  exact h hc f hh

/-- The law of the queue where the regime speaks as before, the statuses stand, and every entry stood in its slot. -/
theorem EntryInv.restated (h : EntryInv s) (hc : t.config = s.config) (hs : Speaking t ↔ Speaking s)
    (hf : ∀ f : Fin 48, t.floors[f].status = s.floors[f].status) (he : EntriesRestated s t) : EntryInv t := by
  intro k x hx
  obtain ⟨e, hse, hex⟩ := he k x hx
  obtain ⟨hshape, hspeak, hclear⟩ := entryGood_iff.mp (h k e hse)
  exact entryGood_iff.mpr ⟨hshape.restated hc hex, fun hk => hs.mpr (hspeak hk), hclear.restated hf hex⟩

/-- The same with the regime and the floor table as they were. -/
theorem EntryInv.of_entries (h : EntryInv s) (hc : t.config = s.config) (hr : t.regime = s.regime)
    (hf : t.floors = s.floors) (he : EntriesRestated s t) : EntryInv t :=
  h.restated hc (speaking_congr (by rw [hr]) (by rw [hr])) (fun f => by rw [hf]) he

theorem EntryInv.shaped (h : EntryInv s) : EntriesShaped s := fun k e he => (entryGood_iff.mp (h k e he)).1

/-! ## The work after an event -/

theorem EntryInv.assign (h : EntryInv s) : EntryInv (assign s) :=
  h.of_entries (by simp) (by simp) (by simp) (entriesRestated_assign s)

theorem EntryInv.route (h : EntryInv s) : EntryInv (route s) := by
  refine h.restated (by simp) (speaking_congr (by simp) (by simp)) (fun f => ?_) (entriesRestated_of_eq (by simp))
  rw [route_floor]

theorem EntryInv.routerIdle (h : EntryInv s) (k : RouterIdle s t) : EntryInv t :=
  h.restated k.config k.speaking k.status (entriesRestated_of_eq k.entries)

theorem EntryInv.worked (h : EntryInv s) (k : RouterKept (Machine.route (Machine.assign s)) t) : EntryInv t :=
  h.assign.route.routerIdle k.idle

/-! ## The router's own events -/

theorem EntryInv.removeEntry (h : EntryInv s) (sl : Fin 16) : EntryInv (removeEntry sl s) :=
  h.of_entries (by simp) (by simp) (by simp) (entriesRestated_removeEntry s sl)

theorem freeSlot_postSlot {sl : Fin 16} (h : freeSlot s = some sl) : postSlot sl = true ∧ s.entries[sl] = none := by
  have hsl := List.find?_some h
  rw [Bool.and_eq_true, Option.isNone_iff_eq_none] at hsl
  exact hsl

/-- The floors that a status covers are present floors of that status (R146). -/
theorem floorsOf_has (st : FloorStatus) (s : State) (f : Fin 48) :
    (floorsOf st s).has f = (s.present f && s.floors[f].status == st) := by
  simp only [floorsOf, FloorSet.has_ofPred, f.isLt, dif_pos]

theorem presentFloors_has (s : State) (fs : FloorSet) (f : Fin 48) :
    (presentFloors s fs).has f = (s.present f && fs.has f) := by
  simp only [presentFloors, FloorSet.has_ofPred, f.isLt, dif_pos]

theorem has_and_not (a b : FloorSet) (f : Fin 48) : (a &&& ~~~b : FloorSet).has f = (a.has f && !b.has f) := by
  simp [FloorSet.has]

theorem has_or (a b : FloorSet) (f : Fin 48) : (a ||| b : FloorSet).has f = (a.has f || b.has f) := by
  simp [FloorSet.has]

/-- The floors under the regime are the present floors that have a status (R146, R147). -/
theorem underRegime_has (s : State) (f : Fin 48) :
    (floorsOf .alert s ||| floorsOf .evacuate s : FloorSet).has f =
      (s.present f && s.floors[f].status != .none) := by
  rw [has_or, floorsOf_has, floorsOf_has]
  cases s.present f <;> cases s.floors[f].status <;> rfl

/-- The floors that a post keeps are present, and those of a TENANT post are not under the regime (R144). -/
theorem trimmed_spec {k : AnnClass} {fs : FloorSet} {f : Fin 48} (h : (trimmed k s fs).has f = true) :
    s.present f = true ∧ (k = .tenant → s.floors[f].status = .none) := by
  cases k with
  | tenant =>
    rw [trimmed, has_and_not, presentFloors_has, underRegime_has] at h
    simp only [Bool.and_eq_true, Bool.not_eq_true', Bool.and_eq_false_imp, bne_eq_false_iff_eq] at h
    obtain ⟨⟨hp, -⟩, hn⟩ := h
    exact ⟨hp, fun _ => hn hp⟩
  | console | evacuate | alert =>
    rw [trimmed, presentFloors_has, Bool.and_eq_true] at h
    exact ⟨h.1, nofun⟩

theorem RoomMade.restated {v : State} (h : RoomMade u v) :
    EntriesRestated u v ∧ v.config = u.config ∧ v.regime = u.regime ∧ v.floors = u.floors := by
  cases h with
  | free => exact ⟨entriesRestated_of_eq rfl, rfl, rfl, rfl⟩
  | displaced => exact ⟨entriesRestated_removeEntry u _, by simp, by simp, by simp⟩

theorem EntryInv.room {v : State} (h : EntryInv u) (k : RoomMade u v) : EntryInv v := by
  obtain ⟨he, hc, hr, hf⟩ := k.restated
  exact h.of_entries hc hr hf he

theorem createEntry_entry (sl k : Fin 16) (cls : AnnClass) (m : Byte) (fs : FloorSet) (n : Nat) (o : Option (Fin 4))
    (s : State) :
    (createEntry sl cls m fs n o s).entries[k] =
      if k = sl then some ⟨cls, m, fs, n, 0, o, entryCount s, none⟩ else s.entries[k] := by
  rw [createEntry, getElem_set_fin]

/-- A new entry that meets the law in its slot. -/
theorem EntryInv.createEntry (h : EntryInv s) {sl : Fin 16} {cls : AnnClass} {m : Byte} {fs : FloorSet} {n : Nat}
    {o : Option (Fin 4)} (hg : EntryGood s sl ⟨cls, m, fs, n, 0, o, entryCount s, none⟩) :
    EntryInv (createEntry sl cls m fs n o s) := by
  intro k x hx
  rw [Option.mem_def, createEntry_entry] at hx
  split at hx
  · next hk => subst hk; cases hx; exact hg
  · exact h k x hx

theorem EntryInv.queueEvent (h : EntryInv u) {w : State} (k : QueueEvent u w) : EntryInv w := by
  cases k with
  | cancelled sl => exact h.removeEntry sl
  | @posted v sl k m fs n p hroom hfree hk hfs hn =>
    obtain ⟨hpost, -⟩ := freeSlot_postSlot hfree
    obtain ⟨-, hc, -, hf⟩ := hroom.restated
    refine (h.room hroom).createEntry ⟨?_, fun hno => absurd hpost (by rw [hno]; nofun), hfs, hn, Nat.zero_le _,
      fun f hhas => ?_⟩
    · obtain rfl | rfl := hk <;> exact hpost
    · rw [State.present, hc, hf]
      exact trimmed_spec hhas
  | played c b =>
    exact h.of_entries (by simp) (by simp) (by simp)
      ((entriesRestated_countPlay u c).trans (entriesRestated_of_eq (by simp)))
  | freed c b => exact h.of_entries rfl rfl rfl (entriesRestated_of_eq rfl)

/-! ## Stripping (R147) -/

theorem setFloors_entry {sl : Fin 16} {e : Entry} (he : s.entries[sl] = some e) (fs : FloorSet) (k : Fin 16) :
    (setFloors sl fs s).entries[k] = if k = sl then some { e with floors := fs } else s.entries[k] := by
  simp only [setFloors, he]
  rw [getElem_set_fin]

theorem EntriesShaped.setFloors (h : EntriesShaped s) {sl : Fin 16} {fs : FloorSet} (hfs : fs ≠ 0)
    (hp : ∀ f : Fin 48, fs.has f = true → s.present f = true) : EntriesShaped (setFloors sl fs s) := by
  have hc : (Machine.setFloors sl fs s).config = s.config := by simp
  cases he : s.entries[sl] with
  | none =>
    have hs : Machine.setFloors sl fs s = s := by simp only [Machine.setFloors, he]
    rw [hs]
    exact h
  | some e =>
    intro k x hx
    rw [setFloors_entry he] at hx
    split at hx
    · next hk =>
      subst hk
      cases hx
      have hk := h k e he
      exact ⟨hk.slot, hfs, hk.rpt, hk.plays, fun f hf => by rw [State.present, hc]; exact hp f hf⟩
    · exact (h k x hx).restated hc (.refl x)

/-- The entries of a slot are clear of the floors under the regime. -/
def SlotClear (s : State) (k : Fin 16) : Prop := ∀ e, s.entries[k] = some e → TenantClear s e

theorem stripSlot_shaped (h : EntriesShaped s) (sl : Fin 16) : EntriesShaped (stripSlot s sl) := by
  unfold stripSlot
  split
  · exact h
  · next e he =>
    split
    · dsimp only
      split
      · exact h.restated (by simp) (entriesRestated_removeEntry s sl)
      · next hfs =>
        refine h.setFloors hfs fun f hf => (h sl e he).present f ?_
        rw [has_and_not, Bool.and_eq_true] at hf
        exact hf.1
    · exact h

theorem SlotClear.restated {k : Fin 16} (h : SlotClear s k) (hf : t.floors = s.floors) (he : EntriesRestated s t) :
    SlotClear t k := by
  intro x hx
  obtain ⟨e, hse, hex⟩ := he k x hx
  exact (h e hse).restated (fun f => by rw [hf]) hex

/-- Stripping a slot clears it, and leaves the others clear. -/
theorem stripSlot_clear (hs : EntriesShaped s) {sl k : Fin 16} (h : k = sl ∨ SlotClear s k) :
    SlotClear (stripSlot s sl) k := by
  unfold stripSlot
  split
  · next hnone =>
    obtain rfl | h := h
    · exact fun e he => by rw [hnone] at he; cases he
    · exact h
  · next e he =>
    split
    · next hc =>
      dsimp only
      split
      · obtain rfl | h := h
        · exact fun x hx => by rw [removeEntry_entry he, if_pos rfl] at hx; cases hx
        · exact h.restated (by simp) (entriesRestated_removeEntry s sl)
      · intro x hx hxc f hf
        have hfl :
            (setFloors sl (e.floors &&& ~~~(floorsOf .alert s ||| floorsOf .evacuate s)) s).floors = s.floors := by
          simp
        rw [hfl]
        rw [setFloors_entry he] at hx
        split at hx
        · cases hx
          rw [has_and_not, underRegime_has] at hf
          simp only [Bool.and_eq_true, Bool.not_eq_true', Bool.and_eq_false_imp, bne_eq_false_iff_eq] at hf
          exact hf.2 ((hs sl e he).present f hf.1)
        · next hk => exact (h.resolve_left hk) x hx hxc f hf
    · next hc =>
      obtain rfl | h := h
      · exact fun x hx hxc => by rw [he] at hx; cases hx; exact absurd hxc hc
      · exact h

theorem foldl_stripSlot (l : List (Fin 16)) : ∀ {s : State}, EntriesShaped s →
    EntriesShaped (l.foldl stripSlot s) ∧ ∀ k : Fin 16, k ∈ l ∨ SlotClear s k → SlotClear (l.foldl stripSlot s) k := by
  induction l with
  | nil => exact fun hs => ⟨hs, fun k hk => hk.resolve_left List.not_mem_nil⟩
  | cons a l ih =>
    intro s hs
    obtain ⟨hshaped, hclear⟩ := ih (stripSlot_shaped hs a)
    refine ⟨hshaped, fun k hk => hclear k ?_⟩
    obtain hk | hk := hk
    · obtain rfl | hk := List.mem_cons.mp hk
      · exact .inr (stripSlot_clear hs (.inl rfl))
      · exact .inl hk
    · exact .inr (stripSlot_clear hs (.inr hk))

theorem stripTenants_spec (h : EntriesShaped s) :
    EntriesShaped (stripTenants s) ∧ ∀ k : Fin 16, SlotClear (stripTenants s) k := by
  obtain ⟨hshaped, hclear⟩ := foldl_stripSlot (List.finRange 16) h
  exact ⟨hshaped, fun k => hclear k (.inl (List.mem_finRange k))⟩

/-! ## The regime's entries (R146, R148) -/

theorem postSlot_eq_false_iff (sl : Fin 16) : postSlot sl = false ↔ sl = evacuateSlot ∨ sl = alertSlot := by
  revert sl
  decide

theorem not_tenant_of_reserved {sl : Fin 16} {cls : AnnClass} (h : slotClass sl cls = true) (hp : postSlot sl = false) :
    cls ≠ .tenant := by
  rintro rfl
  rw [slotClass, hp] at h
  cases h

/-- The law of a queue that every regime entry of a speaking regime may stand in. -/
theorem entryInv_of_speaking (hs : EntriesShaped s) (hc : ∀ k : Fin 16, SlotClear s k) (hk : Speaking s) :
    EntryInv s := fun sl e he => entryGood_iff.mpr ⟨hs sl e he, fun _ => hk, hc sl e he⟩

theorem regimeEntry_shaped (h : EntriesShaped s) {sl : Fin 16} {cls : AnnClass} {m : Byte} {fs : FloorSet}
    (hslot : slotClass sl cls = true) (hp : ∀ f : Fin 48, fs.has f = true → s.present f = true) :
    EntriesShaped (regimeEntry sl cls m fs s) := by
  unfold regimeEntry
  split
  · exact h.restated (by simp) (entriesRestated_removeEntry s sl)
  · next hfs =>
    split
    · intro k x hx
      rw [createEntry_entry] at hx
      split at hx
      · next hk =>
        subst hk
        cases hx
        exact ⟨hslot, hfs, Nat.zero_le _, Nat.zero_le _, hp⟩
      · exact (h k x hx).restated (by simp) (.refl x)
    · exact h.setFloors hfs hp

/-- A regime entry that changes leaves the other slots their entries. -/
theorem regimeEntry_restated {sl k : Fin 16} (cls : AnnClass) (m : Byte) (fs : FloorSet) (hk : k ≠ sl) {x : Entry}
    (hx : (regimeEntry sl cls m fs s).entries[k] = some x) : ∃ e, s.entries[k] = some e ∧ Restated e x := by
  unfold regimeEntry at hx
  split at hx
  · exact entriesRestated_removeEntry s sl k x hx
  · split at hx
    · rw [createEntry_entry, if_neg hk] at hx
      exact ⟨x, hx, .refl x⟩
    · next e he =>
      rw [setFloors_entry he, if_neg hk] at hx
      exact ⟨x, hx, .refl x⟩

/-- A reserved slot holds no TENANT entry, and the other slots stay clear. -/
theorem regimeEntry_clear {sl : Fin 16} {cls : AnnClass} {m : Byte} {fs : FloorSet}
    (hs : EntriesShaped (regimeEntry sl cls m fs s)) (hsl : postSlot sl = false) (h : ∀ k : Fin 16, SlotClear s k)
    (k : Fin 16) : SlotClear (regimeEntry sl cls m fs s) k := by
  intro x hx
  by_cases hk : k = sl
  · subst hk
    exact fun hc => absurd hc (not_tenant_of_reserved (hs k x hx).slot hsl)
  · obtain ⟨e, he, hex⟩ := regimeEntry_restated cls m fs hk hx
    exact (h k e he).restated (fun f => by simp) hex

theorem regimeEntries_of_speaking (h : Speaking s) :
    regimeEntries s =
      regimeEntry alertSlot .alert s.config.system.alertMessage (floorsOf .alert s)
        (regimeEntry evacuateSlot .evacuate s.config.system.evacuateMessage (floorsOf .evacuate s) s) :=
  if_pos h

theorem regimeEntries_of_not_speaking (h : ¬ Speaking s) :
    regimeEntries s = removeEntry alertSlot (removeEntry evacuateSlot s) := if_neg h

/-- The regime's entries after an event that left every slot clear (R146, R148). -/
theorem entryInv_regimeEntries (hs : EntriesShaped s) (hc : ∀ k : Fin 16, SlotClear s k) :
    EntryInv (regimeEntries s) := by
  by_cases hk : Speaking s
  · have hfloors (st : FloorStatus) (f : Fin 48) (hf : (floorsOf st s).has f = true) : s.present f = true := by
      rw [floorsOf_has, Bool.and_eq_true] at hf
      exact hf.1
    have hevac := regimeEntry_shaped (m := s.config.system.evacuateMessage) hs
      (show slotClass evacuateSlot .evacuate = true from rfl) (hfloors .evacuate)
    have halert := regimeEntry_shaped (m := s.config.system.alertMessage) (fs := floorsOf .alert s) hevac
      (show slotClass alertSlot .alert = true from rfl) (fun f hf => by
        rw [State.present, (regimeEntry_frame s ..).2.1]
        exact hfloors .alert f hf)
    have hclear := regimeEntry_clear halert rfl (regimeEntry_clear hevac rfl hc)
    rw [regimeEntries_of_speaking hk]
    refine entryInv_of_speaking halert hclear ?_
    exact (speaking_congr (by simp) (by simp)).mpr hk
  · have hsilent := regimeEntries_silent hk
    have hre : EntriesRestated s (regimeEntries s) := by
      rw [regimeEntries_of_not_speaking hk]
      exact (entriesRestated_removeEntry _ _).trans (entriesRestated_removeEntry _ _)
    refine fun sl e he => entryGood_iff.mpr
      ⟨hs.restated (by simp) hre sl e he, fun hp => ?_, (hc sl).restated (by simp) hre e he⟩
    rw [Option.mem_def] at he
    obtain rfl | rfl := (postSlot_eq_false_iff sl).mp hp
    · rw [hsilent.1] at he; cases he
    · rw [hsilent.2] at he; cases he

/-! ## Every step -/

theorem EntryInv.routerStep (h : EntryInv s) (k : RouterStep s t) : EntryInv t := by
  cases k with
  | idle hi => exact h.routerIdle hi
  | worked hu hw ht => exact ((h.routerIdle hu.idle).queueEvent hw).worked ht
  | settled hw ht =>
    obtain ⟨hshaped, hclear⟩ := stripTenants_spec (h.shaped.restated hw.config (entriesRestated_of_eq hw.entries))
    exact (entryInv_regimeEntries hshaped hclear).worked ht
  | unplaced hu hv _ ht => exact ((h.routerIdle hu.idle).room hv).routerIdle ht.idle
  | began hr => exact fun sl e he => by rw [hr.entry] at he; cases he

end

/-- Settles O18: an event of the router moves entries whose law is kept, or makes one that meets it; an event of the
regime strips the TENANT entries and makes the regime's own anew. -/
theorem stepKeepsEntryLaw : Obligations.StepKeepsEntryLaw := fun _ _ hs h => hs.routerStep (step_routerStep h)

end Sys2Proof.Machine
end

section
/-! SUPPORT. Ranks, the WAITING and the PLAYING entries, and the steps of the assignment (R140, R150, R151). -/

namespace Sys2Proof.Machine

/-! ## Rank (R140) -/

theorem AnnClass.eq_of_priority {a b : AnnClass} (h : AnnClass.priority a = AnnClass.priority b) : a = b := by
  revert h
  cases a <;> cases b <;> decide

/-- The order of the router's work is the rank of R140. -/
theorem ranksAbove_iff (a b : Entry) : ranksAbove a b = true ↔ RanksOver a b := by
  simp only [ranksAbove, RanksOver, Bool.or_eq_true, Bool.and_eq_true, decide_eq_true_eq, beq_iff_eq]
  constructor
  · rintro (h | ⟨h, hage⟩)
    · exact .inl h
    · exact .inr ⟨AnnClass.eq_of_priority h, hage⟩
  · rintro (h | ⟨h, hage⟩)
    · exact .inl h
    · exact .inr ⟨by rw [h], hage⟩

theorem RanksOver.trans {a b c : Entry} (h : RanksOver a b) (k : RanksOver b c) : RanksOver a c := by
  obtain h | ⟨h, hage⟩ := h <;> obtain k | ⟨k, kage⟩ := k
  · exact .inl (Nat.lt_trans h k)
  · exact .inl (by rw [← k]; exact h)
  · exact .inl (by rw [h]; exact k)
  · exact .inr ⟨h.trans k, Nat.lt_trans hage kage⟩

theorem RanksOver.irrefl (a : Entry) : ¬ RanksOver a a := by
  rintro (h | ⟨-, h⟩)
  · exact Nat.lt_irrefl _ h
  · exact Nat.lt_irrefl _ h

/-- Entries of different ages are ranked. -/
theorem ranksOver_of_not {a b : Entry} (h : ¬ RanksOver b a) (hne : a.age ≠ b.age) : RanksOver a b := by
  by_cases hlt : AnnClass.priority a.cls < AnnClass.priority b.cls
  · exact .inl hlt
  · by_cases hgt : AnnClass.priority b.cls < AnnClass.priority a.cls
    · exact absurd (.inl hgt) h
    · have hcls : a.cls = b.cls := AnnClass.eq_of_priority (by omega)
      refine .inr ⟨hcls, ?_⟩
      by_contra hage
      exact h (.inr ⟨hcls.symm, by omega⟩)

/-- Not to be outranked is transitive: rank orders by the class's priority, then by age. -/
theorem not_ranksOver_trans {a b c : Entry} (h : ¬ RanksOver b a) (k : ¬ RanksOver c b) : ¬ RanksOver c a := by
  have hcls {x y : Entry} (hn : ¬ RanksOver y x) :
      AnnClass.priority x.cls < AnnClass.priority y.cls ∨
        AnnClass.priority x.cls = AnnClass.priority y.cls ∧ x.age ≤ y.age := by
    by_cases hlt : AnnClass.priority x.cls < AnnClass.priority y.cls
    · exact .inl hlt
    · have heq : AnnClass.priority x.cls = AnnClass.priority y.cls := by
        by_contra hne
        exact hn (.inl (by unfold AnnClass.priority at hlt hne; omega))
      exact .inr ⟨heq, Nat.not_lt.mp fun hage => hn (.inr ⟨(AnnClass.eq_of_priority heq).symm, hage⟩)⟩
  have hab := hcls h
  have hbc := hcls k
  rintro (hca | ⟨hca, hage⟩)
  · change AnnClass.priority c.cls < AnnClass.priority a.cls at hca
    omega
  · rw [hca] at hbc
    omega

/-! ## The WAITING entries (R150, R151) -/

theorem insertRanked_perm (x : Fin 16 × Entry) (l : List (Fin 16 × Entry)) : (insertRanked x l).Perm (x :: l) := by
  induction l with
  | nil => exact .refl _
  | cons y ys ih =>
    rw [insertRanked]
    split
    · exact .refl _
    · exact (List.Perm.cons y ih).trans (.swap x y ys)

theorem rankOrder_perm (l : List (Fin 16 × Entry)) : (rankOrder l).Perm l := by
  induction l with
  | nil => exact .refl _
  | cons x xs ih => exact (insertRanked_perm x _).trans (.cons x ih)

/-- No entry of the list ranks above an earlier one. -/
def RankSorted (l : List (Fin 16 × Entry)) : Prop := l.Pairwise fun x y => ¬ RanksOver y.2 x.2

theorem rankSorted_insertRanked (x : Fin 16 × Entry) {l : List (Fin 16 × Entry)} (h : RankSorted l) :
    RankSorted (insertRanked x l) := by
  induction l with
  | nil => exact List.pairwise_singleton ..
  | cons y ys ih =>
    obtain ⟨hy, hys⟩ := List.pairwise_cons.mp h
    rw [insertRanked]
    split
    · next hxy =>
      have hover : RanksOver x.2 y.2 := (ranksAbove_iff ..).mp hxy
      refine List.pairwise_cons.mpr ⟨fun z hz hzx => ?_, h⟩
      obtain rfl | hz := List.mem_cons.mp hz
      · exact RanksOver.irrefl _ (hover.trans hzx)
      · exact hy z hz (hzx.trans hover)
    · next hxy =>
      refine List.pairwise_cons.mpr ⟨fun z hz => ?_, ih hys⟩
      obtain rfl | hz := mem_insertRanked hz
      · exact fun hover => hxy ((ranksAbove_iff ..).mpr hover)
      · exact hy z hz

theorem rankSorted_rankOrder (l : List (Fin 16 × Entry)) : RankSorted (rankOrder l) := by
  induction l with
  | nil => exact List.Pairwise.nil
  | cons x xs ih => exact rankSorted_insertRanked x ih

theorem rankSorted_waiting (s : State) : RankSorted (waiting s) := rankSorted_rankOrder _

section
variable {s t : State}

theorem mem_waiting_iff {sl : Fin 16} {e : Entry} : (sl, e) ∈ waiting s ↔ Waits s sl e := by
  rw [waiting, ranked, (rankOrder_perm _).mem_iff]
  simp only [List.mem_filterMap, List.mem_finRange, true_and, slotIf, Waits]
  constructor
  · rintro ⟨k, hk⟩
    split at hk
    · next x hx =>
      split at hk
      · next hc => cases hk; exact ⟨hx, Option.isNone_iff_eq_none.mp hc⟩
      · cases hk
    · cases hk
  · rintro ⟨he, hc⟩
    exact ⟨sl, by simp [he, hc]⟩

theorem waiting_eq_nil_iff : waiting s = [] ↔ ∀ (sl : Fin 16) (e : Entry), ¬ Waits s sl e := by
  rw [List.eq_nil_iff_forall_not_mem]
  exact ⟨fun h sl e hw => h (sl, e) (mem_waiting_iff.mpr hw), fun h x hx => h x.1 x.2 (mem_waiting_iff.mp hx)⟩

/-! ## The PLAYING entries (R149) -/

theorem mem_playing_iff {c : Fin 4} {sl : Fin 16} {e : Entry} :
    (c, sl, e) ∈ playing s ↔
      s.channels[c].state = .playing ∧ s.channels[c].entry = some sl ∧ s.entries[sl] = some e := by
  simp only [playing, List.mem_filterMap, List.mem_finRange, true_and, playingEntry]
  constructor
  · rintro ⟨d, hd⟩
    split at hd
    · next hp =>
      split at hd
      · next k hk =>
        split at hd
        · next x hx => cases hd; exact ⟨hp, hk, hx⟩
        · cases hd
      · cases hd
    · cases hd
  · rintro ⟨hp, hk, he⟩
    exact ⟨c, by simp only [hp, hk, he, if_true]⟩

theorem plays_iff_mem_playing {c : Fin 4} {e : Entry} : Plays s c e ↔ ∃ sl, (c, sl, e) ∈ playing s := by
  simp only [mem_playing_iff, Plays]
  exact ⟨fun ⟨hp, sl, hsl, he⟩ => ⟨sl, hp, hsl, he⟩, fun ⟨sl, hp, hsl, he⟩ => ⟨hp, sl, hsl, he⟩⟩

theorem playing_congr (he : t.entries = s.entries) (hc : t.channels = s.channels) : playing t = playing s :=
  congrArg (List.filterMap · (List.finRange 4)) (funext fun c => by simp only [playingEntry, he, hc])

/-- The lowest-ranked of some PLAYING entries ranks above none of them. -/
theorem lowestOf_spec {l : List (Fin 4 × Fin 16 × Entry)} {y : Fin 4 × Fin 16 × Entry} (h : lowestOf l = some y) :
    ∀ x ∈ l, ¬ RanksOver y.2.2 x.2.2 := by
  induction l generalizing y with
  | nil => cases h
  | cons z zs ih =>
    rw [lowestOf] at h
    split at h
    · next hzs =>
      cases h
      cases zs with
      | nil => simp [RanksOver.irrefl]
      | cons z' zs' =>
        rw [lowestOf] at hzs
        split at hzs
        · cases hzs
        · split at hzs <;> cases hzs
    · next x hx =>
      have hlow := ih hx
      split at h
      · next hzx =>
        cases h
        intro w hw hyw
        obtain rfl | hw := List.mem_cons.mp hw
        · exact RanksOver.irrefl _ (((ranksAbove_iff ..).mp hzx).trans hyw)
        · exact hlow w hw hyw
      · next hzx =>
        cases h
        intro w hw
        obtain rfl | hw := List.mem_cons.mp hw
        · exact RanksOver.irrefl _
        · exact not_ranksOver_trans (hlow w hw) fun hover => hzx ((ranksAbove_iff ..).mpr hover)

theorem lowestOf_eq_none {l : List (Fin 4 × Fin 16 × Entry)} (h : lowestOf l = none) : l = [] := by
  cases l with
  | nil => rfl
  | cons z zs =>
    rw [lowestOf] at h
    split at h
    · cases h
    · split at h <;> cases h

/-! ## The steps of the assignment -/

theorem lowestIdle_spec {c : Fin 4} (h : lowestIdle s = some c) : s.channels[c].state = .idle := by
  simpa using List.find?_some h

theorem lowestIdle_eq_none_iff : lowestIdle s = none ↔ ∀ c : Fin 4, s.channels[c].state ≠ .idle := by
  simp [lowestIdle]

/-- A PLAYING entry returns to WAITING and its channel goes to STOPPING (R151). -/
def stopOn (c : Fin 4) (sl : Fin 16) (e : Entry) (s : State) : State :=
  State.setChannel { s with entries := s.entries.set sl (some { e with channel := none }) } c (toStopping s.channels[c])

theorem preempt_succ (n : Nat) (s : State) :
    preempt (n + 1) s =
      match lowestOf (playing s), (waiting s)[stoppingCount s]? with
      | some (c, sl, e), some (_, w) => if outranks w e then preempt n (stopOn c sl e s) else s
      | _, _ => s := rfl

/-- A step of the filling: an IDLE channel takes the highest-ranked WAITING entry (R150). -/
structure Fills (s : State) (c : Fin 4) (sl : Fin 16) (e : Entry) : Prop where
  idle : s.channels[c].state = .idle
  waits : Waits s sl e
  highest : ∀ k x, Waits s k x → ¬ RanksOver x e

/-- A preemption: the lowest-ranked PLAYING entry is outranked by a WAITING one (R151). -/
structure Preempts (s : State) (c : Fin 4) (sl : Fin 16) (e : Entry) : Prop where
  playing : (c, sl, e) ∈ playing s
  lowest : ∀ x ∈ Machine.playing s, ¬ RanksOver e x.2.2
  outranked : ∃ k w, Waits s k w ∧ outranks w e = true

theorem fills_head {c : Fin 4} {sl : Fin 16} {e : Entry} {rest : List (Fin 16 × Entry)}
    (hc : lowestIdle s = some c) (hw : waiting s = (sl, e) :: rest) : Fills s c sl e where
  idle := lowestIdle_spec hc
  waits := mem_waiting_iff.mp (by rw [hw]; exact List.mem_cons_self)
  highest k x hx hover := by
    have hsorted := rankSorted_waiting s
    rw [← mem_waiting_iff] at hx
    rw [hw] at hx hsorted
    obtain heq | hx := List.mem_cons.mp hx
    · cases heq
      exact RanksOver.irrefl _ hover
    · exact (List.pairwise_cons.mp hsorted).1 (k, x) hx hover

/-- What every step of the filling keeps, the filling keeps. -/
theorem fillIdle_preserves {P : State → Prop} (h : ∀ s c sl e, P s → Fills s c sl e → P (playOn c sl e s)) :
    ∀ (n : Nat) {s : State}, P s → P (fillIdle n s)
  | 0, _, hs => hs
  | n + 1, s, hs => by
    rw [fillIdle]
    split
    · next c sl e rest hc hw => exact fillIdle_preserves h n (h s c sl e hs (fills_head hc hw))
    · exact hs

/-- What every preemption keeps, they all keep. -/
theorem preempt_preserves {P : State → Prop} (h : ∀ s c sl e, P s → Preempts s c sl e → P (stopOn c sl e s)) :
    ∀ (n : Nat) {s : State}, P s → P (preempt n s)
  | 0, _, hs => hs
  | n + 1, s, hs => by
    rw [preempt_succ]
    split
    · next c sl e k w hl hw =>
      split
      · next hout =>
        have hwaits : Waits s k w := mem_waiting_iff.mp (List.mem_of_getElem? hw)
        exact preempt_preserves h n (h s c sl e hs ⟨lowestOf_mem hl, lowestOf_spec hl, k, w, hwaits, hout⟩)
      · exact hs
    · exact hs

theorem assign_preserves {P : State → Prop} (hfill : ∀ s c sl e, P s → Fills s c sl e → P (playOn c sl e s))
    (hstop : ∀ s c sl e, P s → Preempts s c sl e → P (stopOn c sl e s)) {s : State} (hs : P s) : P (assign s) :=
  preempt_preserves hstop 4 (fillIdle_preserves hfill 4 hs)

end

end Sys2Proof.Machine
end

section
/-! SUPPORT. Every step keeps the channels and the entries naming each other, and the age order (O19, first and second
part). -/

namespace Sys2Proof.Machine

/-! ## Channels and entries name each other (R141, R149) -/

/-- A channel's fields by its state, without the entry that it names. -/
def ChannelFields (x : Channel) : Prop :=
  match x.state with
  | .idle => x.entry = none ∧ x.message = none ∧ x.play = none ∧ x.stop = none
  | .stopping => x.entry = none ∧ x.message ≠ none ∧ x.play = none ∧ x.stop ≠ none
  | .playing => x.entry ≠ none ∧ x.play ≠ none ∧ x.stop = none

/-- An entry stands in a slot and names a channel, which has its message. -/
def NamedBack (s : State) (c : Fin 4) (sl : Fin 16) : Prop :=
  ∃ e, s.entries[sl] = some e ∧ e.channel = some c ∧ s.channels[c].message = some e.message

/-- The law of the channels with its parts named. -/
structure ChannelLaw (s : State) : Prop where
  fields : ∀ c : Fin 4, ChannelFields s.channels[c]
  named : ∀ (c : Fin 4) (sl : Fin 16), s.channels[c].entry = some sl → NamedBack s c sl
  naming : ∀ (sl : Fin 16) (e : Entry) (c : Fin 4), s.entries[sl] = some e → e.channel = some c →
    s.channels[c].entry = some sl

/-- What of an entry a channel has a part in. -/
def channelView (e : Entry) : Option (Fin 4) × Byte := (e.channel, e.message)

section
variable {s t u : State}

theorem playing_of_entry {x : Channel} (h : ChannelFields x) {sl : Fin 16} (he : x.entry = some sl) :
    x.state = .playing := by
  unfold ChannelFields at h
  cases hs : x.state with
  | playing => rfl
  | idle | stopping => simp [hs, he] at h

theorem channelGood_iff (s : State) (c : Fin 4) :
    ChannelGood s c ↔
      ChannelFields s.channels[c] ∧ ∀ sl : Fin 16, s.channels[c].entry = some sl → NamedBack s c sl := by
  unfold ChannelGood ChannelFields NamedBack
  generalize s.channels[c] = x
  obtain ⟨state, entry, message, play, stop, lapse⟩ := x
  cases state with
  | idle | stopping =>
    refine ⟨fun h => ⟨h, fun sl hsl => ?_⟩, fun h => h.1⟩
    obtain ⟨hnone, -⟩ := h
    cases hnone.symm.trans hsl
  | playing =>
    cases entry with
    | none => exact ⟨fun ⟨_, _, hno⟩ => hno.elim, fun ⟨⟨hno, _⟩, _⟩ => (hno rfl).elim⟩
    | some sl =>
      constructor
      · rintro ⟨hplay, hstop, hback⟩
        exact ⟨⟨nofun, hplay, hstop⟩, fun k hk => by cases hk; exact hback⟩
      · rintro ⟨⟨-, hplay, hstop⟩, hback⟩
        exact ⟨hplay, hstop, hback sl rfl⟩

theorem channelInv_iff : ChannelInv s ↔ ChannelLaw s := by
  constructor
  · rintro ⟨hgood, hnaming⟩
    exact ⟨fun c => ((channelGood_iff s c).mp (hgood c)).1, fun c => ((channelGood_iff s c).mp (hgood c)).2,
      fun sl e c he hc => (hnaming sl e he c hc).2⟩
  · intro h
    exact ⟨fun c => (channelGood_iff s c).mpr ⟨h.fields c, h.named c⟩, fun sl e he c hc =>
      ⟨playing_of_entry (h.fields c) (h.naming sl e c he hc), h.naming sl e c he hc⟩⟩

theorem ChannelRuns.fields {c d : Channel} (h : ChannelRuns c d) (hc : ChannelFields c) : ChannelFields d := by
  unfold ChannelFields at hc ⊢
  simpa only [h.state, h.entry, h.message, h.play, h.stop, ne_eq] using hc

/-- The law after a change of some slots and of some channels, among which the names that left or stayed are closed. -/
theorem ChannelLaw.patch (h : ChannelLaw s) (S : Fin 16 → Prop) (C : Fin 4 → Prop)
    (hclosed : ∀ d k, s.channels[d].entry = some k → (C d ↔ S k))
    (hslot : ∀ k : Fin 16, ¬ S k → t.entries[k].map channelView = s.entries[k].map channelView)
    (hchannel : ∀ d : Fin 4, ¬ C d → ChannelRuns s.channels[d] t.channels[d])
    (hnew : ∀ d : Fin 4, C d → ChannelFields t.channels[d] ∧ ∀ k, t.channels[d].entry = some k → NamedBack t d k)
    (hnaming : ∀ (k : Fin 16) e d, S k → t.entries[k] = some e → e.channel = some d → t.channels[d].entry = some k) :
    ChannelLaw t where
  fields d := by
    by_cases hd : C d
    · exact (hnew d hd).1
    · exact (hchannel d hd).fields (h.fields d)
  named d k hk := by
    by_cases hd : C d
    · exact (hnew d hd).2 k hk
    · rw [(hchannel d hd).entry] at hk
      obtain ⟨e, he, hec, hm⟩ := h.named d k hk
      have hview := hslot k (mt (hclosed d k hk).mpr hd)
      rw [he] at hview
      obtain ⟨x, hx, hxe⟩ := Option.map_eq_some_iff.mp hview
      obtain ⟨hxc, hxm⟩ := Prod.mk.inj hxe
      exact ⟨x, hx, hxc.trans hec, (hchannel d hd).message.trans (hm.trans (congrArg some hxm.symm))⟩
  naming k x d hx hd := by
    by_cases hk : S k
    · exact hnaming k x d hk hx hd
    · have hview := hslot k hk
      rw [hx] at hview
      obtain ⟨e, he, hxe⟩ := Option.map_eq_some_iff.mp hview.symm
      obtain ⟨hec, -⟩ := Prod.mk.inj hxe
      have hs := h.naming k e d he (hec.trans hd)
      exact (hchannel d (mt (hclosed d k hs).mp hk)).entry.trans hs

/-- The law where no slot and no channel changes but for timers, lapses, and what no channel has a part in. -/
theorem ChannelLaw.of_views (h : ChannelLaw s)
    (hslot : ∀ k : Fin 16, t.entries[k].map channelView = s.entries[k].map channelView)
    (hchannel : ∀ d : Fin 4, ChannelRuns s.channels[d] t.channels[d]) : ChannelLaw t :=
  h.patch (fun _ => False) (fun _ => False) (fun _ _ _ => Iff.rfl) (fun k _ => hslot k) (fun d _ => hchannel d)
    (fun _ => False.elim) (fun _ _ _ => False.elim)

theorem ChannelLaw.routerIdle (h : ChannelLaw s) (k : RouterIdle s t) : ChannelLaw t :=
  h.of_views (fun j => by rw [k.entries]) k.channel

/-- A slot that no channel names takes an entry that waits, or none. -/
theorem ChannelLaw.slot (h : ChannelLaw s) (sl : Fin 16) (hs : ∀ e, s.entries[sl] = some e → e.channel = none)
    (ht : ∀ e, t.entries[sl] = some e → e.channel = none)
    (hslot : ∀ k : Fin 16, k ≠ sl → t.entries[k].map channelView = s.entries[k].map channelView)
    (hc : t.channels = s.channels) : ChannelLaw t := by
  refine h.patch (· = sl) (fun _ => False) (fun d k hd => iff_of_false id ?_) hslot
    (fun d _ => by rw [hc]; exact .refl _) (fun _ => False.elim) ?_
  · rintro rfl
    obtain ⟨e, he, hec, -⟩ := h.named d k hd
    rw [hs e he] at hec
    cases hec
  · rintro k e d rfl he hd
    rw [ht e he] at hd
    cases hd

/-- A channel stops playing the entry of a slot, which goes or waits. -/
theorem ChannelLaw.leave (h : ChannelLaw s) {sl : Fin 16} {c : Fin 4} {x : Channel}
    (hsl : s.channels[c].entry = some sl) (hx : ChannelFields x) (hxe : x.entry = none)
    (ht : ∀ e, t.entries[sl] = some e → e.channel = none)
    (hslot : ∀ k : Fin 16, k ≠ sl → t.entries[k].map channelView = s.entries[k].map channelView)
    (hc : t.channels = s.channels.set c x) : ChannelLaw t := by
  have hchannel (d : Fin 4) : t.channels[d] = if d = c then x else s.channels[d] := by rw [hc, getElem_set_fin]
  refine h.patch (· = sl) (· = c) (fun d k hd => ⟨?_, ?_⟩) hslot (fun d hd => ?_) ?_ ?_
  · rintro rfl
    rw [hsl] at hd
    exact (Option.some.inj hd).symm
  · rintro rfl
    obtain ⟨e, he, hec, -⟩ := h.named c k hsl
    obtain ⟨e', he', hec', -⟩ := h.named d k hd
    rw [he] at he'
    cases he'
    rw [hec] at hec'
    exact (Option.some.inj hec').symm
  · rw [hchannel, if_neg hd]
    exact .refl _
  · rintro d rfl
    rw [hchannel, if_pos rfl]
    exact ⟨hx, fun k hk => by rw [hxe] at hk; cases hk⟩
  · rintro k e d rfl he hd
    rw [ht e he] at hd
    cases hd

theorem channelFields_toIdle (x : Channel) : ChannelFields (toIdle x) := ⟨rfl, rfl, rfl, rfl⟩

theorem channelFields_toStopping {x : Channel} (h : x.message ≠ none) : ChannelFields (toStopping x) :=
  ⟨rfl, h, rfl, nofun⟩

/-- A channel that plays an entry has a message (R149). -/
theorem ChannelLaw.message (h : ChannelLaw s) {sl : Fin 16} {c : Fin 4} (hsl : s.channels[c].entry = some sl) :
    s.channels[c].message ≠ none := by
  obtain ⟨e, -, -, hm⟩ := h.named c sl hsl
  rw [hm]
  nofun

theorem channelView_closeGap (age : Nat) (e : Entry) : channelView (closeGap age e) = channelView e := by
  rw [closeGap_eq_with]
  rfl

theorem withoutSlot_view (es : Vector (Option Entry) 16) {sl k : Fin 16} (age : Nat) (hk : k ≠ sl) :
    (withoutSlot es sl age)[k].map channelView = es[k].map channelView := by
  rw [withoutSlot_entry, if_neg hk, Option.map_map]
  exact congrArg (Option.map · es[k]) (funext fun e => channelView_closeGap age e)

theorem withoutSlot_self (es : Vector (Option Entry) 16) (sl : Fin 16) (age : Nat) :
    (withoutSlot es sl age)[sl] = none := by
  rw [withoutSlot_entry, if_pos rfl]

theorem ChannelLaw.removeEntry (h : ChannelLaw s) (sl : Fin 16) : ChannelLaw (removeEntry sl s) := by
  cases he : s.entries[sl] with
  | none => rw [removeEntry_of_empty he]; exact h
  | some e =>
    have hgone (x : Entry) (hx : (withoutSlot s.entries sl e.age)[sl] = some x) : x.channel = none := by
      rw [withoutSlot_self] at hx
      cases hx
    cases hc : e.channel with
    | none =>
      rw [removeEntry_of_waiting he hc]
      exact h.slot sl (fun x hx => by rw [he] at hx; cases hx; exact hc) hgone
        (fun k hk => withoutSlot_view _ _ hk) rfl
    | some c =>
      rw [removeEntry_of_playing he hc]
      have hsl := h.naming sl e c he hc
      exact h.leave hsl (channelFields_toStopping (h.message hsl)) rfl hgone (fun k hk => withoutSlot_view _ _ hk) rfl

theorem ChannelLaw.createEntry (h : ChannelLaw s) {sl : Fin 16} (hsl : s.entries[sl] = none) (cls : AnnClass)
    (m : Byte) (fs : FloorSet) (n : Nat) (o : Option (Fin 4)) : ChannelLaw (createEntry sl cls m fs n o s) := by
  refine h.slot sl (fun e he => by rw [hsl] at he; cases he) (fun e he => ?_) (fun k hk => ?_) rfl
  · rw [createEntry_entry, if_pos rfl] at he
    cases he
    rfl
  · rw [createEntry_entry, if_neg hk]

theorem ChannelLaw.setFloors (h : ChannelLaw s) (sl : Fin 16) (fs : FloorSet) : ChannelLaw (setFloors sl fs s) := by
  refine h.of_views (fun k => ?_) fun d => by simp [ChannelRuns.refl]
  cases he : s.entries[sl] with
  | none => simp only [Machine.setFloors, he]
  | some e =>
    rw [setFloors_entry he]
    split
    · next hk => subst hk; rw [he]; rfl
    · rfl

theorem ChannelLaw.setLapse (h : ChannelLaw s) (c : Fin 4) (b : Bool) : ChannelLaw (setLapse c b s) :=
  h.routerIdle (routerIdle_setLapse s c b)

theorem ChannelLaw.countPlay (h : ChannelLaw s) (c : Fin 4) : ChannelLaw (countPlay c s) := by
  cases hn : s.channels[c].entry with
  | none => rw [countPlay_of_none hn]; exact h
  | some sl =>
    obtain ⟨e, he, -, -⟩ := h.named c sl hn
    cases hr : reachedRepeat (playedOnce e) with
    | true =>
      rw [countPlay_last hn he hr]
      exact h.leave hn (channelFields_toIdle _) rfl
        (fun x hx => by rw [setChannel_entries, withoutSlot_self] at hx; cases hx)
        (fun k hk => withoutSlot_view _ _ hk) rfl
    | false =>
      rw [countPlay_again hn he hr]
      refine h.of_views (fun k => ?_) fun d => ?_
      · rw [setChannel_entries, getElem_set_fin]
        split
        · next hk => subst hk; rw [he]; rfl
        · rfl
      · rw [setChannel_channels, getElem_set_fin]
        split
        · next hd =>
          subst hd
          have hf := h.fields d
          simp only [ChannelFields, playing_of_entry hf hn] at hf
          exact ⟨rfl, rfl, rfl, iff_of_false nofun hf.2.1, Iff.rfl⟩
        · exact .refl _

/-- A channel that plays no entry goes to IDLE. -/
theorem ChannelLaw.free (h : ChannelLaw s) {c : Fin 4} (hc : s.channels[c].entry = none) :
    ChannelLaw (s.setChannel c (toIdle s.channels[c])) := by
  have hchannel (d : Fin 4) : (s.setChannel c (toIdle s.channels[c])).channels[d] =
      if d = c then toIdle s.channels[c] else s.channels[d] := by rw [setChannel_channels, getElem_set_fin]
  refine h.patch (fun _ => False) (· = c) (fun d k hd => iff_of_false ?_ id) (fun _ _ => rfl) (fun d hd => ?_) ?_
    (fun _ _ _ => False.elim)
  · rintro rfl
    rw [hc] at hd
    cases hd
  · rw [hchannel, if_neg hd]
    exact .refl _
  · rintro d rfl
    rw [hchannel, if_pos rfl]
    exact ⟨channelFields_toIdle _, nofun⟩

theorem entry_of_stopping {x : Channel} (h : ChannelFields x) (hs : x.state = .stopping ∨ x.stop ≠ none) :
    x.state = .stopping ∧ x.entry = none := by
  unfold ChannelFields at h
  cases hx : x.state with
  | stopping => simp only [hx] at h; exact ⟨rfl, h.1⟩
  | idle => simp_all
  | playing => simp_all

theorem ChannelLaw.room (h : ChannelLaw u) {v : State} (k : RoomMade u v) : ChannelLaw v := by
  cases k with
  | free => exact h
  | displaced => exact h.removeEntry _

theorem ChannelLaw.queueEvent (h : ChannelLaw u) {w : State} (k : QueueEvent u w) : ChannelLaw w := by
  cases k with
  | cancelled sl => exact h.removeEntry sl
  | posted hroom hfree =>
    exact (h.room hroom).createEntry (freeSlot_postSlot hfree).2 ..
  | played c b => exact (h.countPlay c).setLapse c b
  | freed c b hs => exact (h.free (entry_of_stopping (h.fields c) hs).2).setLapse c b

/-! ## The regime's events (R146 to R148) -/

section
variable {P : State → Prop} (hremove : ∀ s sl, P s → P (Machine.removeEntry sl s))
  (hset : ∀ s sl fs, P s → P (Machine.setFloors sl fs s))
  (hcreate : ∀ s sl cls m fs, s.entries[sl] = none → P s → P (Machine.createEntry sl cls m fs 0 none s))
include hremove hset

theorem stripSlot_preserves (h : P s) (sl : Fin 16) : P (stripSlot s sl) := by
  unfold stripSlot
  split
  · exact h
  · split
    · dsimp only
      split
      · exact hremove s sl h
      · exact hset s sl _ h
    · exact h

include hcreate

theorem regimeEntry_preserves (h : P s) (sl : Fin 16) (cls : AnnClass) (m : Byte) (fs : FloorSet) :
    P (regimeEntry sl cls m fs s) := by
  unfold regimeEntry
  split
  · exact hremove s sl h
  · split
    · next hno => exact hcreate s sl cls m fs hno h
    · exact hset s sl fs h

/-- What the changes of the queue keep, the stripping and the regime's entries keep. -/
theorem regimeEntries_preserves (h : P s) : P (regimeEntries (stripTenants s)) := by
  have hstripped : P (stripTenants s) :=
    List.foldlRecOn _ _ h fun u hu sl _ => stripSlot_preserves hremove hset hu sl
  unfold regimeEntries
  split
  · exact regimeEntry_preserves hremove hset hcreate (regimeEntry_preserves hremove hset hcreate hstripped ..) ..
  · exact hremove _ _ (hremove _ _ hstripped)

end

theorem ChannelLaw.settled (h : ChannelLaw s) {w : State} (hw : SpeakersKept s w) :
    ChannelLaw (regimeEntries (stripTenants w)) :=
  regimeEntries_preserves (fun _ sl hs => hs.removeEntry sl) (fun _ sl fs hs => hs.setFloors sl fs)
    (fun _ _ cls m fs hno hs => hs.createEntry hno cls m fs 0 none)
    (h.of_views (fun k => by rw [hw.entries]) fun d => by rw [hw.channels]; exact .refl _)

/-! ## The assignment (R150, R151) -/

theorem playOn_channel (c d : Fin 4) (sl : Fin 16) (e : Entry) (s : State) :
    (playOn c sl e s).channels[d] =
      if d = c then
        { s.channels[c] with
          state := .playing, entry := some sl, message := some e.message, play := some (playTime s), stop := none }
      else s.channels[d] := by
  rw [playOn, setChannel_channels, getElem_set_fin]

theorem playOn_entry (c : Fin 4) (sl k : Fin 16) (e : Entry) (s : State) :
    (playOn c sl e s).entries[k] = if k = sl then some { e with channel := some c } else s.entries[k] := by
  rw [playOn, setChannel_entries, getElem_set_fin]

theorem ChannelLaw.playOn (h : ChannelLaw s) {c : Fin 4} {sl : Fin 16} {e : Entry}
    (hc : s.channels[c].state = .idle) (hw : Waits s sl e) : ChannelLaw (playOn c sl e s) := by
  obtain ⟨he, hec⟩ := hw
  refine h.patch (· = sl) (· = c) (fun d k hd => iff_of_false ?_ ?_) (fun k hk => ?_) (fun d hd => ?_) ?_ ?_
  · rintro rfl
    rw [playing_of_entry (h.fields d) hd] at hc
    cases hc
  · rintro rfl
    obtain ⟨x, hx, hxc, -⟩ := h.named d k hd
    rw [he] at hx
    cases hx
    rw [hec] at hxc
    cases hxc
  · rw [playOn_entry, if_neg hk]
  · rw [playOn_channel, if_neg hd]
    exact .refl _
  · rintro d rfl
    rw [playOn_channel, if_pos rfl]
    refine ⟨⟨nofun, nofun, rfl⟩, fun k hk => ?_⟩
    cases hk
    refine ⟨{ e with channel := some d }, by rw [playOn_entry, if_pos rfl], rfl, ?_⟩
    rw [playOn_channel, if_pos rfl]
  · rintro k x d rfl hx hd
    rw [playOn_entry, if_pos rfl] at hx
    cases hx
    cases hd
    rw [playOn_channel, if_pos rfl]

theorem stopOn_entry (c : Fin 4) (sl k : Fin 16) (e : Entry) (s : State) :
    (stopOn c sl e s).entries[k] = if k = sl then some { e with channel := none } else s.entries[k] := by
  rw [stopOn, setChannel_entries, getElem_set_fin]

theorem stopOn_channel (c d : Fin 4) (sl : Fin 16) (e : Entry) (s : State) :
    (stopOn c sl e s).channels[d] = if d = c then toStopping s.channels[c] else s.channels[d] := by
  rw [stopOn, setChannel_channels, getElem_set_fin]

theorem ChannelLaw.stopOn (h : ChannelLaw s) {c : Fin 4} {sl : Fin 16} {e : Entry} (hm : (c, sl, e) ∈ playing s) :
    ChannelLaw (stopOn c sl e s) := by
  obtain ⟨-, hsl, -⟩ := mem_playing_iff.mp hm
  refine h.leave hsl (channelFields_toStopping (h.message hsl)) rfl (fun x hx => ?_) (fun k hk => ?_) rfl
  · rw [stopOn_entry, if_pos rfl] at hx
    cases hx
    rfl
  · rw [stopOn_entry, if_neg hk]

theorem ChannelLaw.assign (h : ChannelLaw s) : ChannelLaw (assign s) :=
  assign_preserves (fun _ _ _ _ hs k => hs.playOn k.idle k.waits) (fun _ _ _ _ hs k => hs.stopOn k.playing) h

theorem ChannelLaw.route (h : ChannelLaw s) : ChannelLaw (route s) :=
  h.of_views (fun j => by simp) (fun d => by simp [ChannelRuns.refl])

theorem ChannelLaw.worked (h : ChannelLaw s) (k : RouterKept (Machine.route (Machine.assign s)) t) : ChannelLaw t :=
  h.assign.route.routerIdle k.idle

theorem ChannelLaw.routerStep (h : ChannelLaw s) (k : RouterStep s t) : ChannelLaw t := by
  cases k with
  | idle hi => exact h.routerIdle hi
  | worked hu hw ht => exact ((h.routerIdle hu.idle).queueEvent hw).worked ht
  | settled hw ht => exact (h.settled hw).worked ht
  | unplaced hu hv _ ht => exact ((h.routerIdle hu.idle).room hv).routerIdle ht.idle
  | began hr =>
    refine ⟨fun c => ?_, fun c sl hsl => ?_, fun sl e c he => by rw [hr.entry] at he; cases he⟩
    · rw [hr.channel]
      exact ⟨rfl, rfl, rfl, rfl⟩
    · rw [hr.channel] at hsl
      cases hsl

end

/-! ## The age order (R142) -/

theorem countP_toList {n : Nat} {α : Type} (v : Vector α n) (p : α → Bool) :
    v.toList.countP p = (List.finRange n).countP fun i => p v[i] := by
  have hv : v.toList = (List.finRange n).map fun i : Fin n => v[i] :=
    List.ext_getElem (by simp) fun i _ _ => by simp
  rw [hv, List.countP_map]
  rfl

theorem entryCount_eq (s : State) : entryCount s = (List.finRange 16).countP fun k => s.entries[k].isSome :=
  countP_toList ..

section
variable {s t u : State}

/-- The number of entries after one slot changes. -/
theorem entryCount_recount (sl : Fin 16) (h : ∀ k : Fin 16, k ≠ sl → t.entries[k].isSome = s.entries[k].isSome) :
    entryCount t = recount s.entries[sl].isSome t.entries[sl].isSome (entryCount s) := by
  rw [entryCount_eq, entryCount_eq]
  exact countP_finRange_recount sl (p := fun k => s.entries[k].isSome) h

theorem AgeInv.of_ages (h : AgeInv s)
    (ha : ∀ k : Fin 16, t.entries[k].map (·.age) = s.entries[k].map (·.age)) : AgeInv t := by
  have hcount : entryCount t = entryCount s := by
    rw [entryCount_eq, entryCount_eq]
    refine congrArg (List.countP · _) (funext fun k => ?_)
    rw [← Option.isSome_map (f := (·.age)), ha, Option.isSome_map]
  have hage {k : Fin 16} {x : Entry} (hx : t.entries[k] = some x) : ∃ e, s.entries[k] = some e ∧ x.age = e.age := by
    have hk := ha k
    rw [hx] at hk
    obtain ⟨e, he, hxe⟩ := Option.map_eq_some_iff.mp hk.symm
    exact ⟨e, he, hxe.symm⟩
  intro sl x hx
  obtain ⟨e, he, hxe⟩ := hage hx
  obtain ⟨hlt, hne⟩ := h sl e he
  rw [hcount, hxe]
  refine ⟨hlt, fun k y hk hy => ?_⟩
  obtain ⟨d, hd, hyd⟩ := hage hy
  rw [hyd]
  exact hne k d hk hd

theorem entryCount_withoutSlot {sl : Fin 16} {e : Entry} {age : Nat} (he : s.entries[sl] = some e)
    (ht : t.entries = withoutSlot s.entries sl age) : entryCount t = entryCount s - 1 := by
  have hother (k : Fin 16) (hk : k ≠ sl) : t.entries[k].isSome = s.entries[k].isSome := by
    rw [ht, withoutSlot_entry, if_neg hk, Option.isSome_map]
  rw [entryCount_recount sl hother, ht, withoutSlot_self, he]
  rfl

/-- An entry that leaves the queue lets every younger one close the gap (R142). -/
theorem AgeInv.withoutSlot (h : AgeInv s) {sl : Fin 16} {e : Entry} (he : s.entries[sl] = some e)
    (ht : t.entries = withoutSlot s.entries sl e.age) : AgeInv t := by
  have hcount := entryCount_withoutSlot he ht
  obtain ⟨hsl, hother⟩ := h sl e he
  have hbefore {k : Fin 16} {x : Entry} (hx : t.entries[k] = some x) :
      k ≠ sl ∧ ∃ y, s.entries[k] = some y ∧ closeGap e.age y = x := by
    rw [ht, withoutSlot_entry] at hx
    split at hx
    · cases hx
    · next hk => exact ⟨hk, Option.map_eq_some_iff.mp hx⟩
  have hage (y : Entry) : (closeGap e.age y).age = if e.age < y.age then y.age - 1 else y.age := by
    unfold closeGap
    split <;> rfl
  intro k x hx
  obtain ⟨hk, y, hy, rfl⟩ := hbefore hx
  obtain ⟨hlt, hne⟩ := h k y hy
  have hye := hother k y hk hy
  rw [hage]
  refine ⟨by split <;> omega, fun j z hj hz => ?_⟩
  obtain ⟨hjsl, w, hw, rfl⟩ := hbefore hz
  have hwe := hother j w hjsl hw
  have hwy := hne j w hj hw
  rw [hage]
  split <;> split <;> omega

theorem AgeInv.removeEntry (h : AgeInv s) (sl : Fin 16) : AgeInv (removeEntry sl s) := by
  cases he : s.entries[sl] with
  | none => rw [removeEntry_of_empty he]; exact h
  | some e => exact h.withoutSlot he (removeEntry_entries he)

theorem AgeInv.createEntry (h : AgeInv s) {sl : Fin 16} (hsl : s.entries[sl] = none) (cls : AnnClass) (m : Byte)
    (fs : FloorSet) (n : Nat) (o : Option (Fin 4)) : AgeInv (createEntry sl cls m fs n o s) := by
  have hentry := fun k => createEntry_entry sl k cls m fs n o s
  have hcount : entryCount (Machine.createEntry sl cls m fs n o s) = entryCount s + 1 := by
    rw [entryCount_recount (s := s) sl fun k hk => by rw [hentry, if_neg hk], hentry, if_pos rfl, hsl]
    rfl
  intro k x hx
  rw [hentry] at hx
  rw [hcount]
  split at hx
  · next hk =>
    subst hk
    cases hx
    refine ⟨Nat.lt_succ_self _, fun j y hj hy => ?_⟩
    rw [hentry, if_neg hj] at hy
    exact Nat.ne_of_lt (h j y hy).1
  · next hk =>
    obtain ⟨hlt, hne⟩ := h k x hx
    refine ⟨Nat.lt_succ_of_lt hlt, fun j y hj hy => ?_⟩
    rw [hentry] at hy
    split at hy
    · cases hy
      exact Nat.ne_of_gt hlt
    · exact hne j y hj hy

theorem AgeInv.setFloors (h : AgeInv s) (sl : Fin 16) (fs : FloorSet) : AgeInv (setFloors sl fs s) := by
  refine h.of_ages fun k => ?_
  cases he : s.entries[sl] with
  | none => simp only [Machine.setFloors, he]
  | some e =>
    rw [setFloors_entry he]
    split
    · next hk => subst hk; rw [he]; rfl
    · rfl

theorem AgeInv.countPlay (h : AgeInv s) (c : Fin 4) : AgeInv (countPlay c s) := by
  cases hn : s.channels[c].entry with
  | none => rw [countPlay_of_none hn]; exact h
  | some sl =>
    cases he : s.entries[sl] with
    | none => rw [countPlay_of_empty hn he]; exact h
    | some e =>
      cases hr : reachedRepeat (playedOnce e) with
      | true =>
        rw [countPlay_last hn he hr]
        exact h.withoutSlot he rfl
      | false =>
        rw [countPlay_again hn he hr]
        refine h.of_ages fun k => ?_
        rw [setChannel_entries, getElem_set_fin]
        split
        · next hk => subst hk; rw [he]; rfl
        · rfl

theorem AgeInv.of_entries (h : AgeInv s) (he : t.entries = s.entries) : AgeInv t := h.of_ages fun k => by rw [he]

theorem AgeInv.assign (h : AgeInv s) : AgeInv (assign s) := by
  have hview (x : Option Entry) : x.map (·.age) = (x.map offChannel).map (·.age) := by
    rw [Option.map_map]
    rfl
  exact h.of_ages fun k => by rw [hview, assign_offChannel, ← hview]

theorem AgeInv.worked (h : AgeInv s) (k : RouterKept (route (Machine.assign s)) t) : AgeInv t :=
  h.assign.of_entries (by rw [k.entries]; simp)

theorem AgeInv.room (h : AgeInv u) {v : State} (k : RoomMade u v) : AgeInv v := by
  cases k with
  | free => exact h
  | displaced => exact h.removeEntry _

theorem AgeInv.queueEvent (h : AgeInv u) {w : State} (k : QueueEvent u w) : AgeInv w := by
  cases k with
  | cancelled sl => exact h.removeEntry sl
  | posted hroom hfree => exact (h.room hroom).createEntry (freeSlot_postSlot hfree).2 _ _ _ _ _
  | played c b => exact (h.countPlay c).of_entries (by simp)
  | freed c b => exact h.of_entries rfl

theorem AgeInv.settled (h : AgeInv s) {w : State} (hw : SpeakersKept s w) :
    AgeInv (regimeEntries (stripTenants w)) :=
  regimeEntries_preserves (fun _ sl hs => hs.removeEntry sl) (fun _ sl fs hs => hs.setFloors sl fs)
    (fun _ _ cls m fs hno hs => hs.createEntry hno cls m fs 0 none) (h.of_entries hw.entries)

theorem AgeInv.routerStep (h : AgeInv s) (k : RouterStep s t) : AgeInv t := by
  cases k with
  | idle hi => exact h.of_entries hi.entries
  | worked hu hw ht => exact ((h.of_entries hu.entries).queueEvent hw).worked ht
  | settled hw ht => exact (h.settled hw).worked ht
  | unplaced hu hv _ ht => exact ((h.of_entries hu.entries).room hv).of_entries ht.entries
  | began hr => exact fun sl e he => by rw [hr.entry] at he; cases he

end

end Sys2Proof.Machine
end

section
/-! SUPPORT. What the assignment and the routing leave, and the announcement laws that every step keeps (O19). -/

namespace Sys2Proof.Machine

/-! ## Counting channels -/

/-- The number of channels in a state. -/
def channelsIn (st : ChannelState) (s : State) : Nat := (List.finRange 4).countP fun d => s.channels[d].state == st

theorem stoppingCount_eq (s : State) : stoppingCount s = channelsIn .stopping s := countP_toList ..

section
variable {s t u : State}

theorem channelsIn_le (st : ChannelState) (s : State) : channelsIn st s ≤ 4 :=
  List.countP_le_length.trans (by simp)

theorem channelsIn_eq_zero {st : ChannelState} : channelsIn st s = 0 ↔ ∀ c : Fin 4, s.channels[c].state ≠ st := by
  simp [channelsIn]

/-- A channel that leaves a state is one fewer in it. -/
theorem channelsIn_leave {st : ChannelState} {c : Fin 4} (hs : s.channels[c].state = st) (ht : t.channels[c].state ≠ st)
    (h : ∀ d : Fin 4, d ≠ c → t.channels[d] = s.channels[d]) : channelsIn st t < channelsIn st s := by
  have hpos : channelsIn st s ≠ 0 := fun hz => channelsIn_eq_zero.mp hz c hs
  have hcount : channelsIn st t = channelsIn st s - 1 := by
    unfold channelsIn
    rw [countP_finRange_recount c (p := fun d => s.channels[d].state == st) fun d hd => by rw [h d hd]]
    rw [beq_iff_eq.mpr hs, beq_eq_false_iff_ne.mpr ht]
    rfl
  omega

/-! ## The first step of the assignment (R150) -/

/-- No channel is IDLE, or no entry is WAITING. -/
def Filled (s : State) : Prop := (∀ c : Fin 4, s.channels[c].state ≠ .idle) ∨ waiting s = []

theorem channelsIn_playOn {c : Fin 4} (sl : Fin 16) (e : Entry) (h : s.channels[c].state = .idle) :
    channelsIn .idle (playOn c sl e s) < channelsIn .idle s :=
  channelsIn_leave h (by rw [playOn_channel, if_pos rfl]; nofun) fun d hd => by rw [playOn_channel, if_neg hd]

theorem filled_fillIdle : ∀ (n : Nat) {s : State}, channelsIn .idle s ≤ n → Filled (fillIdle n s)
  | 0, s, h => .inl (channelsIn_eq_zero.mp (Nat.le_zero.mp h))
  | n + 1, s, h => by
    rw [fillIdle]
    split
    · next c sl e rest hc _ =>
      have hless := channelsIn_playOn sl e (lowestIdle_spec hc)
      exact filled_fillIdle n (by omega)
    · next hno =>
      cases hc : lowestIdle s with
      | none => exact .inl (lowestIdle_eq_none_iff.mp hc)
      | some c =>
        refine .inr ?_
        cases hw : waiting s with
        | nil => rfl
        | cons x rest => exact (hno c x.1 x.2 rest hc hw).elim

theorem preempt_of_none_waiting (h : waiting s = []) (n : Nat) : preempt n s = s := by
  cases n with
  | zero => rfl
  | succ n => rw [preempt_succ, h]; simp

theorem stopOn_not_idle {c : Fin 4} {sl : Fin 16} {e : Entry} (h : ∀ d : Fin 4, s.channels[d].state ≠ .idle)
    (d : Fin 4) : (stopOn c sl e s).channels[d].state ≠ .idle := by
  rw [stopOn_channel]
  split
  · nofun
  · exact h d

theorem Filled.preempt (h : Filled s) (n : Nat) : Filled (preempt n s) := by
  obtain hno | hw := h
  · exact .inl (preempt_preserves (P := fun s => ∀ c : Fin 4, s.channels[c].state ≠ .idle)
      (fun _ _ _ _ hs _ => stopOn_not_idle hs) n hno)
  · rw [preempt_of_none_waiting hw]
    exact .inr hw

/-! ## The second step of the assignment (R151) -/

/-- The (S + 1)th WAITING entry does not outrank the lowest-ranked PLAYING one. -/
def Unoutranked (s : State) : Prop :=
  ∀ y x, lowestOf (playing s) = some y → (waiting s)[stoppingCount s]? = some x → outranks x.2 y.2.2 = false

theorem channelsIn_stopOn {c : Fin 4} {sl : Fin 16} {e : Entry} (h : (c, sl, e) ∈ playing s) :
    channelsIn .playing (stopOn c sl e s) < channelsIn .playing s :=
  channelsIn_leave (mem_playing_iff.mp h).1 (by rw [stopOn_channel, if_pos rfl]; nofun)
    fun d hd => by rw [stopOn_channel, if_neg hd]

theorem unoutranked_preempt : ∀ (n : Nat) {s : State}, channelsIn .playing s ≤ n → Unoutranked (preempt n s)
  | 0, s, h => by
    intro y x hy _
    exact absurd (mem_playing_iff.mp (lowestOf_mem hy)).1 (channelsIn_eq_zero.mp (Nat.le_zero.mp h) y.1)
  | n + 1, s, h => by
    rw [preempt_succ]
    split
    · next c sl e k w hl hw =>
      split
      · have hless := channelsIn_stopOn (lowestOf_mem hl)
        exact unoutranked_preempt n (by omega)
      · next hout =>
        intro y x hy hx
        rw [hl] at hy
        rw [hw] at hx
        cases hy
        cases hx
        exact Bool.not_eq_true _ ▸ hout
    · next hno => exact fun y x hy hx => (hno y.1 y.2.1 y.2.2 x.1 x.2 hy hx).elim

theorem countP_le_of_drop {α : Type} {p : α → Bool} {l : List α} {n : Nat} (h : ∀ x ∈ l.drop n, p x = false) :
    l.countP p ≤ n := by
  have hrest : (l.drop n).countP p = 0 := List.countP_eq_zero.mpr fun x hx => by rw [h x hx]; nofun
  calc l.countP p = (l.take n).countP p + (l.drop n).countP p := by rw [← List.countP_append, List.take_append_drop]
    _ ≤ (l.take n).length := by rw [hrest]; exact List.countP_le_length
    _ ≤ n := List.length_take_le ..

/-- The WAITING entries that outrank an entry, counted in rank order. -/
theorem outrankers_eq (s : State) (e : Entry) : outrankers s e = (waiting s).countP fun x => outranks x.2 e := by
  rw [outrankers, countP_toList, waiting, ranked, (rankOrder_perm _).countP_eq, List.countP_filterMap]
  refine List.countP_congr fun k _ => ?_
  unfold slotIf
  cases s.entries[k] with
  | none => rfl
  | some w =>
    cases hc : w.channel with
    | none => simp only [hc, Option.isNone_none, Bool.true_and, if_true]; exact Iff.rfl
    | some c => simp [hc]

/-- What no WAITING entry from the (S + 1)th on does to the lowest-ranked PLAYING entry, it does to none. -/
theorem outranks_trans_not {w x e y : Entry} (hw : outranks w y = false) (hx : ¬ RanksOver x w) (he : ¬ RanksOver y e) :
    outranks x e = false := by
  unfold outranks RanksOver AnnClass.priority at *
  rw [decide_eq_false_iff_not] at *
  omega

theorem Unoutranked.outrankers_le (h : Unoutranked s) {c : Fin 4} {e : Entry} (hp : Plays s c e) :
    outrankers s e ≤ stoppingCount s := by
  obtain ⟨sl, hm⟩ := plays_iff_mem_playing.mp hp
  cases hy : lowestOf (playing s) with
  | none => rw [lowestOf_eq_none hy] at hm; cases hm
  | some y =>
    have hlow := lowestOf_spec hy _ hm
    rw [outrankers_eq]
    refine countP_le_of_drop fun x hx => ?_
    cases hrest : (waiting s).drop (stoppingCount s) with
    | nil => rw [hrest] at hx; cases hx
    | cons w rest =>
      have hfirst : (waiting s)[stoppingCount s]? = some w := by
        have hhead := List.head?_drop (l := waiting s) (i := stoppingCount s)
        rw [← hhead, hrest]
        rfl
      have hnot : ¬ RanksOver x.2 w.2 := by
        have hsorted : RankSorted ((waiting s).drop (stoppingCount s)) :=
          (rankSorted_waiting s).sublist (List.drop_sublist ..)
        rw [hrest] at hx hsorted
        obtain rfl | hx := List.mem_cons.mp hx
        · exact RanksOver.irrefl _
        · exact (List.pairwise_cons.mp hsorted).1 x hx
      exact outranks_trans_not (h y w hy hfirst) hnot hlow

/-! ## What the assignment leaves (R150, R151) -/

theorem assignInv_assign (s : State) : AssignInv (assign s) := by
  have hfilled : Filled (assign s) := (filled_fillIdle 4 (channelsIn_le _ s)).preempt 4
  have hrank : Unoutranked (assign s) := unoutranked_preempt 4 (channelsIn_le _ _)
  constructor
  · intro c hc sl e hw
    obtain hno | hnil := hfilled
    · exact hno c hc
    · exact waiting_eq_nil_iff.mp hnil sl e hw
  · intro c e hp
    exact (hrank.outrankers_le hp).trans_eq (stoppingCount_eq _)

theorem plays_congr (he : t.entries = s.entries) (hc : ∀ c : Fin 4, ChannelRuns s.channels[c] t.channels[c])
    {c : Fin 4} {e : Entry} : Plays t c e ↔ Plays s c e := by
  simp only [Plays, (hc c).state, (hc c).entry, he]

theorem AssignInv.of_channels (h : AssignInv s) (he : t.entries = s.entries)
    (hc : ∀ c : Fin 4, ChannelRuns s.channels[c] t.channels[c]) : AssignInv t := by
  obtain ⟨hidle, hrank⟩ := h
  have hstate (d : Fin 4) := (hc d).state
  constructor
  · intro c hi sl e hw
    exact hidle c ((hstate c).symm.trans hi) sl e (by simpa only [Waits, he] using hw)
  · intro c e hp
    simpa only [outrankers, he, hstate] using hrank c e ((plays_congr he hc).mp hp)

/-! ## The routing (R154) -/

theorem bestFor_eq_none {f : Nat} {l : List (Fin 4 × Fin 16 × Entry)} (h : bestFor f l = none) :
    ∀ x ∈ l, x.2.2.floors.has f = false := by
  induction l with
  | nil => nofun
  | cons x xs ih =>
    rw [bestFor] at h
    split at h
    · split at h
      · cases h
      · split at h <;> cases h
    · next hx =>
      intro y hy
      obtain rfl | hy := List.mem_cons.mp hy
      · simpa using hx
      · exact ih h y hy

/-- The highest-ranked of the entries that hold a floor is one of them, and none of them ranks above it. -/
theorem bestFor_spec {f : Nat} {l : List (Fin 4 × Fin 16 × Entry)} {y : Fin 4 × Fin 16 × Entry}
    (h : bestFor f l = some y) :
    y ∈ l ∧ y.2.2.floors.has f = true ∧ ∀ x ∈ l, x.2.2.floors.has f = true → ¬ RanksOver x.2.2 y.2.2 := by
  induction l generalizing y with
  | nil => cases h
  | cons z zs ih =>
    rw [bestFor] at h
    split at h
    · next hz =>
      split at h
      · next hnone =>
        cases h
        refine ⟨List.mem_cons_self, hz, fun x hx hxf => ?_⟩
        obtain rfl | hx := List.mem_cons.mp hx
        · exact RanksOver.irrefl _
        · rw [bestFor_eq_none hnone x hx] at hxf
          cases hxf
      · next y' hy' =>
        obtain ⟨hmem, hyf, hbest⟩ := ih hy'
        split at h
        · next hover =>
          have hover := (ranksAbove_iff ..).mp hover
          cases h
          refine ⟨List.mem_cons_self, hz, fun x hx hxf hxz => ?_⟩
          obtain rfl | hx := List.mem_cons.mp hx
          · exact RanksOver.irrefl _ hxz
          · exact hbest x hx hxf (hxz.trans hover)
        · next hnot =>
          cases h
          refine ⟨List.mem_cons_of_mem _ hmem, hyf, fun x hx hxf => ?_⟩
          obtain rfl | hx := List.mem_cons.mp hx
          · exact fun hover => hnot ((ranksAbove_iff ..).mpr hover)
          · exact hbest x hx hxf
    · next hz =>
      obtain ⟨hmem, hyf, hbest⟩ := ih h
      refine ⟨List.mem_cons_of_mem _ hmem, hyf, fun x hx hxf => ?_⟩
      obtain rfl | hx := List.mem_cons.mp hx
      · exact absurd hxf hz
      · exact hbest x hx hxf

/-- Two channels play entries of two slots, and so of two ages (R142, R149). -/
theorem ages_of_channels (hc : ChannelLaw s) (ha : AgeInv s) {c d : Fin 4} {e x : Entry} (hcd : d ≠ c)
    (he : Plays s c e) (hx : Plays s d x) : e.age ≠ x.age := by
  obtain ⟨-, sl, hsl, he⟩ := he
  obtain ⟨-, k, hk, hx⟩ := hx
  obtain ⟨e', he', hec, -⟩ := hc.named c sl hsl
  obtain ⟨x', hx', hxd, -⟩ := hc.named d k hk
  have hne : sl ≠ k := by
    rintro rfl
    rw [he'] at hx'
    cases hx'
    exact hcd (Option.some.inj (hxd.symm.trans hec))
  exact (ha k x hx).2 sl e hne he

/-- The routing that is derived where the laws of the channels and of the ages hold (R154). -/
theorem routeInv_of_routeOf (hc : ChannelLaw s) (ha : AgeInv s)
    (hr : ∀ f : Fin 48, s.floors[f].routed = routeOf s f) : RouteInv s := by
  intro f
  rw [hr, routeOf]
  refine ⟨fun hp => by rw [hp]; rfl, fun hp hnone c e he => ?_, fun c hc' => ?_⟩
  · rw [if_pos hp, Option.map_eq_none_iff] at hnone
    obtain ⟨sl, hm⟩ := plays_iff_mem_playing.mp he
    exact bestFor_eq_none hnone _ hm
  · split at hc'
    · obtain ⟨⟨c', sl, e⟩, hbest, rfl⟩ := Option.map_eq_some_iff.mp hc'
      obtain ⟨hm, hf, hover⟩ := bestFor_spec hbest
      have he : Plays s c' e := plays_iff_mem_playing.mpr ⟨sl, hm⟩
      refine ⟨e, he, hf, fun d x hd hx hxf => ?_⟩
      obtain ⟨k, hk⟩ := plays_iff_mem_playing.mp hx
      exact ranksOver_of_not (hover _ hk hxf) (ages_of_channels hc ha hd he hx)
    · cases hc'

theorem present_congr (h : t.config = s.config) (f : Nat) : t.present f = s.present f := by simp only [State.present, h]

theorem RouteInv.routerIdle (h : RouteInv s) (k : RouterIdle s t) : RouteInv t := by
  intro f
  simpa only [present_congr k.config, k.routed, plays_congr k.entries k.channel] using h f

/-- What the router leaves where its work ends with the assignment and the routing. -/
theorem routed_and_assigned (hc : ChannelLaw s) (ha : AgeInv s) (h : RouterKept (route (assign s)) t) :
    RouteInv t ∧ AssignInv t := by
  have hentries : (route (assign s)).entries = (assign s).entries := by simp
  have hchannels : (route (assign s)).channels = (assign s).channels := by simp
  have hconfig : (route (assign s)).config = (assign s).config := by simp
  have hassign : AssignInv (route (assign s)) :=
    (assignInv_assign s).of_channels hentries fun c => by rw [hchannels]; exact .refl _
  have hroute : RouteInv (route (assign s)) := by
    refine routeInv_of_routeOf hc.assign.route (ha.assign.of_entries hentries) fun f => ?_
    rw [route_floor]
    simp only [routeOf, present_congr hconfig, playing_congr hentries hchannels]
  exact ⟨hroute.routerIdle h.idle, hassign.of_channels h.idle.entries h.idle.channel⟩

/-! ## A post always finds a slot where room was made (R141, R145) -/

/-- The entries of the slots 0 to 13 are the posted ones. -/
theorem posted_of_postSlot (h : EntryInv s) {sl : Fin 16} {e : Entry} (he : s.entries[sl] = some e)
    (hp : postSlot sl = true) : e.cls = .console ∨ e.cls = .tenant := by
  have hslot := (h sl e he).1
  cases hcls : e.cls with
  | console => exact .inl rfl
  | tenant => exact .inr rfl
  | evacuate | alert =>
    rw [hcls] at hslot
    simp only [slotClass, beq_iff_eq] at hslot
    subst hslot
    cases hp

theorem freeSlot_eq_none_iff : freeSlot s = none ↔ ∀ sl : Fin 16, postSlot sl = true → s.entries[sl] ≠ none := by
  simp [freeSlot]

/-- Fourteen posted entries fill the slots 0 to 13. -/
theorem postedCount_of_full (h : EntryInv s) (hfree : freeSlot s = none) : 14 ≤ postedCount s := by
  rw [postedCount, countP_toList]
  have hfourteen : 14 = (List.finRange 16).countP postSlot := by decide
  rw [hfourteen]
  refine List.countP_mono_left fun sl _ hp => ?_
  obtain ⟨e, he⟩ := Option.ne_none_iff_exists'.mp (freeSlot_eq_none_iff.mp hfree sl hp)
  rw [he]
  simpa using posted_of_postSlot h he hp

theorem RoomMade.freeSlot_ne_none {v : State} (h : RoomMade u v) (hu : EntryInv u) : freeSlot v ≠ none := by
  cases h with
  | free hroom => exact fun hfree => by have := postedCount_of_full hu hfree; omega
  | @displaced sl e he hc =>
    intro hfree
    have hp : postSlot sl = true := by
      have hslot := (hu sl e he).1
      rw [hc] at hslot
      exact hslot
    exact freeSlot_eq_none_iff.mp hfree _ hp (by rw [removeEntry_entry he, if_pos rfl])

/-! ## The laws at a step -/

theorem RouterReset.not_plays (h : RouterReset t) {c : Fin 4} {e : Entry} : ¬ Plays t c e := by
  rintro ⟨hp, -⟩
  rw [h.channel] at hp
  cases hp

theorem routeInv_and_assignInv_step (hc : ChannelLaw s) (he : EntryInv s) (ha : AgeInv s) (hr : RouteInv s)
    (hs : AssignInv s) (k : RouterStep s t) : RouteInv t ∧ AssignInv t := by
  cases k with
  | idle hi => exact ⟨hr.routerIdle hi, hs.of_channels hi.entries hi.channel⟩
  | worked hu hw ht =>
    exact routed_and_assigned ((hc.routerIdle hu.idle).queueEvent hw) ((ha.of_entries hu.entries).queueEvent hw) ht
  | settled hw ht => exact routed_and_assigned (hc.settled hw) (ha.settled hw) ht
  | unplaced hu hv hfree _ => exact absurd hfree (hv.freeSlot_ne_none (he.routerIdle hu.idle))
  | began h =>
    refine ⟨fun f => ?_, fun c _ sl e hw => ?_, fun c e hp => (h.not_plays hp).elim⟩
    · rw [h.routed]
      exact ⟨fun _ => rfl, fun _ _ c e hp => (h.not_plays hp).elim, nofun⟩
    · obtain ⟨hw, -⟩ := hw
      rw [h.entry] at hw
      cases hw

end

end Sys2Proof.Machine
end

section
/-! SUPPORT. A step that changes the routing pattern begins a shift of it, and the announcement laws at every step
(O19). -/

namespace Sys2Proof.Machine

/-- A shift of the new pattern has begun, or one is due at the end of the shift in progress (R155). -/
structure ShiftBegun (s t : State) : Prop where
  started : s.chain.shift = none → t.chain.shift = some ⟨pattern t, Config.shiftTime⟩
  due : ∀ x, s.chain.shift = some x → t.chain.shift = some x ∧ t.chain.due = true

/-- The configuration, every floor's routed channel and the routing chain are as they were. -/
structure RoutingKept (s t : State) : Prop where
  config : t.config = s.config
  routed : ∀ f : Fin 48, t.floors[f].routed = s.floors[f].routed
  chain : t.chain = s.chain

section
variable {s t u w : State}

theorem pattern_congr (hc : t.config = s.config) (hr : ∀ f : Fin 48, t.floors[f].routed = s.floors[f].routed) :
    pattern t = pattern s :=
  congrArg tabulate (funext fun f => by simp only [present_congr hc, hr])

theorem RoutingKept.trans (h : RoutingKept s t) (k : RoutingKept t u) : RoutingKept s u where
  config := k.config.trans h.config
  routed f := (k.routed f).trans (h.routed f)
  chain := k.chain.trans h.chain

theorem RoutingKept.pattern (h : RoutingKept s t) : pattern t = pattern s := pattern_congr h.config h.routed

theorem SpeakersKept.routing (h : SpeakersKept s t) : RoutingKept s t := ⟨h.config, h.routed, h.chain⟩

theorem routingKept_of_floors (hc : t.config = s.config) (hf : t.floors = s.floors) (hx : t.chain = s.chain) :
    RoutingKept s t := ⟨hc, fun f => by rw [hf], hx⟩

theorem QueueEvent.routing (h : QueueEvent u w) : RoutingKept u w := by
  cases h with
  | cancelled sl => exact routingKept_of_floors (by simp) (by simp) (by simp)
  | posted hroom hfree =>
    cases hroom with
    | free => exact routingKept_of_floors (by simp) (by simp) (by simp)
    | displaced => exact routingKept_of_floors (by simp) (by simp) (by simp)
  | played c b => exact routingKept_of_floors (by simp) (by simp) (by simp)
  | freed c b => exact routingKept_of_floors (by simp) (by simp) (by simp)

theorem routing_regimeEntries (s : State) : RoutingKept s (regimeEntries (stripTenants s)) :=
  routingKept_of_floors (by simp) (by simp) (by simp)

theorem routing_assign (s : State) : RoutingKept s (assign s) := routingKept_of_floors (by simp) (by simp) (by simp)

theorem pattern_beginShift (s : State) : pattern (beginShift s) = pattern s := by
  rw [beginShift_eq_with]
  rfl

theorem shiftBegun_beginShift (s : State) : ShiftBegun s (beginShift s) where
  started hn := by rw [pattern_beginShift]; simp only [beginShift, hn]
  due x hx := by simp only [beginShift, hx, and_self]

/-- The shift of a state with another routing is a shift from the state that had the former (R155). -/
theorem ShiftBegun.of_chain (h : ShiftBegun u t) (hc : u.chain = s.chain) : ShiftBegun s t where
  started hn := h.started (by rw [hc, hn])
  due x hx := h.due x (by rw [hc, hx])

theorem ShiftBegun.after (h : ShiftBegun s t) (k : RoutingKept t u) : ShiftBegun s u where
  started hn := by rw [k.chain, k.pattern, h.started hn]
  due x hx := by rw [k.chain]; exact h.due x hx

theorem route_of_same (h : pattern (deriveRouting s) = pattern s) : route s = deriveRouting s := if_pos h

theorem route_of_other (h : pattern (deriveRouting s) ≠ pattern s) : route s = beginShift (deriveRouting s) := if_neg h

/-- The router's work with the routing begins a shift of a pattern that is not the one that stood (R155). -/
theorem route_shiftBegun (h : pattern (route s) ≠ pattern s) : ShiftBegun s (route s) := by
  have hne : pattern (deriveRouting s) ≠ pattern s := fun heq => h (by rw [route_of_same heq, heq])
  rw [route_of_other hne]
  exact (shiftBegun_beginShift _).of_chain (by simp)

/-- The router's work after an event that left the routing alone. -/
theorem shiftBegun_of_worked (h : RoutingKept s w) (ht : RouterKept (route (assign w)) t)
    (hne : pattern t ≠ pattern s) : ShiftBegun s t := by
  have hassign := h.trans (routing_assign w)
  have hroute : pattern (route (assign w)) ≠ pattern (assign w) := by
    rw [hassign.pattern, ← ht.pattern]
    exact hne
  exact ((route_shiftBegun hroute).of_chain hassign.chain).after ht.routing

/-- After the load only the router's work changes the routing pattern (R155). -/
theorem RouterStep.shiftBegun (h : RouterStep s t) (hl : t.load = none) (hne : pattern t ≠ pattern s) :
    ShiftBegun s t := by
  cases h with
  | idle hi => exact absurd (pattern_congr hi.config hi.routed) hne
  | worked hu hw ht => exact shiftBegun_of_worked (hu.routing.trans hw.routing) ht hne
  | settled hw ht => exact shiftBegun_of_worked (hw.routing.trans (routing_regimeEntries _)) ht hne
  | @unplaced u v t hu hv _ ht =>
    obtain ⟨-, hc, -, hf⟩ := hv.restated
    refine absurd (ht.pattern.trans ((pattern_congr hc fun f => by rw [hf]).trans hu.pattern)) hne
  | began hr => exact absurd hl hr.load

end

/-- Settles O19: what an event of the router or of the regime changes keeps the channels and the entries naming each
other and the ages in order, and the assignment and the routing that follow leave the rest. -/
theorem stepKeepsChannelLaw : Obligations.StepKeepsChannelLaw := by
  refine ⟨fun s t hc h => ?_, fun s t _ ha h => ha.routerStep (step_routerStep h),
    fun s t _ hc he ha hr hs h => routeInv_and_assignInv_step (channelInv_iff.mp hc) he ha hr hs (step_routerStep h),
    fun s t _ hl hne h => ?_⟩
  · exact channelInv_iff.mpr ((channelInv_iff.mp hc).routerStep (step_routerStep h))
  · have hshift := (step_routerStep h).shiftBegun hl hne
    cases hx : s.chain.shift with
    | none => exact hshift.started hx
    | some x => exact hshift.due x hx

end Sys2Proof.Machine
end

section
/-! SUPPORT. What an event of the announcement router shows: the routing chain (O51), and the answer to a command whose
rule leaves the rest to the router's work. -/

namespace Sys2Proof.Machine

/-! ## The routing chain (R155) -/

theorem beginShift_selectors (s : State) :
    (beginShift s).chain.refresh = s.chain.refresh ∧ (beginShift s).chain.selectors = s.chain.selectors := by
  unfold beginShift
  split <;> exact ⟨rfl, rfl⟩

/-- Settles O51, by the branches of the refresh and of the end of a shift. -/
theorem routingChainShifts : Obligations.RoutingChainShifts := by
  refine ⟨fun s h => ?_, fun s h => ?_, fun s h => ?_, fun s x hx hr => ?_⟩
  · have hdue : ¬ timerDue s.chain.refresh = true := by rwa [timerDue_iff]
    exact congrArg Host.Outcome.next (if_neg hdue)
  · refine congrArg Host.Outcome.next ?_
    cases hx : s.chain.shift with
    | none => rfl
    | some x => exact if_neg fun hr => h (by rw [hx, Option.map_some, hr])
  · have hdue : timerDue s.chain.refresh = true := by rwa [timerDue_iff]
    obtain ⟨hrefresh, hselectors⟩ :=
      beginShift_selectors { s with chain := { s.chain with refresh := some Config.refreshTime } }
    refine ⟨_, congrArg Host.Outcome.next (if_pos hdue), by rw [beginShift_eq_with], hrefresh, hselectors, ?_⟩
    cases hx : s.chain.shift with
    | none => simp only [beginShift, hx]; rfl
    | some x => simp only [beginShift, hx, and_self]
  · have hexec : exec .routingShiftComplete s = .next (shiftEnds x s) := by
      refine congrArg Host.Outcome.next ?_
      rw [hx]
      exact if_pos hr
    refine ⟨_, hexec, ?_⟩
    cases hd : s.chain.due with
    | false => simp [shiftEnds, hd]
    | true => simp [shiftEnds, hd, beginShift, pattern, State.present, Config.shiftTime]

/-! ## The router's work at an event -/

section
variable {s s0 u w t : State} {p : Fin 4} {i : Instr}

theorem routerFinish_entries (s0 w : State) : (routerFinish s0 w).entries = (assign w).entries := by
  simp [routerFinish]

theorem routerFinish_channels (s0 w : State) : (routerFinish s0 w).channels = (assign w).channels := by
  simp [routerFinish]

/-- The router's work touches the announcements alone. -/
theorem onlyAnnouncements_routerFinish (s0 : State) (hw : AnnouncementsChanged s w) :
    OnlyAnnouncements s (routerFinish s0 w) := by
  have hfinish : routerFinish s0 w =
      { w with
        regime := (routerFinish s0 w).regime, floors := (routerFinish s0 w).floors
        entries := (routerFinish s0 w).entries, channels := (routerFinish s0 w).channels
        chain := (routerFinish s0 w).chain, ports := (routerFinish s0 w).ports } := by
    obtain ⟨hload, hconfig, henable, hstore, hbusy, hslot, hlines, hpgroups, hlgroups, hcars, hdoors, hdgroups,
      hresecure, hstagger, hfree, hpending⟩ := routerFinish_frame w s0
    rw [← hload, ← hconfig, ← henable, ← hstore, ← hbusy, ← hslot, ← hlines, ← hpgroups, ← hlgroups, ← hcars,
      ← hdoors, ← hdgroups, ← hresecure, ← hstagger, ← hfree, ← hpending]
  refine ⟨hfinish.trans ?_, ?_, fun f => ?_⟩
  · rw [hw]
  · rw [routerFinish_regime, hw]
  · rw [routerFinish_floor, hw]

theorem raised_queue_routerFinish (hl : w.load = none) (hc : w.config = s.config) {k : Fin 16}
    (hk : (assign w).entries[k].map entryView ≠ s0.entries[k].map entryView) :
    Raised .queue s (routerFinish s0 w) := by
  unfold routerFinish routerNotices
  dsimp only
  refine (raised_raiseIf (by simp [hl]) (by simp [hc]) ?_).mono (quiet_raiseIf _ _ _)
  rw [queueChanged, List.any_eq_true]
  refine ⟨k, List.mem_finRange k, ?_⟩
  simp only [route_frame, bne_iff_ne]
  exact hk.symm

theorem raised_channel_routerFinish (hl : w.load = none) (hc : w.config = s.config) {c : Fin 4}
    (hk : (assign w).channels[c].state ≠ s0.channels[c].state) : Raised .channel s (routerFinish s0 w) := by
  unfold routerFinish routerNotices
  dsimp only
  refine raised_raiseIf (by simp [hl]) (by simp [hc]) ?_
  rw [channelChanged, List.any_eq_true]
  refine ⟨c, List.mem_finRange c, ?_⟩
  simp only [route_frame, Bool.or_eq_true, bne_iff_ne]
  exact .inl (.inl hk.symm)

/-! ## A command that the router takes up -/

/-- What an accepted command shows that changed the queue and the channels from `u` to `w` before the router's work. -/
structure RouterAnswered (p : Fin 4) (s w t : State) : Prop where
  accepted : Accepted p s t
  only : OnlyAnnouncements s t
  entries : t.entries = (assign w).entries
  channels : t.channels = (assign w).channels
  queue : ∀ k : Fin 16, (assign w).entries[k].map entryView ≠ s.entries[k].map entryView → Raised .queue s t
  channel : ∀ c : Fin 4, (assign w).channels[c].state ≠ s.channels[c].state → Raised .channel s t

/-- A command after the load whose own rule changes the queue and the channels and leaves the rest to the router. -/
theorem routerAnswered {body : State → State × Result} (h : Ready s p i)
    (hb : body (opened p i s) = accept (routerFinish (opened p i s) w))
    (hw : AnnouncementsChanged (opened p i s) w) :
    RouterAnswered p s w (command p (Instr.bytes i) (afterLoad body) s) := by
  obtain ⟨hl, hh⟩ := h
  have hload : w.load = none := by rw [hw]; exact hl
  have hconfig : w.config = s.config := by rw [hw]; rfl
  have hports : w.ports = (opened p i s).ports := by rw [hw]
  rw [afterLoad_accepted hh hl hb]
  exact {
    accepted := accepted_setResult ((quiet_of_ports hports).trans (quiet_routerFinish _ _))
    only := OnlyAnnouncements.answered (g := s.regime) (onlyAnnouncements_routerFinish _ hw) .ok
    entries := routerFinish_entries _ w
    channels := routerFinish_channels _ w
    queue := fun k hk => (raised_queue_routerFinish hload hconfig hk).setResult p .ok
    channel := fun c hc => (raised_channel_routerFinish hload hconfig hc).setResult p .ok }

/-- A command after the load that its own rule refuses. -/
theorem afterLoad_refused {body : State → State × Result} {r : Result} (h : Ready s p i)
    (hb : body (opened p i s) = refuse r (opened p i s)) :
    RefusedAs p r s (command p (Instr.bytes i) (afterLoad body) s) :=
  command_refused h.2 ((afterLoad_ready (s := opened p i s) h.1).trans hb)

/-- An entry gone before the assignment is one whose going the QUEUE notice reports (R163). -/
theorem RouterAnswered.raised_of_removed (h : RouterAnswered p s w t) {k : Fin 16} (hs : s.entries[k] ≠ none)
    (hw : w.entries[k] = none) : Raised .queue s t := by
  refine h.queue k fun heq => hs ?_
  rw [assign_keeps_empty hw] at heq
  exact Option.map_eq_none_iff.mp heq.symm

theorem RouterAnswered.entry_eq_none_iff (h : RouterAnswered p s w t) (k : Fin 16) :
    t.entries[k] = none ↔ w.entries[k] = none := by
  rw [h.entries, assign_entry_eq_none_iff]

/-- A port that may post and cancel announcements (R143, R159). -/
theorem mayPost_opened (h : Ready s p i)
    (hr : s.config.ports[p].role = .console ∨ s.config.ports[p].role = .voice) : mayPost (opened p i s) p = true := by
  have hrole : (opened p i s).role p = some s.config.ports[p].role := role_of_ready h.1 p
  rw [mayPost, hrole]
  obtain hr | hr := hr <;> rw [hr] <;> rfl

end

end Sys2Proof.Machine
end

section
/-! SUPPORT. What the assignment leaves of one channel, and CANCEL ANNOUNCEMENT (O48), PLAY END (O49) and the channel
timers (O50). -/

namespace Sys2Proof.Machine

/-! ## One channel through the assignment (R150, R151) -/

/-- A channel plays an entry that no WAITING entry outranks. -/
structure PlaysTop (c : Fin 4) (x : Channel) (sl : Fin 16) (e : Entry) (s : State) : Prop where
  channel : s.channels[c] = x
  state : x.state = .playing
  names : x.entry = some sl
  entry : s.entries[sl] = some e
  taken : e.channel ≠ none
  top : ∀ k w, Waits s k w → outranks w e = false

section
variable {s w : State} {c d : Fin 4} {sl k : Fin 16} {e f : Entry} {x : Channel}

theorem outranks_of_not_ranksOver (h : ¬ RanksOver f e) : outranks f e = false :=
  decide_eq_false fun hlt => h (.inl hlt)

theorem waits_playOn (h : Waits (playOn d sl e s) k f) : Waits s k f := by
  obtain ⟨hk, hf⟩ := h
  rw [playOn_entry] at hk
  split at hk
  · cases hk
    cases hf
  · exact ⟨hk, hf⟩

theorem waits_stopOn (h : Waits (stopOn d sl e s) k f) : Waits s k f ∨ k = sl ∧ f = { e with channel := none } := by
  obtain ⟨hk, hf⟩ := h
  rw [stopOn_entry] at hk
  split at hk
  · next heq => exact .inr ⟨heq, (Option.some.inj hk).symm⟩
  · exact .inl ⟨hk, hf⟩

theorem PlaysTop.playOn (h : PlaysTop c x sl e s) (a : Fills s d k f) : PlaysTop c x sl e (playOn d k f s) where
  channel := by
    have hd : c ≠ d := by
      rintro rfl
      have hidle := a.idle
      rw [h.channel, h.state] at hidle
      cases hidle
    rw [playOn_channel, if_neg hd]
    exact h.channel
  state := h.state
  names := h.names
  entry := by
    have hk : sl ≠ k := by
      rintro rfl
      obtain ⟨hf, hno⟩ := a.waits
      rw [h.entry] at hf
      cases hf
      exact h.taken hno
    rw [playOn_entry, if_neg hk]
    exact h.entry
  taken := h.taken
  top j g hg := h.top j g (waits_playOn hg)

theorem PlaysTop.mem_playing (h : PlaysTop c x sl e s) : (c, sl, e) ∈ playing s :=
  mem_playing_iff.mpr ⟨by rw [h.channel]; exact h.state, by rw [h.channel]; exact h.names, h.entry⟩

/-- An entry that no WAITING entry outranks is never the one preempted. -/
theorem PlaysTop.stopOn (h : PlaysTop c x sl e s) (p : Preempts s d k f) : PlaysTop c x sl e (stopOn d k f s) := by
  obtain ⟨-, hnames, hf⟩ := mem_playing_iff.mp p.playing
  have hk : sl ≠ k := by
    rintro rfl
    rw [h.entry] at hf
    cases hf
    obtain ⟨j, g, hg, hout⟩ := p.outranked
    rw [h.top j g hg] at hout
    cases hout
  have hd : c ≠ d := by
    rintro rfl
    rw [h.channel, h.names] at hnames
    exact hk (Option.some.inj hnames)
  refine ⟨?_, h.state, h.names, ?_, h.taken, fun j g hg => ?_⟩
  · rw [stopOn_channel, if_neg hd]
    exact h.channel
  · rw [stopOn_entry, if_neg hk]
    exact h.entry
  · obtain hg | ⟨-, rfl⟩ := waits_stopOn hg
    · exact h.top j g hg
    · exact outranks_of_not_ranksOver (p.lowest _ h.mem_playing)

/-- The highest-ranked WAITING entry is outranked by none on the channel that takes it. -/
theorem Fills.playsTop (h : Fills s c sl e) :
    PlaysTop c (playOn c sl e s).channels[c] sl { e with channel := some c } (playOn c sl e s) where
  channel := rfl
  state := by rw [playOn_channel, if_pos rfl]
  names := by rw [playOn_channel, if_pos rfl]
  entry := by rw [playOn_entry, if_pos rfl]
  taken := nofun
  top k f hf := outranks_of_not_ranksOver (f := f) (e := e) (h.highest k f (waits_playOn hf))

/-- A channel is IDLE or plays an entry that no WAITING entry outranks. -/
def IdleOrTop (c : Fin 4) (s : State) : Prop := s.channels[c].state = .idle ∨ ∃ x sl e, PlaysTop c x sl e s

theorem IdleOrTop.playOn (h : IdleOrTop c s) (k : Fills s d sl e) : IdleOrTop c (playOn d sl e s) := by
  obtain hidle | ⟨x, j, f, hx⟩ := h
  · by_cases hd : c = d
    · subst hd
      exact .inr ⟨_, _, _, k.playsTop⟩
    · exact .inl (by rw [playOn_channel, if_neg hd]; exact hidle)
  · exact .inr ⟨x, j, f, hx.playOn k⟩

theorem IdleOrTop.stopOn (h : IdleOrTop c s) (k : Preempts s d sl e) : IdleOrTop c (stopOn d sl e s) := by
  obtain hidle | ⟨x, j, f, hx⟩ := h
  · have hd : c ≠ d := by
      rintro rfl
      rw [(mem_playing_iff.mp k.playing).1] at hidle
      cases hidle
    exact .inl (by rw [stopOn_channel, if_neg hd]; exact hidle)
  · exact .inr ⟨x, j, f, hx.stopOn k⟩

/-- An IDLE channel is not in STOPPING after the assignment: what it takes is not preempted at the same event. -/
theorem assign_of_idle (h : s.channels[c].state = .idle) : (assign s).channels[c].state ≠ .stopping := by
  have hassign : IdleOrTop c (assign s) :=
    assign_preserves (fun _ _ _ _ hs k => hs.playOn k) (fun _ _ _ _ hs k => hs.stopOn k) (.inl h)
  obtain hidle | ⟨x, j, f, hx⟩ := hassign
  · rw [hidle]
    nofun
  · rw [hx.channel, hx.state]
    nofun

/-- The assignment leaves a channel in STOPPING alone. -/
theorem assign_of_stopping (h : s.channels[c].state = .stopping) : (assign s).channels[c] = s.channels[c] := by
  refine assign_preserves (P := fun u => u.channels[c] = s.channels[c]) (fun u d sl e hu k => ?_)
    (fun u d sl e hu k => ?_) rfl
  · have hd : c ≠ d := by
      rintro rfl
      have hidle := k.idle
      rw [hu, h] at hidle
      cases hidle
    rw [playOn_channel, if_neg hd]
    exact hu
  · have hd : c ≠ d := by
      rintro rfl
      have hplays := (mem_playing_iff.mp k.playing).1
      rw [hu, h] at hplays
      cases hplays
    rw [stopOn_channel, if_neg hd]
    exact hu

/-- The assignment leaves the voice lapses alone (R162). -/
theorem assign_lapse (s : State) (c : Fin 4) : (assign s).channels[c].lapse = s.channels[c].lapse := by
  refine assign_preserves (P := fun u => u.channels[c].lapse = s.channels[c].lapse) (fun u d sl e hu _ => ?_)
    (fun u d sl e hu _ => ?_) rfl
  · rw [playOn_channel]
    split
    · next hd => subst hd; exact hu
    · exact hu
  · rw [stopOn_channel]
    split
    · next hd => subst hd; exact hu
    · exact hu

theorem fillIdle_succ (n : Nat) {rest : List (Fin 16 × Entry)} (hc : lowestIdle s = some c)
    (hw : waiting s = (sl, e) :: rest) : fillIdle (n + 1) s = fillIdle n (playOn c sl e s) := by
  rw [fillIdle, hc, hw]

theorem fillIdle_of_none_idle (h : lowestIdle s = none) (n : Nat) : fillIdle n s = s := by
  cases n with
  | zero => rfl
  | succ n => rw [fillIdle, h]

theorem fillIdle_of_none_waiting (h : waiting s = []) (n : Nat) : fillIdle n s = s := by
  cases n with
  | zero => rfl
  | succ n => rw [fillIdle, h]; cases lowestIdle s <;> rfl

theorem assign_of_none_waiting (h : waiting s = []) : assign s = s := by
  rw [assign, fillIdle_of_none_waiting h, preempt_of_none_waiting h]

/-- The first number that passes a test. -/
theorem find?_finRange {n : Nat} {q : Fin n → Bool} {j : Fin n} (hj : q j = true) (h : ∀ m < j, q m = false) :
    (List.finRange n).find? q = some j := by
  rw [List.find?_eq_some_iff_getElem]
  refine ⟨hj, j.val, by simp, by simp, fun m hm => ?_⟩
  simpa using h ⟨m, by omega⟩ hm

theorem lowestIdle_eq (hc : s.channels[c].state = .idle) (h : ∀ d : Fin 4, d < c → s.channels[d].state ≠ .idle) :
    lowestIdle s = some c :=
  find?_finRange (beq_iff_eq.mpr hc) fun d hd => beq_eq_false_iff_ne.mpr (h d hd)

theorem lowestIdle_playOn (h : ∀ d : Fin 4, d ≠ c → s.channels[d].state ≠ .idle) :
    lowestIdle (playOn c sl e s) = none := by
  refine lowestIdle_eq_none_iff.mpr fun d => ?_
  rw [playOn_channel]
  split
  · nofun
  · next hd => exact h d hd

/-- Where one channel is IDLE the highest-ranked WAITING entry takes it, and is not preempted (R150). -/
theorem assign_of_one_idle (h : Fills s c sl e) (ho : ∀ d : Fin 4, d ≠ c → s.channels[d].state ≠ .idle)
    (hu : ∀ k f, Waits s k f → k ≠ sl → RanksOver e f) :
    (assign s).channels[c] = (playOn c sl e s).channels[c] ∧
      (assign s).entries[sl] = some { e with channel := some c } := by
  have hidle : lowestIdle s = some c := lowestIdle_eq h.idle fun d hd => ho d (Fin.ne_of_lt hd)
  have hfill : fillIdle 4 s = playOn c sl e s := by
    cases hw : waiting s with
    | nil => exact (waiting_eq_nil_iff.mp hw sl e h.waits).elim
    | cons y rest =>
      have hy := fills_head hidle hw
      have hslot : y.1 = sl := by
        by_contra hne
        exact hy.highest sl e h.waits (hu y.1 y.2 hy.waits hne)
      have hentry : y.2 = e := by
        obtain ⟨hye, -⟩ := hy.waits
        obtain ⟨he, -⟩ := h.waits
        rw [hslot, he] at hye
        exact (Option.some.inj hye).symm
      rw [fillIdle_succ 3 hidle hw, hslot, hentry, fillIdle_of_none_idle (lowestIdle_playOn ho)]
  have htop : PlaysTop c (playOn c sl e s).channels[c] sl { e with channel := some c } (assign s) := by
    rw [assign, hfill]
    exact preempt_preserves (fun _ _ _ _ hs k => hs.stopOn k) 4 h.playsTop
  exact ⟨htop.channel, htop.entry⟩

end

/-! ## CANCEL ANNOUNCEMENT (R159) -/

section
variable {s w t : State} {p : Fin 4}

theorem cancelRight_eq (p : Fin 4) (s : State) (e : Entry) :
    cancelRight p s e =
      if e.cls = .evacuate ∨ e.cls = .alert then some .role
      else if s.regime.holder ≠ some p ∧ (e.cls = .console ∨ e.origin ≠ some p) then some .control
      else none := by
  unfold cancelRight
  cases e.cls with
  | evacuate | alert => simp
  | console | tenant => by_cases hh : s.regime.holder = some p <;> simp [hh]

theorem removeEntry_channel {sl : Fin 16} {e : Entry} {c : Fin 4} (he : s.entries[sl] = some e)
    (hc : e.channel = some c) : (removeEntry sl s).channels[c] = toStopping s.channels[c] := by
  rw [removeEntry_of_playing he hc, setChannel_channels, getElem_set_fin, if_pos rfl]

end

/-- Settles O48, by the branches of the judgement: the entry is gone before the assignment, which fills no slot and
leaves the channel that it was on in STOPPING. -/
theorem cancelRemovesTheEntry : Obligations.CancelRemovesTheEntry := by
  intro s p b m h hr
  refine ⟨_, rfl, ?_⟩
  have hmay := mayPost_opened h hr
  cases hsl : argIndex 16 b with
  | none => exact afterLoad_refused h (by simp only [cancelBody, hmay, if_true, hsl])
  | some sl =>
    dsimp only
    cases he : s.entries[sl] with
    | none =>
      have hu : (opened p (.cancelAnnouncement p b m) s).entries[sl] = none := he
      exact afterLoad_refused h (by simp only [cancelBody, hmay, if_true, hsl, hu])
    | some e =>
      have hu : (opened p (.cancelAnnouncement p b m) s).entries[sl] = some e := he
      have hright : cancelRight p (opened p (.cancelAnnouncement p b m) s) e = _ := cancelRight_eq p s e
      dsimp only
      split
      · next hm => exact afterLoad_refused h (by simp only [cancelBody, hmay, if_true, hsl, hu, if_neg hm])
      · next hm =>
        have hm := not_not.mp hm
        split
        · next hcls =>
          rw [if_pos hcls] at hright
          exact afterLoad_refused h (by simp only [cancelBody, hmay, if_true, hsl, hu, hm, hright])
        · next hcls =>
          rw [if_neg hcls] at hright
          split
          · next hctl =>
            rw [if_pos hctl] at hright
            exact afterLoad_refused h (by simp only [cancelBody, hmay, if_true, hsl, hu, hm, hright])
          · next hctl =>
            rw [if_neg hctl] at hright
            have ht := routerAnswered (body := cancelBody p b m) h
              (by simp only [cancelBody, hmay, if_true, hsl, hu, hm, hright]) (announcementsChanged_removeEntry _ sl)
            have hgone := removeEntry_eq_none (k := sl) (s := opened p (.cancelAnnouncement p b m) s) (.inl rfl)
            refine ⟨ht.accepted, ht.raised_of_removed (by rw [he]; nofun) hgone, (ht.entry_eq_none_iff sl).mpr hgone,
              ht.only, fun c hc => ?_, fun j hj => ?_⟩
            · have hstop := removeEntry_channel hu hc
              rw [ht.channels, assign_of_stopping (by rw [hstop]; rfl), hstop]
              exact ⟨rfl, rfl, rfl⟩
            · rw [ht.entry_eq_none_iff, removeEntry_eq_none_iff _ hj]
              rfl

end Sys2Proof.Machine
end

section
/-! SUPPORT. Plays and stops: PLAY END (O49) and the channel timers (O50). -/

namespace Sys2Proof.Machine

/-! ## A play counted (R153, R157) -/

/-- What stands in the slot of an entry after one more of its plays: nothing once it has reached its repeat, and
otherwise the entry with the play counted. -/
def PlayCounted (e : Entry) (o : Option Entry) : Prop :=
  if e.rpt ≠ 0 ∧ e.rpt ≤ min 255 (e.plays + 1) then o = none
  else ∃ x : Entry, o = some x ∧ x.plays = min 255 (e.plays + 1) ∧ x.floors = e.floors ∧ x.age = e.age

section
variable {s w : State} {c : Fin 4} {sl : Fin 16} {e : Entry}

theorem reachedRepeat_playedOnce (e : Entry) :
    reachedRepeat (playedOnce e) = true ↔ e.rpt ≠ 0 ∧ e.rpt ≤ min 255 (e.plays + 1) := by
  simp [reachedRepeat, playedOnce]

theorem playCounted_assign (hn : s.channels[c].entry = some sl) (he : s.entries[sl] = some e)
    (hw : w.entries = (countPlay c s).entries) : PlayCounted e (assign w).entries[sl] := by
  unfold PlayCounted
  split
  · next hr =>
    have hreached := (reachedRepeat_playedOnce e).mpr hr
    refine assign_keeps_empty ?_
    rw [hw, countPlay_last hn he hreached]
    exact withoutSlot_self ..
  · next hr =>
    have hreached : reachedRepeat (playedOnce e) = false := by
      rw [← Bool.not_eq_true, reachedRepeat_playedOnce]
      exact hr
    have hslot : w.entries[sl] = some (playedOnce e) := by
      rw [hw, countPlay_again hn he hreached, setChannel_entries, getElem_set_fin, if_pos rfl]
    obtain ⟨x, hx, hxe⟩ := entry_after_assign hslot
    rw [hxe] at hx
    exact ⟨_, hx, rfl, rfl, rfl⟩

theorem announcementsChanged_setLapse (c : Fin 4) (b : Bool) (h : AnnouncementsChanged s w) :
    AnnouncementsChanged s (setLapse c b w) := h.trans rfl

theorem announcementsChanged_setChannel (s : State) (c : Fin 4) (x : Channel) :
    AnnouncementsChanged s (s.setChannel c x) := rfl

theorem assign_setLapse_lapse (s : State) (c : Fin 4) (b : Bool) :
    (assign (setLapse c b s)).channels[c].lapse = b := by
  rw [assign_lapse, setLapse_channel, if_pos rfl]

/-- A channel after it has left STOPPING and its voice lapse is set or cleared (R152, R157). -/
theorem freed_channel (s : State) (c d : Fin 4) (b : Bool) :
    (setLapse c b (s.setChannel c (toIdle s.channels[c]))).channels[d] =
      if d = c then { toIdle s.channels[c] with lapse := b } else s.channels[d] := by
  rw [setLapse_channel, setChannel_channels, getElem_set_fin, getElem_set_fin, if_pos rfl]
  split <;> rfl

end

/-! ## PLAY END (R156, R157) -/

/-- Settles O49, by the state of the channel: a channel in STOPPING goes to IDLE and is not stopped again at that event,
and a play is counted on one that plays the message. -/
theorem playEndIsJudged : Obligations.PlayEndIsJudged := by
  intro s p b m h hrole
  refine ⟨_, rfl, ?_⟩
  have hvoice : (opened p (.playEnd p b m) s).role p = some .voice :=
    (role_of_ready (s := opened p (.playEnd p b m) s) h.1 p).trans (congrArg some hrole.2)
  cases hc : argIndex 4 b with
  | none => exact afterLoad_refused h (by simp only [playEndBody, hvoice, if_true, hc])
  | some c =>
    dsimp only
    cases hs : s.channels[c].state with
    | idle =>
      have hu : (opened p (.playEnd p b m) s).channels[c].state = .idle := hs
      exact afterLoad_refused h (by simp only [playEndBody, hvoice, if_true, hc, hu])
    | stopping =>
      have hu : (opened p (.playEnd p b m) s).channels[c].state = .stopping := hs
      have ht := routerAnswered (body := playEndBody p b m) h
        (by simp only [playEndBody, hvoice, if_true, hc, hu, playEnded_of_stopping hu])
        (announcementsChanged_setLapse c false
          (announcementsChanged_setChannel _ c (toIdle (opened p (.playEnd p b m) s).channels[c])))
      have hfreed := assign_of_idle (c := c)
        (s := setLapse c false (State.setChannel _ c (toIdle (opened p (.playEnd p b m) s).channels[c])))
        (by rw [freed_channel, if_pos rfl]; rfl)
      refine ⟨ht.accepted, ht.channel c (by rw [hs]; exact hfreed), ?_, ?_, ht.only⟩
      · rw [ht.channels, assign_setLapse_lapse]
      · rw [ht.channels]
        exact hfreed
    | playing =>
      have hu : (opened p (.playEnd p b m) s).channels[c].state = .playing := hs
      dsimp only
      split
      · next hm =>
        have hum : ¬ (opened p (.playEnd p b m) s).channels[c].message = some m := hm
        exact afterLoad_refused h (by simp only [playEndBody, hvoice, if_true, hc, hu, if_neg hum])
      · next hm =>
        have hum : (opened p (.playEnd p b m) s).channels[c].message = some m := not_not.mp hm
        have ht := routerAnswered (body := playEndBody p b m) h
          (by simp only [playEndBody, hvoice, if_true, hc, hu, if_pos hum, playEnded_of_playing hu])
          (announcementsChanged_setLapse c false (announcementsChanged_countPlay _ c))
        refine ⟨ht.accepted, by rw [ht.channels, assign_setLapse_lapse], ht.only, fun sl hsl e he => ?_⟩
        rw [ht.entries]
        exact playCounted_assign (s := opened p (.playEnd p b m) s) hsl he (by simp)

/-! ## The channel timers (R152, R153) -/

section
variable {s w : State} {c : Fin 4}

/-- What the ports show of an event of the router at a timer, and what it leaves alone. -/
theorem quiet_and_only (hw : AnnouncementsChanged s w) :
    QuietPorts s (routerFinish s w) ∧ OnlyAnnouncements s (routerFinish s w) := by
  have hports : w.ports = s.ports := by rw [hw]
  exact ⟨(quiet_of_ports hports).trans (quiet_routerFinish s w), onlyAnnouncements_routerFinish s hw⟩

theorem stopTimerExpiry_due (h : s.channels[c].stop = some 0) :
    exec (.stopTimerExpiry c) s =
      .next (routerFinish s (setLapse c true (s.setChannel c (toIdle s.channels[c])))) :=
  congrArg Host.Outcome.next (if_pos ((timerDue_iff _).mpr h))

theorem playTimerExpiry_due (h : s.channels[c].play = some 0) :
    exec (.playTimerExpiry c) s = .next (routerFinish s (setLapse c true (countPlay c s))) :=
  congrArg Host.Outcome.next (if_pos ((timerDue_iff _).mpr h))

/-- A stop timeout frees the channel, and it alone is IDLE where no other is (R150, R152). -/
theorem fills_freed {sl : Fin 16} {e : Entry} (h : Waits s sl e)
    (hu : ∀ k x, k ≠ sl → Waits s k x → RanksOver e x) :
    Fills (setLapse c true (s.setChannel c (toIdle s.channels[c]))) c sl e where
  idle := by rw [freed_channel, if_pos rfl]; rfl
  waits := h
  highest k x hx hover := by
    by_cases hk : k = sl
    · subst hk
      obtain rfl : e = x := Option.some.inj (h.1.symm.trans hx.1)
      exact RanksOver.irrefl _ hover
    · exact RanksOver.irrefl _ (hover.trans (hu k x hk hx))

end

/-- Settles O50: a channel that a stop timeout frees is filled by the assignment and not stopped again, and a play
timeout counts a play. -/
theorem channelTimersExpire : Obligations.ChannelTimersExpire := by
  refine ⟨fun s c h => ?_, fun s c h => ?_, fun s c hstop hs => ⟨_, stopTimerExpiry_due hstop, ?_⟩,
    fun s c sl e hplay hsl he => ⟨_, playTimerExpiry_due hplay, ?_⟩⟩
  · exact congrArg Host.Outcome.next (if_neg (mt (timerDue_iff _).mp h))
  · exact congrArg Host.Outcome.next (if_neg (mt (timerDue_iff _).mp h))
  · have hidle : (setLapse c true (s.setChannel c (toIdle s.channels[c]))).channels[c].state = .idle := by
      rw [freed_channel, if_pos rfl]
      rfl
    obtain ⟨hquiet, honly⟩ := quiet_and_only (announcementsChanged_setLapse c true
      (announcementsChanged_setChannel s c (toIdle s.channels[c])))
    rw [routerFinish_channels, routerFinish_entries]
    refine ⟨assign_setLapse_lapse .., assign_of_idle hidle, hquiet, honly, fun sl w _ _ hbusy hw hu => ?_,
      fun hno => ?_⟩
    · obtain ⟨hchannel, hentry⟩ := assign_of_one_idle (fills_freed (c := c) hw hu)
        (fun d hd => by rw [freed_channel, if_neg hd]; exact hbusy d) fun k x hx hk => hu k x hk hx
      refine ⟨hchannel.trans ?_, hentry⟩
      rw [playOn_channel, if_pos rfl, freed_channel, if_pos rfl, playTime, seconds_eq]
      rfl
    · have hwaiting : waiting (setLapse c true (s.setChannel c (toIdle s.channels[c]))) = [] :=
        waiting_eq_nil_iff.mpr hno
      rw [assign_of_none_waiting hwaiting]
      exact hidle
  · obtain ⟨hquiet, honly⟩ := quiet_and_only (announcementsChanged_setLapse c true (announcementsChanged_countPlay s c))
    rw [routerFinish_channels, routerFinish_entries]
    exact ⟨assign_setLapse_lapse .., hquiet, honly, playCounted_assign hsl he (by simp)⟩

end Sys2Proof.Machine
end

section
/-! SUPPORT. POST ANNOUNCEMENT: its judgement (O47). -/

namespace Sys2Proof.Machine

/-! ## The floors that a post keeps (R144) -/

theorem floorSet_ext {a b : FloorSet} (h : ∀ f : Fin 48, a.has f = b.has f) : a = b :=
  BitVec.eq_of_getLsbD_eq fun i hi => h ⟨i, hi⟩

section
variable {s u v w : State} {p : Fin 4} {i : Instr} {k : AnnClass} {b m : Byte} {fs : FloorSet} {n : Nat} {r : Byte}

theorem trimmed_tenant (s : State) (fs : FloorSet) :
    trimmed .tenant s fs = FloorSet.ofPred fun f => s.present f && fs.has f && s.floors[f].status == .none := by
  refine floorSet_ext fun f => ?_
  rw [trimmed, has_and_not, presentFloors_has, underRegime_has, FloorSet.has_ofPred, dif_pos f.isLt]
  cases s.present f <;> cases fs.has f <;> cases s.floors[f].status <;> rfl

theorem keptFloors_eq (s : State) (hk : k = .console ∨ k = .tenant) (fs : FloorSet) :
    keptFloors s k fs = trimmed k s fs := by
  obtain rfl | rfl := hk
  · have hclass : (AnnClass.console != AnnClass.tenant) = true := rfl
    simp [keptFloors, trimmed, presentFloors, hclass]
  · exact (trimmed_tenant s fs).symm

theorem presentFloors_ne_zero (hk : k = .console ∨ k = .tenant) (h : trimmed k s fs ≠ 0) : presentFloors s fs ≠ 0 := by
  obtain rfl | rfl := hk
  · exact h
  · intro hp
    exact h (by rw [trimmed, hp]; exact BitVec.zero_and)

/-! ## Capacity (R145) -/

/-- A full queue refuses a TENANT post, and a CONSOLE post where no TENANT entry can go. -/
theorem roomFor_eq_none_iff (hk : k = .console ∨ k = .tenant) :
    roomFor k s = none ↔
      14 ≤ postedCount s ∧ (k = .tenant ∨ ∀ sl : Fin 16, ∀ e ∈ s.entries[sl], e.cls ≠ .tenant) := by
  unfold roomFor
  split
  · next hroom => exact iff_of_false nofun fun h => by omega
  · next hroom =>
    have hfull : 14 ≤ postedCount s := Nat.not_lt.mp hroom
    obtain rfl | rfl := hk
    · simp [youngestTenant_eq_none_iff, hfull]
    · simp [hfull]

theorem RoomMade.ports (h : RoomMade u v) : v.ports = u.ports := by
  cases h with
  | free => rfl
  | displaced => simp

theorem RoomMade.announcementsChanged (h : RoomMade u v) : AnnouncementsChanged u v := by
  cases h with
  | free => rfl
  | displaced => exact announcementsChanged_removeEntry ..

/-- A post that is taken only joins notices to the ports, whatever slot it finds. -/
theorem quiet_postEntry (h : RoomMade u v) : QuietPorts u (postEntry p k m fs n u v) := by
  unfold postEntry
  split
  · exact quiet_of_ports h.ports
  · next sl _ =>
    have hcreated : QuietPorts u (createEntry sl k m fs n (some p) v) := quiet_of_ports h.ports
    exact hcreated.trans (quiet_routerFinish u _)

/-! ## The judgement (R143 to R145) -/

/-- The answer to a post whose class, message and repeat are in range and whose port may post it. -/
structure PostJudged (p : Fin 4) (k : AnnClass) (fs : FloorSet) (s t : State) : Prop where
  range : presentFloors s fs = 0 → RefusedAs p .range s t
  suppressed : presentFloors s fs ≠ 0 → trimmed k s fs = 0 → RefusedAs p .suppressed s t
  full : trimmed k s fs ≠ 0 → roomFor k s = none → RefusedAs p .full s t
  accepted : trimmed k s fs ≠ 0 → roomFor k s ≠ none → Accepted p s t

theorem postJudged_of_room (hk : k = .console ∨ k = .tenant) (ht : trimmed k s fs ≠ 0) (hv : roomFor k s = some v) :
    postJudged p k m fs n s = accept (postEntry p k m (trimmed k s fs) n s v) := by
  rw [postJudged, if_neg (presentFloors_ne_zero hk ht), if_neg ht, hv]

theorem postJudged_of_full (hk : k = .console ∨ k = .tenant) (ht : trimmed k s fs ≠ 0) (hv : roomFor k s = none) :
    postJudged p k m fs n s = refuse .full s := by
  rw [postJudged, if_neg (presentFloors_ne_zero hk ht), if_neg ht, hv]

theorem trimmed_opened (p : Fin 4) (i : Instr) (k : AnnClass) (s : State) (fs : FloorSet) :
    trimmed k (opened p i s) fs = trimmed k s fs := by cases k <;> rfl

theorem roomFor_opened (p : Fin 4) (i : Instr) (hk : k = .console ∨ k = .tenant) :
    roomFor k (opened p i s) = none ↔ roomFor k s = none := by
  rw [roomFor_eq_none_iff hk, roomFor_eq_none_iff hk]
  rfl

theorem post_judged (hk : k = .console ∨ k = .tenant) (h : Ready s p i) {body : State → State × Result}
    (hb : body (opened p i s) = postJudged p k m fs n (opened p i s)) :
    PostJudged p k fs s (command p (Instr.bytes i) (afterLoad body) s) where
  range hp := afterLoad_refused h (hb.trans (if_pos hp))
  suppressed hp ht := by
    rw [← trimmed_opened p i] at ht
    exact afterLoad_refused h (hb.trans ((if_neg hp).trans (if_pos ht)))
  full ht hr := by
    rw [← trimmed_opened p i] at ht
    exact afterLoad_refused h (hb.trans (postJudged_of_full hk ht ((roomFor_opened p i hk).mpr hr)))
  accepted ht hr := by
    rw [← trimmed_opened p i] at ht
    obtain ⟨v, hv⟩ := Option.ne_none_iff_exists'.mp (mt (roomFor_opened p i hk).mp hr)
    rw [afterLoad_accepted h.2 h.1 (hb.trans (postJudged_of_room hk ht hv))]
    exact accepted_setResult (quiet_postEntry (roomMade_of_roomFor hv))

/-! ## The class of a post (section 11.1) -/

theorem argIn_eq_some_iff {α : Type} [DecidableEq α] {l : List α} {x : α} (hx : x ∈ l) (hl : l.length ≤ 256)
    (hn : l.Nodup) : argIn l b = some x ↔ b = BitVec.ofNat 8 (codeIn l x) := by
  constructor
  · intro h
    obtain ⟨hlt, hbx⟩ := List.getElem?_eq_some_iff.mp h
    have hcode : codeIn l x = b.toNat := by rw [← hbx]; exact hn.idxOf_getElem _ hlt
    rw [hcode, BitVec.ofNat_toNat, BitVec.setWidth_eq]
  · rintro rfl
    exact argIn_codeIn hx hl

theorem argIn_class_iff (c : AnnClass) :
    argIn AnnClass.list b = some c ↔ b = BitVec.ofNat 8 (codeIn AnnClass.list c) :=
  argIn_eq_some_iff (by cases c <;> decide) (by decide) (by decide)

theorem postBody_console (hm : mayPost s p = true) (hb : argIn AnnClass.list b = some .console)
    (hr : ¬ 15 < r.toNat) (hh : s.regime.holder = some p) :
    postBody p b m fs r s = postJudged p .console m fs r.toNat s := by
  simp only [postBody, hm, hb, if_true, if_neg hr, if_pos hh]

theorem postBody_tenant (hm : mayPost s p = true) (hb : argIn AnnClass.list b = some .tenant)
    (hr : ¬ 15 < r.toNat) (hmsg : m ≠ 0) : postBody p b m fs r s = postJudged p .tenant m fs r.toNat s := by
  simp only [postBody, hm, hb, if_true, if_neg (not_or.mpr ⟨hr, hmsg⟩)]

end

/-- Settles O47, by the class that the byte names and then by the rules of trimming and capacity. -/
theorem postIsRefused : Obligations.PostIsRefused := by
  intro s p k m fs r h hr
  refine ⟨_, rfl, ?_⟩
  have hmay := mayPost_opened h hr
  have hzero := argIn_class_iff (b := k) .console
  have hthree := argIn_class_iff (b := k) .tenant
  dsimp only
  cases ha : argIn AnnClass.list k with
  | none =>
    have hk : k ≠ 0 ∧ k ≠ 3 := ⟨fun h0 => by simp [hzero.mpr h0] at ha, fun h3 => by simp [hthree.mpr h3] at ha⟩
    rw [if_pos (.inl hk)]
    exact afterLoad_refused h (by simp only [postBody, hmay, if_true, ha])
  | some c =>
    cases c with
    | evacuate | alert =>
      have hk : k ≠ 0 ∧ k ≠ 3 := ⟨fun h0 => by simp [hzero.mpr h0] at ha, fun h3 => by simp [hthree.mpr h3] at ha⟩
      rw [if_pos (.inl hk)]
      exact afterLoad_refused h (by simp only [postBody, hmay, if_true, ha])
    | console =>
      have hk : k = 0 := hzero.mp ha
      have hk3 : k ≠ 3 := by rw [hk]; decide
      by_cases h15 : 15 < r.toNat
      · rw [if_pos (.inr (.inr h15))]
        exact afterLoad_refused h (by simp only [postBody, hmay, if_true, ha, if_pos h15])
      · rw [if_neg (by tauto)]
        by_cases hh : s.regime.holder = some p
        · have ht := post_judged (.inl rfl) h (postBody_console (m := m) (fs := fs) hmay ha h15 hh)
          have hroom := roomFor_eq_none_iff (s := s) (k := .console) (.inl rfl)
          rw [if_neg fun hc => hc.2 hh]
          split
          · next hp => exact ht.range hp
          · next hp =>
            rw [if_neg fun hc => hk3 hc.1]
            split
            · next hf => exact ht.full hp (hroom.mpr ⟨hf.1, .inr (hf.2.resolve_left hk3)⟩)
            · next hf =>
              refine ht.accepted hp fun hn => hf ?_
              obtain ⟨hcount, hno⟩ := hroom.mp hn
              exact ⟨hcount, .inr (hno.resolve_left nofun)⟩
        · have hu : ¬ (opened p (.postAnnouncement p k m fs r) s).regime.holder = some p := hh
          rw [if_pos ⟨hk, hh⟩]
          exact afterLoad_refused h (by simp only [postBody, hmay, if_true, ha, if_neg h15, if_neg hu])
    | tenant =>
      have hk : k = 3 := hthree.mp ha
      have hk0 : k ≠ 0 := by rw [hk]; decide
      by_cases hbad : 15 < r.toNat ∨ m = 0
      · rw [if_pos (by tauto)]
        exact afterLoad_refused h (by simp only [postBody, hmay, if_true, ha, if_pos hbad])
      · have hin := not_or.mp hbad
        have ht := post_judged (.inr rfl) h (postBody_tenant (m := m) (fs := fs) hmay ha hin.1 hin.2)
        have hroom := roomFor_eq_none_iff (s := s) (k := .tenant) (.inr rfl)
        rw [if_neg (by tauto), if_neg fun hc => hk0 hc.1, ← trimmed_tenant]
        split
        · next hp => exact ht.range hp
        · next hp =>
          split
          · next hno => exact ht.suppressed hp hno.2
          · next hno =>
            have hsome : trimmed .tenant s fs ≠ 0 := fun h0 => hno ⟨hk, h0⟩
            split
            · next hf => exact ht.full hsome (hroom.mpr ⟨hf.1, .inl rfl⟩)
            · next hf => exact ht.accepted hsome fun hn => hf ⟨(hroom.mp hn).1, .inl hk⟩

end Sys2Proof.Machine
end

section
/-! SUPPORT. POST ANNOUNCEMENT: the entry that an accepted post creates, and the channel that it takes (O46). -/

namespace Sys2Proof.Machine

/-! ## The WAITING entries written out -/

section
variable {s t u v w : State} {p : Fin 4} {i : Instr} {c d : Fin 4} {sl k : Fin 16} {e f x : Entry}

theorem nodup_waiting (s : State) : (waiting s).Nodup := by
  refine (rankOrder_perm _).nodup_iff.mpr (List.Nodup.filterMap (fun a b y ha hb => ?_) (List.nodup_finRange 16))
  have hslot {j : Fin 16} (hj : y ∈ slotIf s.entries (fun e => e.channel.isNone) j) : y.1 = j := by
    rw [Option.mem_def] at hj
    unfold slotIf at hj
    split at hj
    · split at hj
      · cases hj; rfl
      · cases hj
    · cases hj
  exact (hslot ha).symm.trans (hslot hb)

theorem waiting_eq_singleton (h : ∀ j y, Waits s j y ↔ j = sl ∧ y = e) : waiting s = [(sl, e)] := by
  refine List.perm_singleton.mp ((List.perm_ext_iff_of_nodup (nodup_waiting s) (List.nodup_singleton _)).mpr ?_)
  rintro ⟨j, y⟩
  rw [mem_waiting_iff, h, List.mem_singleton, Prod.mk.injEq]

theorem waiting_eq_pair (hne : sl ≠ k) (hover : RanksOver e f)
    (h : ∀ j y, Waits s j y ↔ (j = sl ∧ y = e) ∨ (j = k ∧ y = f)) : waiting s = [(sl, e), (k, f)] := by
  have hnodup : [(sl, e), (k, f)].Nodup := by simp [hne]
  have hmem (y : Fin 16 × Entry) : y ∈ waiting s ↔ y ∈ [(sl, e), (k, f)] := by
    obtain ⟨j, y⟩ := y
    rw [mem_waiting_iff, h]
    simp
  have hperm := (List.perm_ext_iff_of_nodup (nodup_waiting s) hnodup).mpr hmem
  have hpair : RankSorted [(sl, e), (k, f)] :=
    List.pairwise_pair.mpr fun hfe => RanksOver.irrefl _ (hover.trans hfe)
  refine List.Perm.eq_of_pairwise (fun a b ha hb hab hba => ?_) (rankSorted_waiting s) hpair hperm
  rw [hmem] at ha
  simp only [List.mem_cons, List.not_mem_nil, or_false] at ha hb
  obtain rfl | rfl := ha <;> obtain rfl | rfl := hb
  · rfl
  · exact absurd hover hba
  · exact absurd hover hab
  · rfl

/-! ## The assignment after one entry has come -/

theorem assign_of_one_waiting (hc : lowestIdle s = some c) (hw : waiting s = [(sl, e)]) :
    assign s = playOn c sl e s := by
  have hnone : waiting (playOn c sl e s) = [] := by
    refine waiting_eq_nil_iff.mpr fun j y hy => ?_
    have hold := mem_waiting_iff.mpr (waits_playOn hy)
    rw [hw, List.mem_singleton] at hold
    cases hold
    obtain ⟨he, hy⟩ := hy
    rw [playOn_entry, if_pos rfl] at he
    rw [← Option.some.inj he] at hy
    cases hy
  rw [assign, fillIdle_succ 3 hc hw, fillIdle_of_none_waiting hnone, preempt_of_none_waiting hnone]

theorem Unoutranked.preempt (h : Unoutranked s) (n : Nat) : preempt n s = s := by
  cases n with
  | zero => rfl
  | succ n =>
    rw [preempt_succ]
    split
    · next y x hl hw => rw [if_neg (by rw [h _ _ hl hw]; nofun)]
    · rfl

/-- One preemption, of the lowest-ranked PLAYING entry (R151). -/
theorem preempt_of_outranked (n : Nat) {y : Fin 16 × Entry} (hl : lowestOf (playing s) = some (c, sl, e))
    (hw : (waiting s)[stoppingCount s]? = some y) (ho : outranks y.2 e = true) :
    preempt (n + 1) s = preempt n (stopOn c sl e s) := by
  rw [preempt_succ, hl, hw]
  exact if_pos ho

/-- The PLAYING entry that every other ranks above is the lowest-ranked. -/
theorem lowestOf_playing (h : (c, sl, e) ∈ playing s)
    (ho : ∀ d x, d ≠ c → Plays s d x → RanksOver x e) : lowestOf (playing s) = some (c, sl, e) := by
  cases hl : lowestOf (playing s) with
  | none => rw [lowestOf_eq_none hl] at h; cases h
  | some y =>
    obtain ⟨d, k, x⟩ := y
    have hx := lowestOf_mem hl
    have hd : d = c := by
      by_contra hne
      exact lowestOf_spec hl _ h (ho d x hne (plays_iff_mem_playing.mpr ⟨k, hx⟩))
    subst hd
    obtain ⟨-, hsl, he⟩ := mem_playing_iff.mp h
    obtain ⟨-, hk, hx⟩ := mem_playing_iff.mp hx
    obtain rfl := Option.some.inj (hsl.symm.trans hk)
    obtain rfl := Option.some.inj (he.symm.trans hx)
    rfl

theorem stoppingCount_of_playing (h : ∀ d : Fin 4, s.channels[d].state = .playing) : stoppingCount s = 0 := by
  rw [stoppingCount_eq, channelsIn_eq_zero]
  intro d
  rw [h]
  nofun

theorem stoppingCount_stopOn (h : ∀ d : Fin 4, s.channels[d].state = .playing) :
    stoppingCount (stopOn c sl e s) = 1 := by
  have hzero := stoppingCount_of_playing h
  rw [stoppingCount_eq, channelsIn] at hzero ⊢
  rw [countP_finRange_recount c (p := fun d => s.channels[d].state == .stopping)
    fun d hd => by rw [stopOn_channel, if_neg hd], hzero, stopOn_channel, if_pos rfl, h]
  rfl

theorem waits_stopOn_iff (hne : k ≠ sl) (hw : ∀ j y, Waits s j y ↔ j = k ∧ y = f) (j : Fin 16) (y : Entry) :
    Waits (stopOn c sl e s) j y ↔ (j = k ∧ y = f) ∨ (j = sl ∧ y = { e with channel := none }) := by
  constructor
  · intro hy
    exact (waits_stopOn hy).imp_left (hw j y).mp
  · rintro (⟨rfl, rfl⟩ | ⟨rfl, rfl⟩)
    · obtain ⟨hj, hy⟩ := (hw j y).mpr ⟨rfl, rfl⟩
      exact ⟨by rw [stopOn_entry, if_neg hne, hj], hy⟩
    · exact ⟨by rw [stopOn_entry, if_pos rfl], rfl⟩

/-- Where every channel plays, one entry that waits takes the place of the lowest-ranked one that it outranks, which
outranks none of the others (R151). -/
theorem assign_of_all_playing (hplay : ∀ d : Fin 4, s.channels[d].state = .playing)
    (hw : ∀ j y, Waits s j y ↔ j = k ∧ y = f) (hm : (c, sl, e) ∈ playing s) (hec : e.channel ≠ none)
    (ho : ∀ d x, d ≠ c → Plays s d x → RanksOver x e) (hout : outranks f e = true) :
    assign s = stopOn c sl e s := by
  obtain ⟨hk, hf⟩ := (hw k f).mpr ⟨rfl, rfl⟩
  have hne : k ≠ sl := by
    rintro rfl
    obtain ⟨-, -, he⟩ := mem_playing_iff.mp hm
    obtain rfl := Option.some.inj (hk.symm.trans he)
    exact hec hf
  have hnone : lowestIdle s = none := lowestIdle_eq_none_iff.mpr fun d => by rw [hplay]; nofun
  have hfirst : (waiting s)[stoppingCount s]? = some (k, f) := by
    rw [waiting_eq_singleton hw, stoppingCount_of_playing hplay]
    rfl
  have hover : RanksOver f { e with channel := none } := .inl (of_decide_eq_true hout)
  have hpair := waiting_eq_pair hne hover (waits_stopOn_iff (c := c) hne hw)
  rw [assign, fillIdle_of_none_idle hnone, preempt_of_outranked 3 (lowestOf_playing hm ho) hfirst hout]
  refine Unoutranked.preempt (fun y x hy hx => ?_) 3
  rw [hpair, stoppingCount_stopOn hplay] at hx
  obtain rfl : (sl, { e with channel := none }) = x := Option.some.inj hx
  obtain ⟨hplays, hnames, hentry⟩ := mem_playing_iff.mp (lowestOf_mem hy)
  have hd : y.1 ≠ c := by
    intro hd
    rw [stopOn_channel, if_pos hd] at hplays
    cases hplays
  rw [stopOn_channel, if_neg hd] at hplays hnames
  rw [stopOn_entry] at hentry
  refine outranks_of_not_ranksOver fun hunder => RanksOver.irrefl _ (hunder.trans ?_)
  split at hentry
  · rw [← Option.some.inj hentry] at hunder
    exact absurd hunder (RanksOver.irrefl _)
  · exact ho y.1 y.2.2 hd ⟨hplays, y.2.1, hnames, hentry⟩

end

end Sys2Proof.Machine
end

section
/-! SUPPORT. POST ANNOUNCEMENT creates an entry, and the channel that it takes (O46). -/

namespace Sys2Proof.Machine

/-! ## The entry of an accepted post (R141, R142, R145) -/

/-- An entry as it is posted. -/
def postedEntry (k : AnnClass) (m : Byte) (fs : FloorSet) (n : Nat) (p : Fin 4) (age : Nat) : Entry :=
  ⟨k, m, fs, n, 0, some p, age, none⟩

section
variable {s t u v w : State} {p : Fin 4} {i : Instr} {sl : Fin 16} {k : AnnClass} {b m r : Byte} {fs : FloorSet}
  {n : Nat}

theorem freeSlot_eq (hsl : sl.val < 14) (he : s.entries[sl] = none) (h : ∀ j : Fin 16, j < sl → s.entries[j] ≠ none) :
    freeSlot s = some sl := by
  refine find?_finRange (by simp [postSlot, hsl, he]) fun j hj => ?_
  rw [Option.isNone_eq_false_iff.mpr (Option.isSome_iff_ne_none.mpr (h j hj)), Bool.and_false]

theorem createEntry_posted (sl j : Fin 16) (s : State) :
    (createEntry sl k m fs n (some p) s).entries[j] =
      if j = sl then some (postedEntry k m fs n p (entryCount s)) else s.entries[j] := createEntry_entry ..

theorem postEntry_of_free (h : freeSlot v = some sl) :
    postEntry p k m fs n u v = routerFinish u (createEntry sl k m fs n (some p) v) := by
  simp only [postEntry, h]

/-- A post that the port may make and whose class, message and repeat are in range (R143). -/
theorem postBody_posts (hm : mayPost s p = true) (hb : argIn AnnClass.list b = some k)
    (hk : k = .tenant ∧ m ≠ 0 ∨ k = .console ∧ s.regime.holder = some p) (hr : r.toNat ≤ 15) :
    postBody p b m fs r s = postJudged p k m fs r.toNat s := by
  have hin : ¬ 15 < r.toNat := Nat.not_lt.mpr hr
  obtain ⟨rfl, hmsg⟩ | ⟨rfl, hh⟩ := hk
  · exact postBody_tenant hm hb hin hmsg
  · exact postBody_console hm hb hin hh

/-- The answer to a post that has room in the queue and a slot in it. -/
theorem post_answered (hb : argIn AnnClass.list b = some k) (h : Ready s p (.postAnnouncement p b m fs r))
    (hrole : s.config.ports[p].role = .console ∨ s.config.ports[p].role = .voice)
    (hk : k = .tenant ∧ m ≠ 0 ∨ k = .console ∧ s.regime.holder = some p) (hr : r.toNat ≤ 15)
    (hfs : keptFloors s k fs ≠ 0)
    (hv : roomFor k (opened p (.postAnnouncement p b m fs r) s) = some v)
    (hfree : freeSlot v = some sl) :
    ∃ t, exec (.postAnnouncement p b m fs r) s = .next t ∧
      RouterAnswered p s (createEntry sl k m (keptFloors s k fs) r.toNat (some p) v) t := by
  have hclass : k = .console ∨ k = .tenant := hk.elim (fun hk => .inr hk.1) fun hk => .inl hk.1
  rw [keptFloors_eq s hclass] at hfs ⊢
  refine ⟨_, rfl, routerAnswered h ?_ ((roomMade_of_roomFor hv).announcementsChanged.trans rfl)⟩
  rw [← trimmed_opened p (.postAnnouncement p b m fs r)] at hfs ⊢
  rw [postBody_posts (mayPost_opened h hrole) hb hk hr, postJudged_of_room hclass hfs hv, postEntry_of_free hfree]

/-- The posted entry stands in its slot, on a channel or not. -/
theorem RouterAnswered.posted (h : RouterAnswered p s (createEntry sl k m fs n (some p) v) t) :
    ∃ e : Entry, t.entries[sl] = some e ∧ e.cls = k ∧ e.message = m ∧ e.floors = fs ∧ e.rpt = n ∧ e.plays = 0 ∧
      e.origin = some p ∧ e.age = entryCount v := by
  have hslot : (createEntry sl k m fs n (some p) v).entries[sl] = some (postedEntry k m fs n p (entryCount v)) := by
    rw [createEntry_posted, if_pos rfl]
  obtain ⟨x, hx, hxe⟩ := entry_after_assign hslot
  rw [hxe] at hx
  rw [h.entries]
  exact ⟨_, hx, rfl, rfl, rfl, rfl, rfl, rfl, rfl⟩

/-- An entry of another class than what stood in the slot is one that the QUEUE notice reports (R163). -/
theorem RouterAnswered.raised_of_posted (h : RouterAnswered p s (createEntry sl k m fs n (some p) v) t)
    (hs : ∀ x ∈ s.entries[sl], x.cls ≠ k) : Raised .queue s t := by
  obtain ⟨e, he, hcls, -⟩ := h.posted
  refine h.queue sl fun heq => ?_
  rw [← h.entries, he] at heq
  obtain ⟨x, hx, hxe⟩ := Option.map_eq_some_iff.mp heq.symm
  exact hs x hx ((Prod.mk.inj hxe).1.trans hcls)

/-- A post leaves every other slot filled or free. -/
theorem RouterAnswered.others_of_posted (h : RouterAnswered p s (createEntry sl k m fs n (some p) v) t)
    (hv : ∀ j : Fin 16, j ≠ sl → (v.entries[j] = none ↔ s.entries[j] = none)) (j : Fin 16) (hj : j ≠ sl) :
    t.entries[j] = none ↔ s.entries[j] = none := by
  rw [h.entry_eq_none_iff, createEntry_posted, if_neg hj, hv j hj]

/-! ## A full queue (R145) -/

theorem youngestTenant_eq {x : Entry} (he : s.entries[sl] = some x) (hx : x.cls = .tenant)
    (h : ∀ j : Fin 16, j ≠ sl → ∀ e ∈ s.entries[j], e.cls = .tenant → e.age < x.age) : youngestTenant s = some sl := by
  cases hy : youngestTenant s with
  | none => exact absurd hx ((youngestTenant_eq_none_iff s).mp hy sl x he)
  | some j =>
    obtain ⟨e, hj, hcls, hyoung⟩ := youngestTenant_spec hy
    congr 1
    by_contra hne
    have hless := h j hne e hj hcls
    have hmost := hyoung sl x he hx
    omega

theorem roomFor_of_youngest (hc : 14 ≤ postedCount s) (hy : youngestTenant s = some sl) :
    roomFor .console s = some (removeEntry sl s) := by
  simp only [roomFor, if_neg (Nat.not_lt.mpr hc), hy, Option.map_some]

theorem entryCount_removeEntry {x : Entry} (he : s.entries[sl] = some x) :
    entryCount (removeEntry sl s) = entryCount s - 1 := entryCount_withoutSlot he (removeEntry_entries he)

/-! ## The channel of a post (R150, R151) -/

/-- Where no entry waits the posted one waits alone. -/
theorem waits_createEntry_iff (hsl : ∀ j x, ¬ Waits s j x) (j : Fin 16) (x : Entry) :
    Waits (createEntry sl k m fs n (some p) s) j x ↔ j = sl ∧ x = postedEntry k m fs n p (entryCount s) := by
  constructor
  · rintro ⟨hj, hx⟩
    rw [createEntry_posted] at hj
    split at hj
    · next heq => exact ⟨heq, (Option.some.inj hj).symm⟩
    · exact absurd ⟨hj, hx⟩ (hsl j x)
  · rintro ⟨rfl, rfl⟩
    exact ⟨by rw [createEntry_posted, if_pos rfl], rfl⟩

/-- A post takes the lowest-numbered IDLE channel where no entry waits. -/
theorem assign_createEntry_idle {c : Fin 4} (hwaits : ∀ j x, ¬ Waits s j x) (hc : s.channels[c].state = .idle)
    (hlow : ∀ d : Fin 4, d < c → s.channels[d].state ≠ .idle) :
    assign (createEntry sl k m fs n (some p) s) =
      playOn c sl (postedEntry k m fs n p (entryCount s)) (createEntry sl k m fs n (some p) s) :=
  assign_of_one_waiting (lowestIdle_eq hc hlow) (waiting_eq_singleton (waits_createEntry_iff hwaits))

/-- A channel that plays names another slot than a free one, and plays its entry after the post too. -/
theorem plays_createEntry (h : ChannelLaw s) (hsl : s.entries[sl] = none) {c : Fin 4} {e : Entry} :
    Plays (createEntry sl k m fs n (some p) s) c e ↔ Plays s c e := by
  have hslot {j : Fin 16} (hj : s.channels[c].entry = some j) :
      (createEntry sl k m fs n (some p) s).entries[j] = s.entries[j] := by
    obtain ⟨x, hx, -⟩ := h.named c j hj
    rw [createEntry_posted, if_neg]
    rintro rfl
    rw [hsl] at hx
    cases hx
  constructor
  · rintro ⟨hp, j, hj, he⟩
    exact ⟨hp, j, hj, (hslot hj).symm.trans he⟩
  · rintro ⟨hp, j, hj, he⟩
    exact ⟨hp, j, hj, (hslot hj).trans he⟩

/-- A CONSOLE post takes the place of the lowest-ranked entry of another class where every channel plays. -/
theorem assign_createEntry_playing {c : Fin 4} {j : Fin 16} {e : Entry} (h : ChannelLaw s) (hsl : s.entries[sl] = none)
    (hwaits : ∀ j x, ¬ Waits s j x) (hplay : ∀ d : Fin 4, s.channels[d].state = .playing)
    (hj : s.channels[c].entry = some j) (he : s.entries[j] = some e) (hcls : e.cls ≠ .console)
    (ho : ∀ d x, d ≠ c → Plays s d x → RanksOver x e) :
    assign (createEntry sl .console m fs n (some p) s) =
      stopOn c j e (createEntry sl .console m fs n (some p) s) := by
  have hne : j ≠ sl := by
    rintro rfl
    rw [hsl] at he
    cases he
  have hec : e.channel ≠ none := by
    obtain ⟨x, hx, hxc, -⟩ := h.named c j hj
    obtain rfl := Option.some.inj (he.symm.trans hx)
    rw [hxc]
    nofun
  have hout : outranks (postedEntry .console m fs n p (entryCount s)) e = true := by
    rw [outranks, decide_eq_true_eq]
    cases hc : e.cls with
    | console => exact absurd hc hcls
    | evacuate | alert | tenant => simp [postedEntry]; decide
  refine assign_of_all_playing hplay (waits_createEntry_iff hwaits) (mem_playing_iff.mpr ⟨hplay c, hj, ?_⟩) hec
    (fun d x hd hx => ho d x hd ((plays_createEntry h hsl).mp hx)) hout
  rw [createEntry_posted, if_neg hne, he]

end

/-- Settles O46: the entry that the judgement creates stands in the lowest free slot, or in that of the youngest TENANT
entry, and the assignment gives it the IDLE channel or that of the lowest-ranked entry. -/
theorem postCreatesAnEntry : Obligations.PostCreatesAnEntry := by
  refine ⟨?_, ?_, ?_, ?_⟩
  · intro s p k m fs r sl h hrole hk hr hroom hsl he hlow hfs
    obtain ⟨t, ht, ha⟩ := post_answered (sl := sl) ((argIn_class_iff k).mpr rfl) h hrole hk hr hfs
      (if_pos hroom) (freeSlot_eq hsl he hlow)
    exact ⟨t, ht, ha.accepted, ha.raised_of_posted (by rw [he]; nofun), ha.only, ha.posted,
      ha.others_of_posted fun j _ => Iff.rfl⟩
  · intro s p m fs r sl x h hrole hh hr hfull hcount hx htenant hsl hyoung hfs
    have hroom := roomFor_of_youngest (s := opened p (.postAnnouncement p 0 m fs r) s) hcount
      (youngestTenant_eq hx htenant hyoung)
    have hothers (j : Fin 16) (hj : j ≠ sl) :=
      removeEntry_eq_none_iff (opened p (.postAnnouncement p 0 m fs r) s) hj
    have hfree := freeSlot_eq hsl (removeEntry_eq_none (.inl rfl)) fun j hj hnone =>
      hfull j (by omega) ((hothers j (Fin.ne_of_lt hj)).mp hnone)
    obtain ⟨t, ht, ha⟩ := post_answered ((argIn_class_iff (b := 0) .console).mpr rfl) h hrole
      (.inr ⟨rfl, hh⟩) hr hfs hroom hfree
    have hposted := ha.posted
    rw [entryCount_removeEntry (s := opened p (.postAnnouncement p 0 m fs r) s) hx] at hposted
    refine ⟨t, ht, ha.accepted, ha.raised_of_posted fun y hy => ?_, ha.only, hposted, ha.others_of_posted hothers⟩
    obtain rfl := Option.some.inj (hx.symm.trans hy)
    rw [htenant]
    nofun
  · rintro s p k m fs r sl c _ rfl h hrole hk hr hroom hsl he hlow hfs - hwaits hc hfirst
    obtain ⟨t, ht, ha⟩ := post_answered (sl := sl) ((argIn_class_iff k).mpr rfl) h hrole hk hr hfs
      (if_pos hroom) (freeSlot_eq hsl he hlow)
    have hassign := assign_createEntry_idle (sl := sl) (k := k) (m := m) (fs := keptFloors s k fs) (n := r.toNat)
      (p := p) (s := opened p (.postAnnouncement p (BitVec.ofNat 8 (codeIn AnnClass.list k)) m fs r) s)
      hwaits hc hfirst
    refine ⟨t, ht, ⟨_, by rw [ha.entries, hassign, playOn_entry, if_pos rfl], rfl⟩, ?_⟩
    rw [ha.channels, hassign, ← seconds_eq]
    rfl
  · rintro s p m fs r sl c e _ rfl h hrole hh hr hroom hsl he hlow hfs hlaw hwaits hplay ⟨-, j, hj, hje⟩ hcls hover
    obtain ⟨t, ht, ha⟩ := post_answered (sl := sl) ((argIn_class_iff (b := 0) .console).mpr rfl) h hrole
      (.inr ⟨rfl, hh⟩) hr hfs (if_pos hroom) (freeSlot_eq hsl he hlow)
    have hlaw := channelInv_iff.mp hlaw
    have hopened : ChannelLaw (opened p (.postAnnouncement p 0 m fs r) s) :=
      hlaw.of_views (fun _ => rfl) fun _ => .refl _
    have hassign := assign_createEntry_playing (m := m) (fs := keptFloors s .console fs) (n := r.toNat) (p := p)
      hopened he hwaits hplay hj hje hcls hover
    have hne : sl ≠ j := by
      rintro rfl
      rw [he] at hje
      cases hje
    have hslot : t.entries[sl] = some (postedEntry .console m (keptFloors s .console fs) r.toNat p (entryCount s)) := by
      rw [ha.entries, hassign, stopOn_entry, if_neg hne, createEntry_posted, if_pos rfl]
      rfl
    refine ⟨t, ht, ?_, ⟨_, hslot, rfl⟩, fun l hl => ?_⟩
    · rw [ha.channels]
      exact congrArg State.channels hassign
    · obtain ⟨x, hx, hxc, -⟩ := hlaw.named c j hj
      obtain rfl := Option.some.inj (hje.symm.trans hx)
      obtain rfl := Option.some.inj (hj.symm.trans (hlaw.naming l e c hl hxc))
      rw [ha.entries, hassign, stopOn_entry, if_pos rfl]

end Sys2Proof.Machine
end

section
/-! SUPPORT. The event that begins a power-on reset (O23), and RESTART (O60). -/

namespace Sys2Proof.Machine

section
variable {s : State} {p q : Fin 4} {n : Fin 136} {c : WorkConfig}

/-! ## The store and the ports at the beginning of a load (R165, R186, R191) -/

/-- The record of a write in progress ends damaged with its count raised, and no other changes. -/
theorem cutShort_record (busy : Option StoreBusy) (st : Vector StoreRec 136) (n : Fin 136) :
    (cutShort busy st)[n] = if busy.map (·.record) = some n then cutRecord st[n] else st[n] := by
  cases busy with
  | none => rfl
  | some b =>
    simp only [cutShort, getElem_set_fin, Option.map_some, Option.some.injEq, eq_comm (a := b.record)]
    split
    · next hn => rw [hn]
    · rfl

theorem powerOn_record (s : State) (n : Fin 136) :
    (powerOn s).store[n] =
      { (cutShort s.busy s.store)[n] with
        substituted := (cutShort s.busy s.store)[n].damaged ||
          (buildConfig (cutShort s.busy s.store)).2.contains n } := getElem_tabulate _ _ _

/-- A damaged record is loaded as its factory default. -/
theorem powerOn_substituted (h : (powerOn s).store[n].damaged = true) : (powerOn s).store[n].substituted = true := by
  rw [powerOn_record] at h ⊢
  exact Bool.or_eq_true_iff.mpr (.inl h)

/-- With no write in progress a load keeps every record but for its substituted flag. -/
theorem powerOn_record_of_idle (h : s.busy = none) (n : Fin 136) :
    (powerOn s).store[n] = { s.store[n] with substituted := (powerOn s).store[n].substituted } := by
  rw [powerOn_record, h]
  rfl

theorem powerOn_port (s : State) (p : Fin 4) : (powerOn s).ports[p] = portReset (abandonFrame s.ports[p].frame) :=
  getElem_tabulate _ _ _

theorem contextReset_portReset (f : Frame) : ContextReset (portReset f) :=
  ⟨rfl, rfl, rfl, rfl, rfl, rfl, rfl, rfl, rfl, rfl⟩

/-! ## The first record that offends (R188) -/

theorem firstOffender_eq_none (h : ∀ n : Fin 136, offends c n = false) : firstOffender c = none := by
  simpa [firstOffender] using h

theorem firstOffender_eq_some (hn : offends c n = true) (h : ∀ m : Fin 136, m < n → offends c m = false) :
    firstOffender c = some n := find?_finRange hn h

/-! ## RESTART from the holder (R190) -/

theorem restartBody_of_active (h : s.regime.state ≠ .quiet) : restartBody p s = refuse .state s := by
  rw [restartBody, if_neg h]

theorem restartBody_of_disabled (h : s.regime.state = .quiet) (he : s.enable = false) :
    restartBody p s = refuse .enable s := by
  simp [restartBody, h, he]

theorem restartBody_of_busy (h : s.regime.state = .quiet) (he : s.enable = true) (hb : s.busy ≠ none) :
    restartBody p s = refuse .busy s := by
  simp [restartBody, h, he, Option.isSome_iff_ne_none, hb]

theorem restartBody_of_clear (h : s.regime.state = .quiet) (he : s.enable = true) (hb : s.busy = none)
    (hf : firstOffender (storedConfig s.store) = none) :
    restartBody p s = accept (powerOn (setConflict p none s)) := by
  simp [restartBody, h, he, hb, hf]

theorem restartBody_of_offender (h : s.regime.state = .quiet) (he : s.enable = true) (hb : s.busy = none)
    (hf : firstOffender (storedConfig s.store) = some n) :
    restartBody p s = (setConflict p (some n) s, .conflict) := by
  simp [restartBody, h, he, hb, hf]

theorem setResult_portReset (h : ContextReset s.ports[q] ∧ s.ports[q].lastResult = .ok ∧ s.ports[q].conflict = none) :
    ContextReset (setResult p .ok s).ports[q] ∧ (setResult p .ok s).ports[q].lastResult = .ok ∧
      (setResult p .ok s).ports[q].conflict = none := by
  by_cases hq : q = p
  · subst hq
    obtain ⟨hcontext, -, hconflict⟩ := h
    rw [setResult_self]
    exact ⟨hcontext, rfl, hconflict⟩
  · rw [setResult_other _ _ hq]
    exact h

/-- A RESTART that finds an offending record sets the sender's conflict locator and its result alone. -/
theorem setConflict_answered (p : Fin 4) (i : Instr) (n : Option (Fin 136)) (r : Result) (s : State) :
    let t := setResult p r (setConflict p n (opened p i s))
    t = { s with ports := t.ports } ∧ (∀ q : Fin 4, q ≠ p → t.ports[q] = s.ports[q]) ∧
      t.ports[p].lastResult = r ∧ t.ports[p].conflict = n := by
  refine ⟨rfl, fun q hq => ?_, ?_, ?_⟩
  · rw [setResult_other _ _ hq]
    exact (setPort_other _ p _ q hq).trans (opened_other i s hq)
  · rw [setResult_self]
  · rw [setResult_self, setConflict, setPort_self]

end

/-- Settles O23, by the record of the write that is cut short and the others. -/
theorem powerOnResetBeginsTheLoad : Obligations.PowerOnResetBeginsTheLoad := by
  refine fun s => ⟨powerOn s, rfl, rfl, loadInv_powerOn s, rfl, rfl, rfl, rfl, fun n => ?_, fun p => ?_⟩
  · have hrecord := powerOn_record s n
    rw [cutShort_record] at hrecord
    refine ⟨?_, ?_, powerOn_substituted, ?_⟩
    · rw [hrecord]; split <;> rfl
    · rw [hrecord]; split <;> rfl
    · split
      · next hb => rw [hrecord, if_pos hb]; exact ⟨rfl, rfl⟩
      · next hb => rw [hrecord, if_neg hb]; exact ⟨rfl, rfl⟩
  · rw [powerOn_port]
    exact ⟨contextReset_portReset _, rfl, rfl⟩

/-- Settles O60, by the branches of the judgement: a restart that nothing bars is a power-on reset with no write in
progress. -/
theorem restartBeginsAPowerOnReset : Obligations.RestartBeginsAPowerOnReset := by
  refine fun s p hh => ⟨_, rfl, controlled_command hh fun h => ?_⟩
  split
  · next hs => exact controlled_refused h (restartBody_of_active hs)
  · next hs =>
    have hs : (opened p (.restart p) s).regime.state = .quiet := not_not.mp hs
    split
    · next he => exact controlled_refused h (restartBody_of_disabled hs he)
    · next he =>
      have he : (opened p (.restart p) s).enable = true := Bool.of_not_eq_false he
      split
      · next hb => exact controlled_refused h (restartBody_of_busy hs he hb)
      · next hb =>
        have hb : (opened p (.restart p) s).busy = none := not_not.mp hb
        refine ⟨fun hclear => ?_, fun n hn hfirst => ?_⟩
        · have hload : LoadInv (command p (Instr.bytes (.restart p)) (controlled p (restartBody p)) s) :=
            exec_keeps_loadInv_after (i := .restart p) h.1.1 rfl
          have hbody := restartBody_of_clear (p := p) hs he hb (firstOffender_eq_none hclear)
          rw [controlled_accepted h hbody] at hload ⊢
          refine ⟨rfl, hload, rfl, rfl, rfl, fun n => ?_, fun q => setResult_portReset ?_⟩
          · have hrecord := powerOn_record_of_idle (s := setConflict p none (opened p (.restart p) s)) hb n
            have hstore (w : State) : (setResult p .ok w).store = w.store := by simp
            rw [hstore, hrecord]
            exact ⟨rfl, rfl, rfl, rfl⟩
          · rw [powerOn_port]
            exact ⟨contextReset_portReset _, rfl, rfl⟩
        · have hbody := restartBody_of_offender (p := p) hs he hb (firstOffender_eq_some hn hfirst)
          rw [command_heard hh, controlled_opened h, hbody]
          exact setConflict_answered p (.restart p) (some n) .conflict s

end Sys2Proof.Machine
end

section
/-! SUPPORT. What the units do to the ports: kinds that a port's role receives join its notice set, its attention line
is judged anew, and nothing else of the ports changes. -/

namespace Sys2Proof.Machine

/-! ## Kinds that join a port (R178 to R180) -/

/-- The kinds that a port receives: none during the load (R178). -/
def portKinds (s : State) (p : Fin 4) : NoticeSet :=
  match s.role p with
  | none => 0
  | some r => receives r

/-- Kinds of a set join a port's notice set, and its attention line stays as judged (R178, R180). -/
structure PortNoticed (ks : NoticeSet) (c d : Port) : Prop where
  joined : NoticesJoined c d
  within : c.notices &&& ~~~ks = 0 → d.notices &&& ~~~ks = 0
  attention : AttentionGood c → AttentionGood d

/-- Notices join the ports whose role receives them; the load and the configuration, by which roles go, stay. -/
structure PortsNoticed (s t : State) : Prop where
  load : t.load = s.load
  config : t.config = s.config
  port : ∀ q : Fin 4, PortNoticed (portKinds s q) s.ports[q] t.ports[q]

section
variable {s s0 t u : State} {ks : NoticeSet} {c d e : Port}

/-- Two sets of kinds within a third are within it together. -/
theorem kinds_or_sub {a b : NoticeSet} (ha : a &&& ~~~ks = 0) (hb : b &&& ~~~ks = 0) : (a ||| b) &&& ~~~ks = 0 := by
  rw [BitVec.and_comm, BitVec.and_or_distrib_left, BitVec.and_comm _ a, BitVec.and_comm _ b, ha, hb]
  exact BitVec.or_zero

theorem kinds_and_sub (a b : NoticeSet) : (a &&& b) &&& ~~~b = 0 := by
  rw [BitVec.and_assoc, BitVec.and_not_self]
  exact BitVec.and_zero

theorem portKinds_congr (hl : t.load = s.load) (hc : t.config = s.config) (q : Fin 4) :
    portKinds t q = portKinds s q := by
  have hrole : t.role q = s.role q := by rw [State.role, State.role, State.loading, State.loading, hl, hc]
  rw [portKinds, hrole, portKinds]

theorem portKinds_of_ready (hl : s.load = none) (q : Fin 4) : portKinds s q = receives s.config.ports[q].role := by
  rw [portKinds, role_of_ready hl]

theorem PortNoticed.refl (ks : NoticeSet) (c : Port) : PortNoticed ks c c := ⟨.refl c, id, id⟩

theorem PortNoticed.trans (h : PortNoticed ks c d) (k : PortNoticed ks d e) : PortNoticed ks c e :=
  ⟨h.joined.trans k.joined, k.within ∘ h.within, k.attention ∘ h.attention⟩

/-- Recording kinds joins them to the set and judges the attention line (R179, R180). -/
theorem portNoticed_recordKinds (k ks : NoticeSet) (c : Port) : PortNoticed ks c (recordKinds (k &&& ks) c) := by
  refine ⟨joined_recordKinds _ c, fun h => ?_, fun h => ?_⟩
  · unfold recordKinds
    split
    · exact h
    · exact kinds_or_sub h (kinds_and_sub k ks)
  · unfold recordKinds
    split
    · exact h
    · exact rfl

@[simp] theorem PortsNoticed.refl (s : State) : PortsNoticed s s := ⟨rfl, rfl, fun _ => .refl _ _⟩

theorem PortsNoticed.trans (h : PortsNoticed s t) (k : PortsNoticed t u) : PortsNoticed s u where
  load := k.load.trans h.load
  config := k.config.trans h.config
  port q := (h.port q).trans (portKinds_congr h.load h.config q ▸ k.port q)

/-- An event that takes effect only on a condition. -/
theorem PortsNoticed.ite {a : Prop} [Decidable a] (h : PortsNoticed s t) : PortsNoticed s (if a then t else s) := by
  split
  · exact h
  · exact .refl s

/-- An event that leaves the ports. -/
theorem portsNoticed_of_ports (hl : t.load = s.load) (hc : t.config = s.config) (hp : t.ports = s.ports) :
    PortsNoticed s t :=
  ⟨hl, hc, fun q => by rw [hp]; exact .refl _ _⟩

theorem portsNoticed_setRegime (g : Regime) (s : State) : PortsNoticed s (s.setRegime g) :=
  portsNoticed_of_ports rfl rfl rfl

theorem portsNoticed_setPGroup (g : Fin 8) (x : PGroup) (s : State) : PortsNoticed s (s.setPGroup g x) :=
  portsNoticed_of_ports rfl rfl rfl

theorem portsNoticed_setCar (c : Fin 12) (x : Car) (s : State) : PortsNoticed s (s.setCar c x) :=
  portsNoticed_of_ports rfl rfl rfl

theorem portsNoticed_setLGroup (g : Fin 3) (x : LGroup) (s : State) : PortsNoticed s (s.setLGroup g x) :=
  portsNoticed_of_ports rfl rfl rfl

theorem portsNoticed_setDoor (c : Fin 32) (x : Door) (s : State) : PortsNoticed s (s.setDoor c x) :=
  portsNoticed_of_ports rfl rfl rfl

theorem portsNoticed_setDGroup (g : Fin 16) (x : DGroup) (s : State) : PortsNoticed s (s.setDGroup g x) :=
  portsNoticed_of_ports rfl rfl rfl

theorem portsNoticed_raise (k : NoticeSet) (s : State) : PortsNoticed s (raise k s) where
  load := by simp
  config := by simp
  port q := by
    rw [raise_port, portKinds]
    cases s.role q with
    | none => exact .refl _ _
    | some r => exact portNoticed_recordKinds k (receives r) _

theorem portsNoticed_raiseIf (b : Bool) (k : Notice) (s : State) : PortsNoticed s (raiseIf b k s) :=
  .ite (portsNoticed_raise _ s)

/-! ## The units' work at an event -/

/-- A notice that follows an event. -/
theorem PortsNoticed.raiseIf (h : PortsNoticed s t) (b : Bool) (k : Notice) : PortsNoticed s (raiseIf b k t) :=
  h.trans (portsNoticed_raiseIf b k t)

theorem PortsNoticed.liftNotices (h : PortsNoticed s t) (s0 : State) : PortsNoticed s (liftNotices s0 t) :=
  ((h.trans (portsNoticed_of_ports (by simp) (by simp) (by simp))).raiseIf _ _).raiseIf _ _

theorem PortsNoticed.liftSettle (h : PortsNoticed s t) (s0 : State) : PortsNoticed s (liftSettle s0 t) :=
  (h.trans (portsNoticed_of_ports (by simp) (by simp) (by simp))).liftNotices s0

theorem PortsNoticed.doorNotices (h : PortsNoticed s t) (s0 : State) : PortsNoticed s (doorNotices s0 t) :=
  ((h.trans (portsNoticed_of_ports (by simp) (by simp) (by simp))).raiseIf _ _).raiseIf _ _

theorem PortsNoticed.doorSettle (h : PortsNoticed s t) (s0 : State) : PortsNoticed s (doorSettle s0 t) :=
  (h.trans (portsNoticed_of_ports (by simp) (by simp) (by simp))).doorNotices s0

theorem PortsNoticed.routerFinish (h : PortsNoticed s t) (s0 : State) : PortsNoticed s (routerFinish s0 t) :=
  (((h.trans (portsNoticed_of_ports (by simp) (by simp) (by simp))).raiseIf _ _).raiseIf _ _).raiseIf _ _

theorem PortsNoticed.routerSettle (h : PortsNoticed s t) (s0 : State) : PortsNoticed s (routerSettle s0 t) :=
  (h.trans (portsNoticed_of_ports (by simp) (by simp) (by simp))).routerFinish s0

theorem PortsNoticed.regimeNotice (h : PortsNoticed s t) (s0 : State) : PortsNoticed s (regimeNotice s0 t) :=
  h.raiseIf _ _

theorem PortsNoticed.floorSettle (h : PortsNoticed s t) (s0 : State) : PortsNoticed s (floorSettle s0 t) :=
  ((h.trans (portsNoticed_of_ports (by simp) (by simp) (by simp))).raiseIf _ _).regimeNotice s0

/-- The work of every unit at an event (R50, R76). -/
theorem PortsNoticed.settle (h : PortsNoticed s t) (s0 : State) : PortsNoticed s (settle s0 t) :=
  (((h.floorSettle s0).liftSettle s0).doorSettle s0).routerSettle s0

theorem portsNoticed_changeLine (i : Fin 64) (l : Line) (s : State) : PortsNoticed s (changeLine i l s) :=
  ((portsNoticed_of_ports (by simp) (by simp) (by simp)).raiseIf _ _).raiseIf _ _

theorem portsNoticed_lineEvent (i : Fin 64) (l : Line) (s : State) : PortsNoticed s (lineEvent i l s) := by
  unfold lineEvent
  dsimp only
  split
  · exact ((portsNoticed_changeLine i l s).trans (portsNoticed_of_ports (by simp) (by simp) (by simp))).settle s
  · exact portsNoticed_changeLine i l s

theorem portsNoticed_takeSample (i : Fin 64) (code : BitVec 10) (s : State) : PortsNoticed s (takeSample i code s) := by
  unfold takeSample
  dsimp only
  split
  · exact portsNoticed_of_ports rfl rfl rfl
  · split
    · exact .trans (portsNoticed_of_ports (by simp) (by simp) (by simp)) (portsNoticed_lineEvent i _ _)
    · exact portsNoticed_lineEvent i _ s

theorem portsNoticed_windowLine (g : Fin 8) (s : State) (i : Fin 64) : PortsNoticed s (windowLine g s i) :=
  .ite (portsNoticed_changeLine i _ s)

theorem portsNoticed_setHolder (h : Option (Fin 4)) (s : State) : PortsNoticed s (setHolder h s) :=
  (portsNoticed_setRegime _ s).trans (portsNoticed_raise _ _)

theorem portsNoticed_setSilenced (b : Bool) (s : State) : PortsNoticed s (setSilenced b s) :=
  ((portsNoticed_setRegime _ s).routerSettle s).regimeNotice s

theorem portsNoticed_resetRegime (s : State) : PortsNoticed s (resetRegime s) := by
  have hlines : PortsNoticed s (resetEachLine s) :=
    foldl_relates .refl .trans (f := resetLineOf) (fun s i => portsNoticed_changeLine i _ s) _ s
  unfold resetRegime
  refine (hlines.trans (portsNoticed_of_ports ?_ ?_ ?_)).settle s <;> simp [clearManual, resetLines]

theorem PortsNoticed.writeEnds (h : PortsNoticed s t) (n : Fin 136) (x : StoreRec) :
    PortsNoticed s (writeEnds n x t) :=
  (h.trans (PortsNoticed.raiseIf (portsNoticed_of_ports (by simp) (by simp) (by simp)) _ _)).trans
    (portsNoticed_raise _ _)

theorem portsNoticed_playEnded (c : Fin 4) (s : State) : PortsNoticed s (playEnded c s) := by
  unfold playEnded
  dsimp only
  split
  · exact PortsNoticed.routerFinish (portsNoticed_of_ports (by simp) (by simp) (by simp)) s
  · exact PortsNoticed.routerFinish (portsNoticed_of_ports (by simp) (by simp) (by simp)) s
  · exact .refl s

end

end Sys2Proof.Machine
end

section
/-! SUPPORT. What a command and what every other step does to the ports, said once: each keeps the law of a port and
the kinds that its role receives (O10). -/

namespace Sys2Proof.Machine

/-! ## The law of one port, and what keeps it -/

/-- Pointer, window, attention line and reply of a port are as its laws have them (R167, R171, R180). -/
def PortGood (c : Port) : Prop := PointerGood c ∧ AttentionGood c ∧ ReplyGood c

/-- A port's notice set, and the kinds that a NOTICES reply has taken from it, lie within a set of kinds (R178). -/
def NoticesWithin (ks : NoticeSet) (c : Port) : Prop :=
  c.notices &&& ~~~ks = 0 ∧ ∀ taken, c.reply = .notices taken → taken &&& ~~~ks = 0

/-- A change of a port that keeps its law, and its kinds within those that its role receives. -/
structure PortMove (ks : NoticeSet) (c d : Port) : Prop where
  good : PortGood c → PortGood d
  within : NoticesWithin ks c → NoticesWithin ks d

/-- Each port makes such a change; the load and the configuration, by which roles go, stay. -/
structure PortsMove (s t : State) : Prop where
  load : t.load = s.load
  config : t.config = s.config
  port : ∀ q : Fin 4, PortMove (portKinds s q) s.ports[q] t.ports[q]

/-- A command has been judged in the port's frame, so that a reply may follow (R167). -/
def Judged (c : Port) : Prop := ∃ bytes, c.frame = .judged bytes ∨ c.frame = .implied bytes

section
variable {s t u : State} {ks : NoticeSet} {c d e : Port} {p : Fin 4}

theorem PortMove.refl (ks : NoticeSet) (c : Port) : PortMove ks c c := ⟨id, id⟩

theorem PortMove.trans (h : PortMove ks c d) (k : PortMove ks d e) : PortMove ks c e :=
  ⟨k.good ∘ h.good, k.within ∘ h.within⟩

@[simp] theorem PortsMove.refl (s : State) : PortsMove s s := ⟨rfl, rfl, fun _ => .refl _ _⟩

theorem PortsMove.trans (h : PortsMove s t) (k : PortsMove t u) : PortsMove s u where
  load := k.load.trans h.load
  config := k.config.trans h.config
  port q := (h.port q).trans (portKinds_congr h.load h.config q ▸ k.port q)

theorem replyGood_of_none (h : c.reply = .none) : ReplyGood c := by
  unfold ReplyGood
  cases c.frame <;> simp [h]

theorem replyGood_of_judged (h : Judged c) : ReplyGood c := by
  obtain ⟨bytes, h | h⟩ := h <;> (unfold ReplyGood; rw [h]; exact trivial)

/-- Notices that join a port leave its pointer, its frame and its reply. -/
theorem PortNoticed.portMove (h : PortNoticed ks c d) : PortMove ks c d := by
  obtain ⟨⟨heq, -⟩, hwithin, hattention⟩ := h
  refine ⟨fun ⟨hp, ha, hr⟩ => ⟨?_, hattention ha, ?_⟩, fun ⟨hn, ht⟩ => ⟨hwithin hn, ?_⟩⟩
  · rw [heq]; exact hp
  · rw [heq]; exact hr
  · rw [heq]; exact ht

theorem PortsNoticed.portsMove (h : PortsNoticed s t) : PortsMove s t :=
  ⟨h.load, h.config, fun q => (h.port q).portMove⟩

/-- A port set anew, with any value of the counter. -/
theorem portsMove_setPort (n : Nat) (h : PortMove (portKinds s p) s.ports[p] c) :
    PortsMove s { s.setPort p c with free := n } where
  load := rfl
  config := rfl
  port q := by
    by_cases hq : q = p
    · subst hq
      exact (setPort_self s q c).symm ▸ h
    · exact (setPort_other s p c q hq).symm ▸ .refl _ _

/-- The end of a reply leaves pointer, window and mask, and the taken kinds were the port's own (R175). -/
theorem endReply_kept (c : Port) :
    ContextKept c (endReply c) ∧ (AttentionGood c → AttentionGood (endReply c)) ∧
      (NoticesWithin ks c → (endReply c).notices &&& ~~~ks = 0) := by
  unfold endReply
  split
  · next taken hr =>
    refine ⟨(joined_recordKinds taken { c with reply := .none }).contextKept, fun ha => ?_, fun ⟨hn, ht⟩ => ?_⟩
    · unfold recordKinds
      split
      · exact ha
      · exact rfl
    · unfold recordKinds
      split
      · exact hn
      · exact kinds_or_sub hn (ht taken hr)
  · exact ⟨⟨rfl, rfl, rfl, rfl, rfl, rfl, rfl, rfl, rfl, rfl⟩, id, And.left⟩

theorem PointerGood.of_kept (h : PointerGood c) (k : ContextKept c d) : PointerGood d := by
  obtain ⟨htable, hrecord, hfield, hfirstRecord, hlastRecord, hfirstField, hlastField, -⟩ := k
  unfold PointerGood
  rw [htable, hrecord, hfield, hfirstRecord, hlastRecord, hfirstField, hlastField]
  exact h

/-- The end of a reply, with any frame, bytes put out and last result (R167, R169). -/
theorem portMove_endReply (ks : NoticeSet) (c : Port) (f : Frame) (out : List Byte) (r : Result) :
    PortMove ks c { endReply c with frame := f, out := out, lastResult := r } := by
  obtain ⟨hkept, hattention, hwithin⟩ := endReply_kept (ks := ks) c
  have hreply := (endReply_reply c).1
  exact ⟨fun ⟨hp, ha, _⟩ => ⟨hp.of_kept hkept, hattention ha, replyGood_of_none hreply⟩,
    fun hk => ⟨hwithin hk, fun taken ht => nomatch hreply.symm.trans ht⟩⟩

theorem portMove_openFrame (ks : NoticeSet) (bytes : List Byte) (c : Port) : PortMove ks c (openFrame bytes c) := by
  unfold openFrame
  split
  · exact ⟨fun ⟨hp, ha, _⟩ => ⟨hp, ha, trivial⟩, id⟩
  · exact portMove_endReply ks c _ _ _

theorem portMove_resetPort (ks : NoticeSet) (s : State) (n : Nat) (c : Port) : PortMove ks c (resetPort s n c) := by
  have hreply := (endReply_reply c).1
  have hpointer : PointerGood (resetPort s n c) :=
    ⟨le_rfl, le_rfl, Nat.zero_lt_one, le_rfl, Nat.zero_le 14, Nat.lt_succ_self 14⟩
  exact ⟨fun _ => ⟨hpointer, rfl, replyGood_of_none hreply⟩,
    fun hk => ⟨(endReply_kept c).2.2 hk, fun taken ht => nomatch hreply.symm.trans ht⟩⟩

/-- The walk leaves the pointer in its window (R174). -/
theorem PointerGood.advance (h : PointerGood c) : PointerGood (advance c) := by
  unfold PointerGood at h
  unfold Machine.advance
  (repeat' split) <;> (unfold PointerGood; dsimp only; omega)

theorem advance_attention (h : AttentionGood c) : AttentionGood (advance c) := by
  unfold advance
  (repeat' split) <;> exact h

theorem advance_frame (c : Port) : (advance c).frame = c.frame := by
  unfold advance
  (repeat' split) <;> rfl

/-- A reply in progress stands in a frame whose command has been judged (R167). -/
theorem ReplyGood.judged (h : ReplyGood c) (hr : c.reply ≠ .none) : Judged c := by
  unfold ReplyGood at h
  unfold Judged
  cases hf : c.frame <;> simp_all

/-- Another reply than NOTICES takes the place of a reply in progress, or follows a judgement. -/
theorem portMove_reply (out : List Byte) {r : Reply} (hj : ReplyGood c → Judged c) (hr : ∀ taken, r ≠ .notices taken) :
    PortMove ks c { c with out := out, reply := r } :=
  ⟨fun ⟨hp, ha, hg⟩ => ⟨hp, ha, replyGood_of_judged (hj hg)⟩, fun hk => ⟨hk.1, fun taken ht => absurd ht (hr taken)⟩⟩

theorem portMove_dummyEdge (h : c.reply = .dummy) (e : WordEdge) : PortMove ks c (dummyEdge c e) := by
  cases e with
  | first => exact .refl ks c
  | last => exact portMove_reply _ (fun hg => hg.judged (by simp [h])) nofun

theorem portMove_shiftEdge {ws : List Word} (h : c.reply = .stream ws) (s : State) (e : WordEdge) :
    PortMove ks c (shiftEdge s ws c e) := by
  have hj (hg : ReplyGood c) : Judged c := hg.judged (by simp [h])
  cases e with
  | first => exact portMove_reply c.out hj nofun
  | last =>
    refine ⟨fun ⟨hp, ha, hg⟩ => ⟨hp.advance, advance_attention ha, replyGood_of_judged ?_⟩, fun hk => ⟨?_, nofun⟩⟩
    · obtain ⟨bytes, hf⟩ := hj hg
      exact ⟨bytes, by rw [shiftEdge, shiftWord]; simpa only [advance_frame] using hf⟩
    · rw [shiftEdge, shiftWord]
      exact (advance_notices c).symm ▸ hk.1

end

end Sys2Proof.Machine
end

section
/-! SUPPORT. Every step keeps the law of the port contexts, and the notice sets to the kinds of the role (O10). -/

namespace Sys2Proof.Machine

/-! ## The commands of the units -/

section
variable {s t u : State} {p : Fin 4} {i : Instr} {bs : List Byte}

theorem acknowledgeBody_noticed (s : State) : PortsNoticed s (acknowledgeBody s).1 := by
  unfold acknowledgeBody
  split
  · split
    · exact (portsNoticed_setRegime _ s).settle s
    · exact (portsNoticed_setRegime _ s).regimeNotice s
  all_goals exact .refl s

theorem silenceBody_noticed (s : State) : PortsNoticed s (silenceBody s).1 := by
  unfold silenceBody
  split
  · split
    · exact .refl s
    · split
      · exact .refl s
      · exact portsNoticed_setSilenced true s
  all_goals exact .refl s

theorem resoundBody_noticed (s : State) : PortsNoticed s (resoundBody s).1 := by
  unfold resoundBody
  split
  · exact portsNoticed_setSilenced false s
  · exact .refl s

theorem evacuateAllBody_noticed (s : State) : PortsNoticed s (evacuateAllBody s).1 := by
  have hall (g : Regime) : PortsNoticed s (enterActive (s.setRegime g)) := portsNoticed_of_ports (by simp) (by simp) (by simp)
  unfold evacuateAllBody
  dsimp only
  split
  · exact .settle (portsNoticed_of_ports (by simp) (by simp) (by simp)) s
  · exact (hall _).settle s
  · exact (hall _).settle s
  · split
    · exact .refl s
    · exact ((portsNoticed_setRegime _ s).trans (portsNoticed_setRegime _ _)).settle s

theorem spreadHoldBody_noticed (s : State) : PortsNoticed s (spreadHoldBody s).1 := by
  unfold spreadHoldBody
  split
  · split
    · exact .refl s
    · exact (portsNoticed_setRegime _ s).regimeNotice s
  · exact .refl s

theorem spreadResumeBody_noticed (s : State) : PortsNoticed s (spreadResumeBody s).1 := by
  unfold spreadResumeBody
  split
  · exact (portsNoticed_setRegime _ s).regimeNotice s
  · exact .refl s

theorem resetRegimeBody_noticed (s : State) : PortsNoticed s (resetRegimeBody s).1 := by
  unfold resetRegimeBody
  split
  · exact .refl s
  · exact .refl s
  all_goals exact portsNoticed_resetRegime s

theorem takeControlBody_noticed (p : Fin 4) (s : State) : PortsNoticed s (takeControlBody p s).1 := by
  have hset : PortsNoticed s (setHolder (some p) s) := portsNoticed_setHolder _ s
  unfold takeControlBody
  (repeat' split) <;> simp [hset]

theorem isolateLineBody_noticed (b : Byte) (s : State) : PortsNoticed s (isolateLineBody b s).1 := by
  have hgroup (g : Fin 8) (i : Fin 64) (l : Line) : PortsNoticed s (changeLine i l (s.setPGroup g groupIdle)) :=
    (portsNoticed_setPGroup g _ s).trans (portsNoticed_changeLine i l _)
  unfold isolateLineBody
  (repeat' split) <;> simp [hgroup, portsNoticed_changeLine]

theorem restoreLineBody_noticed (b : Byte) (s : State) : PortsNoticed s (restoreLineBody b s).1 := by
  unfold restoreLineBody
  (repeat' split) <;> simp [portsNoticed_changeLine]

theorem portsNoticed_withGroup (g : Fin 3) (x : LGroup) (s : State) :
    PortsNoticed s (liftSettle s (s.setLGroup g x)) :=
  (portsNoticed_setLGroup g x s).liftSettle s

theorem recallGroupBody_noticed (b : Byte) (s : State) : PortsNoticed s (recallGroupBody b s).1 := by
  unfold recallGroupBody
  (repeat' split) <;> simp [portsNoticed_withGroup]

theorem releaseGroupBody_noticed (b : Byte) (s : State) : PortsNoticed s (releaseGroupBody b s).1 := by
  unfold releaseGroupBody
  (repeat' split) <;> simp [portsNoticed_withGroup]

theorem carReportBody_noticed (p : Fin 4) (c x m d v : Byte) (s : State) :
    PortsNoticed s (carReportBody p c x m d v s).1 := by
  have hreport (c : Fin 12) (r : Report) : PortsNoticed s (takeReport c r s) :=
    (portsNoticed_setCar c _ s).liftNotices s
  unfold carReportBody
  dsimp only
  (repeat' split) <;> simp [hreport]

theorem doorOverrideBody_noticed (b o : Byte) (s : State) : PortsNoticed s (doorOverrideBody b o s).1 := by
  have hoverride (g : Fin 16) (o : Override) : PortsNoticed s (overrideGroup g o s) := by
    unfold overrideGroup
    split
    · exact .refl s
    · exact .doorNotices (portsNoticed_of_ports (by simp) (by simp) (by simp)) s
  unfold doorOverrideBody
  (repeat' split) <;> simp [hoverride]

theorem clearDoorFaultBody_noticed (b : Byte) (s : State) : PortsNoticed s (clearDoorFaultBody b s).1 := by
  have hclear (c : Fin 32) (d : Door) : PortsNoticed s (doorNotices s (s.setDoor c d)) :=
    (portsNoticed_setDoor c d s).doorNotices s
  unfold clearDoorFaultBody
  (repeat' split) <;> simp [hclear]

theorem postJudged_noticed (p : Fin 4) (k : AnnClass) (m : Byte) (fs : FloorSet) (n : Nat) (s : State) :
    PortsNoticed s (postJudged p k m fs n s).1 := by
  have hroom {u : State} (h : roomFor k s = some u) : PortsNoticed s u := by
    unfold roomFor at h
    split at h
    · cases h; exact .refl s
    · split at h
      · obtain ⟨sl, -, rfl⟩ := Option.map_eq_some_iff.mp h
        exact portsNoticed_of_ports (by simp) (by simp) (by simp)
      all_goals cases h
  unfold postJudged
  split
  · exact .refl s
  · split
    · exact .refl s
    · split
      · exact .refl s
      · next u hu =>
        rw [accept_state]
        unfold postEntry
        split
        · exact hroom hu
        · exact .routerFinish ((hroom hu).trans (portsNoticed_of_ports (by simp) (by simp) (by simp))) s

theorem postBody_noticed (p : Fin 4) (k m : Byte) (fs : FloorSet) (n : Byte) (s : State) :
    PortsNoticed s (postBody p k m fs n s).1 := by
  unfold postBody
  (repeat' split) <;> simp [postJudged_noticed]

theorem cancelBody_noticed (p : Fin 4) (b m : Byte) (s : State) : PortsNoticed s (cancelBody p b m s).1 := by
  have hremove (sl : Fin 16) : PortsNoticed s (routerFinish s (removeEntry sl s)) :=
    .routerFinish (portsNoticed_of_ports (by simp) (by simp) (by simp)) s
  unfold cancelBody
  (repeat' split) <;> simp [hremove]

theorem playEndBody_noticed (p : Fin 4) (c m : Byte) (s : State) : PortsNoticed s (playEndBody p c m s).1 := by
  unfold playEndBody
  (repeat' split) <;> simp [portsNoticed_playEnded]

theorem storeWriteBody_noticed (p : Fin 4) (k n e : Byte) (im : Image) (s : State) :
    PortsNoticed s (storeWriteBody p k n e im s).1 := by
  have hbusy (b : StoreBusy) : PortsNoticed s { s with busy := some b } := portsNoticed_of_ports rfl rfl rfl
  unfold storeWriteBody storeWriteRecord
  (repeat' split) <;> simp [hbusy]

/-! ## Every command -/

/-- The steps that begin and end the start-up load. -/
def loadActs : Instr → Bool
  | .powerOnReset | .startUpLoadEnd | .restart _ => true
  | _ => false

/-- What a command's own rule does to the ports, in a frame in which the command is judged: the sender's frame and the
bytes put out stay, and every port keeps its law and the kinds of its role. -/
structure BodyMove (p : Fin 4) (s t : State) : Prop where
  frame : t.ports[p].frame = s.ports[p].frame
  out : t.ports[p].out = s.ports[p].out
  move : Judged s.ports[p] → PortsMove s t

@[simp] theorem BodyMove.refl (p : Fin 4) (s : State) : BodyMove p s s := ⟨rfl, rfl, fun _ => .refl s⟩

theorem PortsNoticed.bodyMove (h : PortsNoticed s t) (p : Fin 4) : BodyMove p s t := by
  obtain ⟨heq, -⟩ := (h.port p).joined
  exact ⟨by rw [heq], by rw [heq], fun _ => h.portsMove⟩

/-- A command refused during the load, or judged by its own rule (R170). -/
theorem BodyMove.afterLoad {body : State → State × Result} (h : ∀ u, BodyMove p u (body u).1) (u : State) :
    BodyMove p u (afterLoad body u).1 :=
  afterLoad_preserves (fun _ => h u) (.refl p u)

/-- A command of the holder of control, or refused (R48). -/
theorem PortsNoticed.controlled {body : State → State × Result} (h : ∀ u, PortsNoticed u (body u).1) (u : State) :
    BodyMove p u (controlled p body u).1 :=
  controlled_preserves (fun _ => (h u).bodyMove p) (.refl p u)

theorem PortsNoticed.afterLoad {body : State → State × Result} (h : ∀ u, PortsNoticed u (body u).1) :
    ∀ u : State, BodyMove p u (Machine.afterLoad body u).1 :=
  .afterLoad fun u => (h u).bodyMove p

/-- A command's own rule that sets the sender's port. -/
theorem bodyMove_setPort {c : Port} (hf : c.frame = s.ports[p].frame) (ho : c.out = s.ports[p].out)
    (hm : Judged s.ports[p] → PortMove (portKinds s p) s.ports[p] c) : BodyMove p s (s.setPort p c) :=
  ⟨by rw [setPort_self, hf], by rw [setPort_self, ho], fun hj => portsMove_setPort s.free (hm hj)⟩

theorem selectBody_move (p : Fin 4) (tb r f : Byte) (s : State) : BodyMove p s (selectBody p tb r f s).1 := by
  unfold selectBody
  split
  · exact .refl p s
  · next x _ =>
    split
    · next hin =>
      obtain ⟨hr, hf⟩ := hin
      have hp : PointerGood (wholeTable x r.toNat f.toNat s.ports[p]) :=
        ⟨Nat.zero_le _, Nat.le_sub_one_of_lt hr, Nat.sub_one_lt_of_lt hr, Nat.zero_le _, Nat.le_sub_one_of_lt hf,
          Nat.sub_one_lt_of_lt hf⟩
      exact bodyMove_setPort rfl rfl fun _ => ⟨fun ⟨_, ha, hg⟩ => ⟨hp, ha, hg⟩, id⟩
    · exact .refl p s

theorem windowBody_move (p : Fin 4) (fr lr ff lf o : Byte) (s : State) :
    BodyMove p s (windowBody p fr lr ff lf o s).1 := by
  unfold windowBody
  split
  · next hfits =>
    split
    · exact .refl p s
    · next x _ =>
      have hp : PointerGood (setWindow fr.toNat lr.toNat ff.toNat lf.toNat x s.ports[p]) := by
        simp only [windowFits, Bool.and_eq_true, decide_eq_true_eq] at hfits
        obtain ⟨⟨⟨hr, hf⟩, hlr⟩, hlf⟩ := hfits
        exact ⟨le_rfl, hr, hlr, le_rfl, hf, hlf⟩
      exact bodyMove_setPort rfl rfl fun _ => ⟨fun ⟨_, ha, hg⟩ => ⟨hp, ha, hg⟩, id⟩
  · exact .refl p s

theorem readBody_move (p : Fin 4) (s : State) : BodyMove p s (readBody p s).1 :=
  bodyMove_setPort rfl rfl fun hj => portMove_reply _ (fun _ => hj) nofun

theorem statusBody_move (p : Fin 4) (s : State) : BodyMove p s (statusBody p s).1 :=
  bodyMove_setPort rfl rfl fun hj => portMove_reply _ (fun _ => hj) nofun

theorem noticesBody_move (p : Fin 4) (s : State) : BodyMove p s (noticesBody p s).1 :=
  bodyMove_setPort rfl rfl fun hj =>
    ⟨fun ⟨hp, _, _⟩ => ⟨hp, rfl, replyGood_of_judged hj⟩,
      fun hk => ⟨BitVec.zero_and, fun _ ht => Reply.notices.inj ht ▸ hk.1⟩⟩

theorem maskBody_move (p : Fin 4) (w : Word) (s : State) : BodyMove p s (maskBody p w s).1 := by
  unfold maskBody
  split
  · exact .refl p s
  · exact bodyMove_setPort rfl rfl fun _ => ⟨fun ⟨hp, _, hg⟩ => ⟨hp, rfl, hg⟩, id⟩

theorem bodyMove_setConflict (p : Fin 4) (n : Option (Fin 136)) (s : State) : BodyMove p s (setConflict p n s) :=
  bodyMove_setPort rfl rfl fun _ => ⟨id, id⟩

theorem checkConfigBody_move (p : Fin 4) (s : State) : BodyMove p s (checkConfigBody p s).1 := by
  unfold checkConfigBody
  (repeat' split) <;> simp [bodyMove_setConflict]

/-- Every command but RESTART is judged by a rule that leaves the sender's frame and keeps the laws of the ports. -/
theorem exec_of_command (hb : commandBytes i = some (p, bs)) (hw : i.wellFormed = true) (hi : loadActs i = false) :
    ∃ body : State → State × Result,
      (∀ s, exec i s = .next (command p (Instr.bytes i) body s)) ∧ ∀ u, BodyMove p u (body u).1 := by
  cases i with
  | unknownCommand q b =>
    cases hb
    have hb : namesCommand b = false := by simpa [Instr.wellFormed] using hw
    exact ⟨refuse .unknown, fun s => congrArg _ (if_neg (by simp [hb])), fun u => .refl p u⟩
  | restart => cases hi
  | select => cases hb; exact ⟨_, fun _ => rfl, selectBody_move p _ _ _⟩
  | window => cases hb; exact ⟨_, fun _ => rfl, windowBody_move p _ _ _ _ _⟩
  | read => cases hb; exact ⟨_, fun _ => rfl, readBody_move p⟩
  | status => cases hb; exact ⟨_, fun _ => rfl, statusBody_move p⟩
  | notices => cases hb; exact ⟨_, fun _ => rfl, .afterLoad (noticesBody_move p)⟩
  | mask => cases hb; exact ⟨_, fun _ => rfl, .afterLoad (maskBody_move p _)⟩
  | checkConfig => cases hb; exact ⟨_, fun _ => rfl, .afterLoad (checkConfigBody_move p)⟩
  | takeControl => cases hb; exact ⟨_, fun _ => rfl, PortsNoticed.afterLoad (takeControlBody_noticed p)⟩
  | carReport => cases hb; exact ⟨_, fun _ => rfl, PortsNoticed.afterLoad (carReportBody_noticed p _ _ _ _ _)⟩
  | postAnnouncement => cases hb; exact ⟨_, fun _ => rfl, PortsNoticed.afterLoad (postBody_noticed p _ _ _ _)⟩
  | cancelAnnouncement => cases hb; exact ⟨_, fun _ => rfl, PortsNoticed.afterLoad (cancelBody_noticed p _ _)⟩
  | playEnd => cases hb; exact ⟨_, fun _ => rfl, PortsNoticed.afterLoad (playEndBody_noticed p _ _)⟩
  | storeWrite => cases hb; exact ⟨_, fun _ => rfl, PortsNoticed.afterLoad (storeWriteBody_noticed p _ _ _ _)⟩
  | releaseControl => cases hb; exact ⟨_, fun _ => rfl, PortsNoticed.controlled fun u => portsNoticed_setHolder none u⟩
  | acknowledge => cases hb; exact ⟨_, fun _ => rfl, PortsNoticed.controlled acknowledgeBody_noticed⟩
  | silence => cases hb; exact ⟨_, fun _ => rfl, PortsNoticed.controlled silenceBody_noticed⟩
  | resound => cases hb; exact ⟨_, fun _ => rfl, PortsNoticed.controlled resoundBody_noticed⟩
  | evacuateAll => cases hb; exact ⟨_, fun _ => rfl, PortsNoticed.controlled evacuateAllBody_noticed⟩
  | spreadHold => cases hb; exact ⟨_, fun _ => rfl, PortsNoticed.controlled spreadHoldBody_noticed⟩
  | spreadResume => cases hb; exact ⟨_, fun _ => rfl, PortsNoticed.controlled spreadResumeBody_noticed⟩
  | resetRegime => cases hb; exact ⟨_, fun _ => rfl, PortsNoticed.controlled resetRegimeBody_noticed⟩
  | isolateLine => cases hb; exact ⟨_, fun _ => rfl, PortsNoticed.controlled (isolateLineBody_noticed _)⟩
  | restoreLine => cases hb; exact ⟨_, fun _ => rfl, PortsNoticed.controlled (restoreLineBody_noticed _)⟩
  | recallGroup => cases hb; exact ⟨_, fun _ => rfl, PortsNoticed.controlled (recallGroupBody_noticed _)⟩
  | releaseGroup => cases hb; exact ⟨_, fun _ => rfl, PortsNoticed.controlled (releaseGroupBody_noticed _)⟩
  | doorOverride => cases hb; exact ⟨_, fun _ => rfl, PortsNoticed.controlled (doorOverrideBody_noticed _ _)⟩
  | clearDoorFault => cases hb; exact ⟨_, fun _ => rfl, PortsNoticed.controlled (clearDoorFaultBody_noticed _)⟩
  | _ => cases hb

theorem judged_openFrame (bytes : List Byte) (c : Port) : Judged (openFrame bytes c) := by
  unfold openFrame
  split
  · exact ⟨bytes, .inl rfl⟩
  · exact ⟨bytes, .inr rfl⟩

/-- A command keeps the laws of the ports: the frame is opened, the own rule follows, and the result is left. -/
theorem portsMove_command {bytes : List Byte} {body : State → State × Result} (h : ∀ u, BodyMove p u (body u).1) :
    PortsMove s (command p bytes body s) := by
  unfold command
  split
  · have hopen : PortsMove s (s.setPort p (openFrame bytes s.ports[p])) :=
      portsMove_setPort s.free (portMove_openFrame _ bytes _)
    refine (hopen.trans ((h _).move ?_)).trans (portsMove_setPort _ ⟨id, id⟩)
    rw [setPort_self]
    exact judged_openFrame bytes _
  · exact .refl s

end

end Sys2Proof.Machine
end

section
/-! SUPPORT. Every step keeps the law of the port contexts, and notice sets to the kinds of the role (O10). -/

namespace Sys2Proof.Machine

/-! ## Every step but the load's beginning and end -/

section
variable {s t : State} {i : Instr} {p : Fin 4}

/-- The events of the units, which are no commands and no events of a port. -/
def unitActs : Instr → Bool
  | .zoneLineSlotCompletion .. | .doorSenseSlotCompletion .. => true
  | .resetExpiry _ | .settleExpiry _ | .windowExpiry _ | .retardExpiry _ => true
  | .holdTimerExpiry | .silenceInhibitExpiry | .spreadExpiry => true
  | .carReportTimeout _ | .staggerExpiry | .openWaitExpiry _ | .coolDownExpiry _ => true
  | .stopTimerExpiry _ | .playTimerExpiry _ | .chainRefreshExpiry | .routingShiftComplete => true
  | .storeWriteCompletion | .enableInputDrop | .enableInputAssert => true
  | _ => false

/-- An event of a unit only joins notices to the ports. -/
theorem exec_portsNoticed (hi : unitActs i = true) (h : exec i s = .next t) : PortsNoticed s t := by
  cases i with
  | zoneLineSlotCompletion =>
    refine of_next h (.ite ?_)
    dsimp only
    split
    · exact .trans (portsNoticed_of_ports (by simp) (by simp) (by simp)) (portsNoticed_takeSample _ _ _)
    · exact portsNoticed_of_ports rfl rfl rfl
  | doorSenseSlotCompletion =>
    refine of_next h (.ite ?_)
    dsimp only
    split
    · exact PortsNoticed.doorNotices (portsNoticed_of_ports (by simp) (by simp) (by simp)) s
    · exact portsNoticed_of_ports rfl rfl rfl
  | resetExpiry => exact of_next h (.ite (portsNoticed_of_ports rfl rfl rfl))
  | settleExpiry => exact of_next h (.ite (portsNoticed_setPGroup _ _ s))
  | windowExpiry g =>
    have hfold (u : State) : PortsNoticed u ((List.finRange 64).foldl (windowLine g) u) :=
      foldl_relates .refl .trans (portsNoticed_windowLine g) _ u
    exact of_next h (.ite ((portsNoticed_setPGroup _ _ s).trans (hfold _)))
  | retardExpiry => exact of_next h (.ite (portsNoticed_lineEvent _ _ s))
  | holdTimerExpiry => exact of_next h (.ite ((portsNoticed_setRegime _ s).settle s))
  | silenceInhibitExpiry => exact of_next h (.ite (portsNoticed_setRegime _ s))
  | spreadExpiry => exact of_next h (.ite ((portsNoticed_setRegime _ s).settle s))
  | carReportTimeout => exact of_next h (.ite ((portsNoticed_setCar _ _ s).liftNotices s))
  | staggerExpiry =>
    refine of_next h (.ite ?_)
    split
    · exact portsNoticed_of_ports rfl rfl rfl
    · exact .doorNotices (portsNoticed_of_ports (by simp) (by simp) (by simp)) s
  | openWaitExpiry => exact of_next h (.ite ((portsNoticed_setDGroup _ _ s).doorNotices s))
  | coolDownExpiry => exact of_next h (.ite ((portsNoticed_setDoor _ _ s).doorNotices s))
  | stopTimerExpiry | playTimerExpiry =>
    exact of_next h (.ite (.routerFinish (portsNoticed_of_ports (by simp) (by simp) (by simp)) s))
  | chainRefreshExpiry => exact of_next h (.ite (portsNoticed_of_ports (by simp) (by simp) (by simp)))
  | routingShiftComplete =>
    refine of_next h ?_
    split
    · exact .refl s
    · next x _ =>
      have hends : PortsNoticed s (shiftEnds x s) := by
        unfold shiftEnds
        dsimp only
        split
        · exact portsNoticed_of_ports (by simp) (by simp) (by simp)
        · exact portsNoticed_of_ports rfl rfl rfl
      exact hends.ite
  | storeWriteCompletion =>
    refine of_next h ?_
    split
    · exact .refl s
    · exact .ite ((PortsNoticed.refl s).writeEnds _ _)
  | enableInputDrop =>
    have hdrop : PortsNoticed s { s with enable := false } := portsNoticed_of_ports rfl rfl rfl
    refine of_next h ?_
    split
    · exact hdrop
    · exact hdrop.writeEnds _ _
  | enableInputAssert => exact of_next h (portsNoticed_of_ports rfl rfl rfl)
  | _ => cases hi

/-- A command other than RESTART keeps each port's law and the kinds of its role. -/
theorem exec_command_portsMove {bs : List Byte} (hb : commandBytes i = some (p, bs)) (hw : i.wellFormed = true)
    (hi : loadActs i = false) (h : exec i s = .next t) : PortsMove s t := by
  obtain ⟨body, he, hbody⟩ := exec_of_command hb hw hi
  exact of_next ((he s).symm.trans h) (portsMove_command hbody)

/-- Every step but those that begin and end the load keeps each port's law and the kinds of its role. -/
theorem exec_portsMove (hi : loadActs i = false) (h : exec i s = .next t) : PortsMove s t := by
  cases hu : unitActs i with
  | true => exact (exec_portsNoticed hu h).portsMove
  | false =>
    cases i with
    | frameBegin f =>
      refine of_next h ?_
      split
      · exact portsMove_setPort s.free (portMove_endReply _ _ _ _ _)
      · exact .refl s
    | frameEnd p n => exact of_next h (portsMove_setPort _ (portMove_endReply _ _ _ _ _))
    | portReset hold =>
      have hreset : PortsMove s (portCleared hold.port hold.edges s) :=
        portsMove_setPort _ (portMove_resetPort _ s hold.edges _)
      refine of_next h ?_
      dsimp only
      split
      · exact hreset.trans (portsNoticed_setHolder none _).portsMove
      · exact hreset
    | readWordShifted w =>
      refine of_next h ?_
      split
      · next hr => exact portsMove_setPort s.free (portMove_dummyEdge hr w.edge)
      · next hr => exact portsMove_setPort _ (portMove_shiftEdge hr s w.edge)
      all_goals exact .refl s
    | noticesReplyComplete p =>
      refine of_next h ?_
      split
      · exact portsMove_setPort s.free
          ⟨fun ⟨hp, ha, _⟩ => ⟨hp, ha, replyGood_of_none rfl⟩, fun hk => ⟨hk.1, nofun⟩⟩
      all_goals exact .refl s
    | unknownCommand p b =>
      by_cases hn : namesCommand b = true
      · have he : exec (.unknownCommand p b) s = .next s := congrArg _ (if_pos hn)
        exact of_next (he.symm.trans h) (.refl s)
      · exact exec_command_portsMove rfl (by simp [Instr.wellFormed, hn]) hi h
    | select | window | read | notices | mask | status | takeControl | releaseControl | acknowledge | silence
    | resound | evacuateAll | spreadHold | spreadResume | resetRegime | isolateLine | restoreLine | recallGroup
    | releaseGroup | carReport | doorOverride | clearDoorFault | postAnnouncement | cancelAnnouncement | playEnd
    | storeWrite | checkConfig => exact exec_command_portsMove rfl rfl hi h
    | powerOnReset | startUpLoadEnd | restart => cases hi
    | _ => cases hu

/-- RESTART: a property of the ports that the commands and a power-on reset keep (R190). -/
theorem command_restart_preserves {P : State → Prop} (hmove : ∀ {u v : State}, P u → PortsMove u v → P v)
    (hon : ∀ u : State, P (powerOn u)) (p : Fin 4) (h : P s) :
    P (command p (Instr.bytes (.restart p)) (controlled p (restartBody p)) s) := by
  have hconflict (n : Option (Fin 136)) (u : State) : PortsMove u (setConflict p n u) :=
    portsMove_setPort u.free ⟨id, id⟩
  refine command_preserves (fun hu => hmove hu (portsMove_setPort _ (portMove_openFrame _ _ _))) (fun u hu => ?_)
    (fun r u hu => hmove hu (portsMove_setPort u.free ⟨id, id⟩)) h
  refine controlled_preserves (fun _ => ?_) hu
  unfold restartBody
  (repeat' split)
  case h_1 => exact hmove hu (hconflict _ u)
  case h_2 => exact hon _
  all_goals exact hu

/-! ## The law of the port contexts -/

theorem PortInv.portsMove (h : PortInv s) (k : PortsMove s t) : PortInv t := fun q => (k.port q).good (h q)

theorem portInv_powerOn (s : State) : PortInv (powerOn s) := fun q => by
  have hpointer : PointerGood (portReset (abandonFrame s.ports[q].frame)) :=
    ⟨le_rfl, le_rfl, Nat.zero_lt_one, le_rfl, Nat.zero_le 14, Nat.lt_succ_self 14⟩
  have hattention : false = (((0 : NoticeSet) &&& ~~~0) != 0) := by decide
  rw [powerOn_port]
  exact ⟨hpointer, hattention, replyGood_of_none rfl⟩

/-- The notices of the end of the load, on the blocks as it starts them (R179, R192). -/
theorem portsNoticed_startUp (s : State) : PortsNoticed (startBlocks s) (startUp s) :=
  (((portsNoticed_raise _ _).raiseIf _ _).raiseIf _ _).raiseIf _ _

/-- The end of the load, once due, keeps what holds of the blocks as it starts them. -/
theorem exec_startUpLoadEnd_preserves {P : State → Prop} (hmove : ∀ {u v : State}, P u → PortsMove u v → P v)
    (hstart : P (startBlocks s)) (hs : P s) (h : exec .startUpLoadEnd s = .next t) : P t := by
  refine of_next h ?_
  split
  · exact hmove hstart (portsNoticed_startUp s).portsMove
  · exact hs

theorem exec_keeps_portInv (hs : PortInv s) (h : exec i s = .next t) : PortInv t := by
  cases hi : loadActs i with
  | false => exact hs.portsMove (exec_portsMove hi h)
  | true =>
    cases i with
    | powerOnReset => exact of_next h (portInv_powerOn s)
    | startUpLoadEnd => exact exec_startUpLoadEnd_preserves PortInv.portsMove (fun q => hs q) hs h
    | restart p => exact of_next h (command_restart_preserves PortInv.portsMove portInv_powerOn p hs)
    | _ => cases hi

/-! ## The kinds of the role (R178) -/

theorem NoticeInv.portsMove (h : NoticeInv s) (k : PortsMove s t) : NoticeInv t := fun hl q => by
  have hl : s.load = none := k.load.symm.trans hl
  have hmove := (k.port q).within
  rw [portKinds_of_ready hl] at hmove
  rw [k.config]
  exact hmove (h hl q)

theorem noticeInv_powerOn (s : State) : NoticeInv (powerOn s) := nofun

/-- When the load ends no kind is pending, since none reached a port in it (R178, R179). -/
theorem Dormant.noticeInv_startBlocks (h : Dormant s) : NoticeInv (startBlocks s) := fun _ q => by
  obtain ⟨hnotices, hreply⟩ := h.port q
  refine ⟨?_, fun taken ht => absurd ht (hreply taken)⟩
  show s.ports[q].notices &&& _ = 0
  rw [hnotices]
  exact BitVec.zero_and

theorem exec_keeps_noticeInv (hload : LoadInv s) (hs : NoticeInv s) (h : exec i s = .next t) : NoticeInv t := by
  cases hi : loadActs i with
  | false => exact hs.portsMove (exec_portsMove hi h)
  | true =>
    cases i with
    | powerOnReset => exact of_next h (noticeInv_powerOn s)
    | startUpLoadEnd =>
      by_cases hl : s.load = none
      · exact of_next h (by simpa [hl, timerDue] using hs)
      · exact exec_startUpLoadEnd_preserves NoticeInv.portsMove (hload.dormant hl).noticeInv_startBlocks hs h
    | restart p => exact of_next h (command_restart_preserves NoticeInv.portsMove noticeInv_powerOn p hs)
    | _ => cases hi

/-- Settles O10: a command or an event of a port keeps the port's law and its kinds, every other step only joins the
kinds that the role receives, a power-on reset sets the ports anew, and a millisecond leaves them. -/
theorem stepKeepsPortLaw : Obligations.StepKeepsPortLaw := by
  refine ⟨fun s t hs h => ?_, fun s t hload hs h => ?_, fun r => ?_⟩
  · unfold step at h
    split at h
    · exact of_next h hs
    · next i rest _ =>
      have hrest : PortInv { s with pending := rest } := hs
      exact exec_keeps_portInv hrest h
  · unfold step at h
    split at h
    · exact of_next h fun hl => hs ((tickTimer_eq_none_iff _).mp hl)
    · next i rest _ =>
      have hload : LoadInv { s with pending := rest } := hload
      have hrest : NoticeInv { s with pending := rest } := hs
      exact exec_keeps_noticeInv hload hrest h
  · cases r <;> decide

end

end Sys2Proof.Machine
end

section
/-! SUPPORT. A command that is not heard (O5), one refused during the load (O6), and an unknown byte (O8). -/

namespace Sys2Proof.Machine

section
variable {p : Fin 4} {i : Instr} {bs : List Byte}

/-- A command that is ill formed changes nothing (log entry 22). -/
theorem exec_of_illFormed (hb : commandBytes i = some (p, bs)) (hw : i.wellFormed = false) (s : State) :
    exec i s = .next s := by
  cases i with
  | unknownCommand q b => exact congrArg _ (if_pos (by simpa [Instr.wellFormed] using hw))
  | frameBegin => cases hb
  | _ => cases hw

/-- A command is judged, or is ill formed and changes nothing. -/
theorem exec_judges (hb : commandBytes i = some (p, bs)) (s : State) :
    exec i s = .next s ∨ ∃ body : State → State × Result, exec i s = .next (command p (Instr.bytes i) body s) := by
  cases hw : i.wellFormed with
  | false => exact .inl (exec_of_illFormed hb hw s)
  | true =>
    cases hi : loadActs i with
    | false =>
      obtain ⟨body, he, -⟩ := exec_of_command hb hw hi
      exact .inr ⟨body, he s⟩
    | true =>
      cases i with
      | restart =>
        obtain ⟨body, he⟩ := exec_of_needsControl hb rfl s
        exact .inr ⟨_, he⟩
      | powerOnReset | startUpLoadEnd => cases hb
      | _ => cases hi

/-- Every command that the load does not answer is judged after the test of the load (R170). -/
theorem exec_of_unanswered (hb : commandBytes i = some (p, bs)) (ha : answeredInLoad i = false) (s : State) :
    ∃ body : State → State × Result, exec i s = .next (command p (Instr.bytes i) (afterLoad body) s) := by
  cases i with
  | select | window | read | status | unknownCommand => cases ha
  | notices | mask | takeControl | carReport | postAnnouncement | cancelAnnouncement | playEnd | storeWrite
  | checkConfig | releaseControl | acknowledge | silence | resound | evacuateAll | spreadHold | spreadResume
  | resetRegime | isolateLine | restoreLine | recallGroup | releaseGroup | doorOverride | clearDoorFault | restart =>
    cases hb
    exact ⟨_, rfl⟩
  | _ => cases hb

end

/-- Settles O5: a command that is judged is judged on a port that reads its bytes. -/
theorem unheardCommandChangesNothing : Obligations.UnheardCommandChangesNothing := by
  intro i p bs s hb hh
  obtain he | ⟨body, he⟩ := exec_judges hb s
  · exact he
  · rw [he, command_unheard hh]

/-- Settles O6, by the test of the load that comes before the own rule. -/
theorem loadRefusesWithStarting : Obligations.LoadRefusesWithStarting := by
  intro i p bs s hb _ ha hl hh
  obtain ⟨body, he⟩ := exec_of_unanswered hb ha s
  have hw : (opened p i s).load ≠ none := hl
  exact ⟨_, he, command_refused hh (afterLoad_loading hw)⟩

/-- Settles O8: the own rule of an unknown byte is its refusal. -/
theorem unknownByteLeavesUnknown : Obligations.UnknownByteLeavesUnknown := by
  intro p b s hn hh
  have he : exec (.unknownCommand p b) s =
      .next (command p (Instr.bytes (.unknownCommand p b)) (refuse .unknown) s) :=
    congrArg _ (if_neg (by simp [hn]))
  exact ⟨_, he, command_refused hh rfl⟩

end Sys2Proof.Machine
end

section
/-! SUPPORT. What a command that is read leaves of the sender's port (R167, R168). -/

namespace Sys2Proof.Machine

section
variable {s : State} {p : Fin 4} {i : Instr} {c : Port} {bytes : List Byte} {body : State → State × Result}

/-- A command in a frame whose beginning was told: the rest of its bytes puts out bytes of value 0 (R167). -/
theorem openFrame_begun {bits : List Bool} (h : c.frame = .begun bits) (bytes : List Byte) :
    openFrame bytes c =
      { c with frame := .judged bytes, out := c.out ++ List.replicate (bytes.length - c.out.length) 0 } := by
  simp [openFrame, h, putOut]

/-- A command in a frame of its own: the last result is put out first, then bytes of value 0 (log entry 5). -/
theorem openFrame_untold (h : ∀ bits, c.frame ≠ .begun bits) (bytes : List Byte) :
    openFrame bytes c =
      { endReply c with
        frame := .implied bytes
        out := resultByte c.lastResult :: List.replicate (bytes.length - 1) 0 } := by
  unfold openFrame
  split
  · next bits hb => exact absurd hb (h bits)
  · simp [putOut]

/-- A frame whose command is judged has received the command's bytes (R165). -/
theorem openFrame_received (bytes : List Byte) (c : Port) : Frame.received (openFrame bytes c).frame = bytes := by
  unfold openFrame
  split <;> rfl

/-- Reading a command's bytes joins no kinds where no reply stands (R175). -/
theorem openFrame_notices (h : c.reply = .none) (bytes : List Byte) : (openFrame bytes c).notices = c.notices := by
  unfold openFrame endReply
  split
  · rfl
  · rw [h]

theorem opened_port (p : Fin 4) (i : Instr) (s : State) :
    (opened p i s).ports[p] = openFrame (Instr.bytes i) s.ports[p] := setPort_self s p _

/-- A command whose own rule sets the sender's port and accepts sets that port alone, with the result OK. -/
theorem command_setPort (hh : Hears s p i) (hb : body (opened p i s) = accept ((opened p i s).setPort p c)) :
    command p (Instr.bytes i) body s = s.setPort p { c with lastResult := .ok } := by
  rw [command_heard hh, hb]
  simp [accept, setResult, opened, State.setPort]

/-- A port set anew is all that changes. -/
theorem setPort_only (s : State) (p : Fin 4) (c : Port) :
    s.setPort p c = { s with ports := (s.setPort p c).ports } ∧
      ∀ q : Fin 4, q ≠ p → (s.setPort p c).ports[q] = s.ports[q] :=
  ⟨rfl, setPort_other s p c⟩

/-- The sender's port set to what a command's own rule leaves of its context. -/
theorem answers_setPort (hc : ContextKept s.ports[p] c) :
    Answers p .ok s (s.setPort p { c with lastResult := .ok }) := by
  refine ⟨by rw [setPort_self], ?_⟩
  rw [setPort_self]
  exact hc

end

/-! ## STATUS (R177) -/

/-- The byte that a frame put out first, as STATUS answers it, by whether the frame's beginning was told. -/
theorem openFrame_headD_begun {c : Port} {bits : List Bool} (h : c.frame = .begun bits) (bytes : List Byte) :
    (openFrame bytes c).out.headD 0 = c.out.headD 0 := by
  rw [openFrame_begun h]
  cases c.out with
  | nil => cases bytes <;> rfl
  | cons b bs => rfl

theorem openFrame_headD_untold {c : Port} (h : ∀ bits, c.frame ≠ .begun bits) (bytes : List Byte) :
    (openFrame bytes c).out.headD 0 = resultByte c.lastResult := by
  rw [openFrame_untold h]
  rfl

theorem byteWord_resultByte (r : Result) : byteWord (resultByte r) = num (codeIn Result.list r) := by
  cases r <;> decide

theorem flag_loading (s : State) : flag s.loading = if s.load = none then 0 else 1 := by
  cases hl : s.load <;> simp [State.loading, hl, flag]

theorem flag_beq {α : Type} [BEq α] [LawfulBEq α] [DecidableEq α] (a b : α) :
    flag (a == b) = if a = b then 1 else 0 := by
  by_cases h : a = b <;> simp [flag, h]

/-- The role of a port as a word, none during the load (R165, R195). -/
theorem roleWord (s : State) (p : Fin 4) :
    optCode Role.list (s.role p) =
      if s.load = none then num (codeIn Role.list s.config.ports[p].role) else 0xFFFF := by
  cases hl : s.load <;> simp [State.role, State.loading, hl, optCode, optNum, absent]

/-- The rank of a port as a word, none during the load (R165, R195). -/
theorem rankWord (s : State) (p : Fin 4) :
    optNum (s.rank p) = if s.load = none then num s.config.ports[p].rank else 0xFFFF := by
  cases hl : s.load <;> simp [State.rank, State.loading, hl, optNum, absent]

/-- Settles O57: the eight words are those of the state as the command's bytes leave it. -/
theorem statusAnswersEightWords : Obligations.StatusAnswersEightWords := by
  intro s p hh
  have hkept := (openFrame_kept (Instr.bytes (.status p)) s.ports[p]).1
  have hexec : exec (.status p) s = .next (command p (Instr.bytes (.status p)) (statusBody p) s) := rfl
  rw [hexec, command_setPort (body := statusBody p) hh rfl]
  obtain ⟨honly, hothers⟩ := setPort_only s p
    { (opened p (.status p) s).ports[p] with
      reply := .status (statusWords (opened p (.status p) s) p), lastResult := .ok }
  rw [opened_port] at *
  refine ⟨_, rfl, honly, hothers, answers_setPort hkept, fun hr => ?_, _, by rw [setPort_self], rfl, ?_⟩
  · rw [setPort_self]
    exact openFrame_notices hr _
  · obtain ⟨-, -, -, -, -, -, -, -, -, hconflict⟩ := hkept
    refine ⟨?_, congrArg some (flag_loading s), congrArg some (roleWord s p), congrArg some (rankWord s p),
      congrArg some (flag_beq s.regime.holder (some p)), rfl, rfl, ?_⟩
    · show some (byteWord ((opened p (.status p) s).ports[p].out.headD 0)) = _
      rw [opened_port]
      split
      · next bits hf => rw [openFrame_headD_begun hf]; rfl
      · next hf => rw [openFrame_headD_untold hf, byteWord_resultByte]
    · show some (optIndex (opened p (.status p) s).ports[p].conflict) = _
      rw [opened_port, hconflict]
      cases s.ports[p].conflict <;> rfl

end Sys2Proof.Machine
end

section
/-! SUPPORT. SELECT and WINDOW (O54), NOTICES and MASK (O56). -/

namespace Sys2Proof.Machine

/-! ## SELECT (R172) -/

section
variable {s : State} {p : Fin 4} {tb r f fr lr ff lf o : Byte} {x : Table} {w : WalkOrder}

theorem selectBody_unknown (h : argIn Table.list tb = none) : selectBody p tb r f s = refuse .badAddress s := by
  rw [selectBody, h]

theorem selectBody_outside (h : argIn Table.list tb = some x)
    (hout : ¬(r.toNat < Table.records x ∧ f.toNat < Table.fields x)) :
    selectBody p tb r f s = refuse .badAddress s := by
  rw [selectBody, h]
  exact if_neg hout

theorem selectBody_inside (h : argIn Table.list tb = some x)
    (hin : r.toNat < Table.records x ∧ f.toNat < Table.fields x) :
    selectBody p tb r f s = accept (s.setPort p (wholeTable x r.toNat f.toNat s.ports[p])) := by
  rw [selectBody, h]
  exact if_pos hin

/-! ## WINDOW (R173) -/

/-- The bounds fit exactly where no case of R173 refuses them. -/
theorem windowFits_iff (x : Table) (fr lr ff lf : Nat) :
    windowFits x fr lr ff lf = true ↔ ¬(lr < fr ∨ lf < ff ∨ Table.records x ≤ lr ∨ Table.fields x ≤ lf) := by
  simp only [windowFits, Bool.and_eq_true, decide_eq_true_eq]
  omega

theorem windowBody_misfit (h : ¬ windowFits s.ports[p].table fr.toNat lr.toNat ff.toNat lf.toNat = true) :
    windowBody p fr lr ff lf o s = refuse .badAddress s :=
  if_neg h

theorem windowBody_order (h : windowFits s.ports[p].table fr.toNat lr.toNat ff.toNat lf.toNat = true)
    (ho : argIn WalkOrder.list o = none) : windowBody p fr lr ff lf o s = refuse .range s := by
  rw [windowBody, if_pos h, ho]

theorem windowBody_fits (h : windowFits s.ports[p].table fr.toNat lr.toNat ff.toNat lf.toNat = true)
    (ho : argIn WalkOrder.list o = some w) :
    windowBody p fr lr ff lf o s =
      accept (s.setPort p (setWindow fr.toNat lr.toNat ff.toNat lf.toNat w s.ports[p])) := by
  rw [windowBody, if_pos h, ho]

/-- The walk order of an argument: code 0 is FIELD_FIRST and code 1 RECORD_FIRST (section 11.1). -/
theorem argIn_walkOrder (h : ¬ 2 ≤ o.toNat) :
    argIn WalkOrder.list o = some (if o.toNat = 0 then .fieldFirst else .recordFirst) := by
  obtain h0 | h1 : o.toNat = 0 ∨ o.toNat = 1 := by omega
  · rw [argIn, h0]; rfl
  · rw [argIn, h1]; rfl

end

/-- Settles O54, by the cases of the two rules on the state as the command's bytes leave it. -/
theorem selectAndWindowSetThePointer : Obligations.SelectAndWindowSetThePointer := by
  refine ⟨fun s p tb r f hh => ⟨_, rfl, ?_⟩, fun s p fr lr ff lf o hh => ⟨_, rfl, ?_⟩⟩
  · obtain ⟨-, -, -, -, -, -, -, horder, hmask, hconflict⟩ :=
      (openFrame_kept (Instr.bytes (.select p tb r f)) s.ports[p]).1
    split
    · next hx => exact command_refused hh (selectBody_unknown hx)
    · next x hx =>
      split
      · next hin =>
        rw [command_setPort hh (selectBody_inside hx hin), opened_port]
        obtain ⟨honly, hothers⟩ := setPort_only s p
          { wholeTable x r.toNat f.toNat (openFrame (Instr.bytes (.select p tb r f)) s.ports[p]) with lastResult := .ok }
        refine ⟨honly, hothers, ?_⟩
        rw [setPort_self]
        exact ⟨rfl, rfl, rfl, rfl, rfl, rfl, rfl, rfl, horder, hmask, hconflict⟩
      · next hout => exact command_refused hh (selectBody_outside hx hout)
  · obtain ⟨htable, -, -, -, -, -, -, -, hmask, hconflict⟩ :=
      (openFrame_kept (Instr.bytes (.window p fr lr ff lf o)) s.ports[p]).1
    have hfits := windowFits_iff s.ports[p].table fr.toNat lr.toNat ff.toNat lf.toNat
    rw [← htable, ← opened_port] at hfits
    dsimp only
    rw [← htable, ← opened_port]
    split
    · next hbad => exact command_refused hh (windowBody_misfit (mt hfits.mp (not_not.mpr hbad)))
    · next hgood =>
      have hgood := hfits.mpr hgood
      split
      · next ho => exact command_refused hh (windowBody_order hgood ((argIn_eq_none_iff _ o).mpr ho))
      · next ho =>
        rw [command_setPort hh (windowBody_fits hgood (argIn_walkOrder ho)), opened_port]
        obtain ⟨honly, hothers⟩ := setPort_only s p
          { setWindow fr.toNat lr.toNat ff.toNat lf.toNat (if o.toNat = 0 then .fieldFirst else .recordFirst)
              (openFrame (Instr.bytes (.window p fr lr ff lf o)) s.ports[p]) with lastResult := .ok }
        refine ⟨honly, hothers, ?_⟩
        rw [setPort_self]
        exact ⟨rfl, rfl, rfl, rfl, rfl, rfl, rfl, rfl, rfl, hmask, hconflict⟩

/-! ## NOTICES and MASK (R175, R176) -/

/-- The kinds of a MASK word are its bits, below the 11 kinds (section 11.1). -/
theorem argKinds_of_lt {w : Word} (h : ¬ 2 ^ 11 ≤ w.toNat) : argKinds w = some (w.extractLsb' 0 11) :=
  if_pos (Nat.lt_of_not_le h)

theorem maskBody_range {s : State} {p : Fin 4} {w : Word} (h : 2 ^ 11 ≤ w.toNat) : maskBody p w s = refuse .range s := by
  rw [maskBody, argKinds, if_neg (Nat.not_lt.mpr h)]

theorem maskBody_kinds {s : State} {p : Fin 4} {w : Word} (h : ¬ 2 ^ 11 ≤ w.toNat) :
    maskBody p w s = accept (s.setPort p (judgeAttention { s.ports[p] with mask := w.extractLsb' 0 11 })) := by
  rw [maskBody, argKinds_of_lt h]

/-- Settles O56: NOTICES and MASK by their own rules on the state as the command's bytes leave it, where no reply stood
whose kinds could have rejoined the set. -/
theorem noticesAreTakenAndMasked : Obligations.NoticesAreTakenAndMasked := by
  refine ⟨fun s p ⟨hl, hh⟩ hr => ⟨_, rfl, ?_⟩, fun s p k hr => ?_, fun s p w ⟨hl, hh⟩ hr => ⟨_, rfl, ?_⟩⟩
  · have hw : (opened p (.notices p) s).load = none := hl
    have hkept := (openFrame_kept (Instr.bytes (.notices p)) s.ports[p]).1
    have hnotices := openFrame_notices hr (Instr.bytes (.notices p))
    rw [command_setPort (body := afterLoad (noticesBody p)) hh (afterLoad_ready hw), opened_port]
    obtain ⟨honly, hothers⟩ := setPort_only s p
      { takeNotices (openFrame (Instr.bytes (.notices p)) s.ports[p]) with lastResult := .ok }
    refine ⟨honly, hothers, ?_, ?_, ?_, answers_setPort hkept⟩ <;> rw [setPort_self]
    · rfl
    · exact congrArg Reply.notices hnotices
    · simp [takeNotices, judgeAttention]
  · show Host.Outcome.next _ = _
    rw [hr]
    rfl
  · have hw : (opened p (.mask p w) s).load = none := hl
    obtain ⟨-, -, -, -, -, -, -, -, -, hconflict⟩ := (openFrame_kept (Instr.bytes (.mask p w)) s.ports[p]).1
    have hnotices := openFrame_notices hr (Instr.bytes (.mask p w))
    split
    · next hbig => exact command_refused hh ((afterLoad_ready hw).trans (maskBody_range hbig))
    · next hsmall =>
      rw [command_setPort hh ((afterLoad_ready hw).trans (maskBody_kinds hsmall)), opened_port]
      obtain ⟨honly, hothers⟩ := setPort_only s p
        { judgeAttention { openFrame (Instr.bytes (.mask p w)) s.ports[p] with mask := w.extractLsb' 0 11 } with
          lastResult := .ok }
      refine ⟨honly, hothers, ?_⟩
      rw [setPort_self]
      refine ⟨?_, hnotices, ?_, rfl, hconflict⟩
      · show (w.extractLsb' 0 11).toNat = w.toNat
        rw [BitVec.extractLsb'_toNat, Nat.shiftRight_zero]
        exact Nat.mod_eq_of_lt (Nat.lt_of_not_le hsmall)
      · simp only [judgeAttention, hnotices]

end Sys2Proof.Machine
end

section
/-! SUPPORT. The frames of a port: their bits and bytes, their beginning, a command in them, and their end (O52). -/

namespace Sys2Proof.Machine

/-! ## Bits and bytes -/

/-- The bits of a byte come most significant first (R167). -/
theorem byte_bit (b : Byte) (k : Fin 8) : (Byte.bits b)[k.val]? = some (b.getLsbD (7 - k.val)) := by
  fin_cases k <;> simp [Byte.bits, BitVec.getMsbD]

/-! ## The end of a reply (R174, R175) -/

section
variable {s t u : State} {p : Fin 4} {i : Instr} {bs : List Byte} {c : Port}

/-- The kinds of a NOTICES reply that is cut short rejoin the set, and the attention line is judged anew (R175). -/
theorem endReply_of_notices {taken : NoticeSet} (h : c.reply = .notices taken) :
    endReply c =
      { c with
        reply := .none, notices := c.notices ||| taken
        attention := if taken = 0 then c.attention else ((c.notices ||| taken) &&& ~~~c.mask) != 0 } := by
  unfold endReply
  rw [h]
  by_cases h0 : taken = 0
  · subst h0
    have hor : c.notices ||| (0 : NoticeSet) = c.notices := BitVec.or_zero
    simp only [recordKinds, if_true, hor]
  · simp only [recordKinds, if_neg h0, judgeAttention]

theorem endReply_of_other (h : ∀ taken, c.reply ≠ .notices taken) : endReply c = { c with reply := .none } := by
  unfold endReply
  split
  · next taken hr => exact absurd hr (h taken)
  · rfl

/-! ## A command in its frame (R165, R167) -/

/-- RESTART that begins no load leaves the sender's frame and the bytes put out. -/
theorem restartBody_frame (h : (restartBody p u).1.load = none) :
    (restartBody p u).1.ports[p].frame = u.ports[p].frame ∧ (restartBody p u).1.ports[p].out = u.ports[p].out := by
  have hconflict (n : Option (Fin 136)) := bodyMove_setConflict p n u
  revert h
  unfold restartBody
  (repeat' split) <;> intro h
  case h_1 => exact ⟨(hconflict _).frame, (hconflict _).out⟩
  case h_2 => cases h
  all_goals exact ⟨rfl, rfl⟩

/-- A command that begins no load is judged by a rule that leaves the sender's frame and the bytes put out. -/
theorem exec_heard_frame (hb : commandBytes i = some (p, bs)) (hw : i.wellFormed = true) (hh : Hears s p i)
    (h : exec i s = .next t) (hl : t.load = s.load) :
    t.ports[p].frame = (openFrame bs s.ports[p]).frame ∧ t.ports[p].out = (openFrame bs s.ports[p]).out := by
  have hbytes : Instr.bytes i = bs := by simp [Instr.bytes, hb]
  suffices hbody : ∃ body : State → State × Result, exec i s = .next (command p (Instr.bytes i) body s) ∧
      ((body (opened p i s)).1.load = s.load →
        (body (opened p i s)).1.ports[p].frame = (opened p i s).ports[p].frame ∧
          (body (opened p i s)).1.ports[p].out = (opened p i s).ports[p].out) by
    obtain ⟨body, he, hkeep⟩ := hbody
    obtain rfl := Host.Outcome.next.inj (he.symm.trans h)
    rw [command_heard hh] at hl ⊢
    rw [setResult_self, ← hbytes, ← opened_port]
    exact hkeep (by simpa using hl)
  cases hi : loadActs i with
  | false =>
    obtain ⟨body, he, hmove⟩ := exec_of_command hb hw hi
    exact ⟨body, he s, fun _ => ⟨(hmove _).frame, (hmove _).out⟩⟩
  | true =>
    cases i with
    | restart q =>
      cases hb
      refine ⟨_, rfl, fun hload => ?_⟩
      by_cases hn : s.load = none
      · by_cases hp : s.regime.holder = some p
        · have hcontrol : controlled p (restartBody p) (opened p (.restart p) s) = restartBody p (opened p (.restart p) s) :=
            controlled_opened ⟨⟨hn, hh⟩, hp⟩
          rw [hcontrol] at hload ⊢
          exact restartBody_frame (hload.trans hn)
        · have hother : controlled p (restartBody p) (opened p (.restart p) s) = refuse .control _ :=
            controlled_other hn hp
          rw [hother]
          exact ⟨rfl, rfl⟩
      · have hloading : controlled p (restartBody p) (opened p (.restart p) s) = refuse .starting _ :=
          afterLoad_loading hn
        rw [hloading]
        exact ⟨rfl, rfl⟩
    | powerOnReset | startUpLoadEnd => cases hb
    | _ => cases hi

end

/-! ## The beginning and the end of a frame (R165, R167 to R169) -/

section
variable (s : State) (p : Fin 4) (n : Nat) (c : Port)

theorem exec_frameBegin {s : State} {f : FrameStart} (h : frameOpen (receivedBytes f.bits) = true) :
    exec (.frameBegin f) s = .next (s.setPort f.port (beginFrame f.bits s.ports[f.port])) :=
  congrArg _ (if_pos h)

theorem beginFrame_out (bits : List Bool) :
    (beginFrame bits c).out =
      BitVec.ofNat 8 (codeIn Result.list c.lastResult) :: List.replicate ((receivedBytes bits).length - 1) 0 := by
  simp [beginFrame, putOut, resultByte]

theorem beginFrame_kept (bits : List Bool) :
    ContextKept c (beginFrame bits c) ∧ (beginFrame bits c).lastResult = c.lastResult := by
  have hresult : (endReply c).lastResult = c.lastResult := by
    unfold endReply recordKinds
    (repeat' split) <;> rfl
  exact ⟨(endReply_kept (ks := 0) c).1, hresult⟩

/-- The result that the end of a frame leaves: SHORT where bits were clocked and no command was judged (R169). -/
theorem endFrame_lastResult :
    (endFrame s n c).lastResult =
      match c.frame with
      | .none => if n = 0 then c.lastResult else .short
      | .begun bits => if n = 0 ∧ bits = [] then c.lastResult else .short
      | _ => c.lastResult := by
  show (if Frame.short n c.frame then Result.short else c.lastResult) = _
  cases c.frame with
  | none => by_cases h : n = 0 <;> simp [Frame.short, h]
  | begun bits =>
    cases bits with
    | nil => by_cases h : n = 0 <;> simp [Frame.short, h]
    | cons b bits => simp [Frame.short]
  | _ => rfl

/-- The end of a frame leaves the rest of the port as it was. -/
theorem endFrame_eq_with {r : Result} {ks : NoticeSet} {b : Bool} (hr : (endFrame s n c).lastResult = r)
    (hk : (endReply c).notices = ks) (hb : (endReply c).attention = b) :
    endFrame s n c =
      { c with
        frame := .none, reply := .none, out := (endFrame s n c).out, lastResult := r, notices := ks, attention := b } := by
  subst hr hk hb
  unfold endFrame endReply recordKinds
  (repeat' split) <;> rfl

end

/-- Settles O52: the codec of the wire, and the beginning, a command and the end of a frame, each by what it leaves of
the port. -/
theorem framesBeginAndEnd : Obligations.FramesBeginAndEnd := by
  refine ⟨byte_bit, received_wireBits, fun s f h => congrArg _ (if_neg (by simp [h])), fun s p bits h => ?_,
    fun i p bs s t hb hw hh he hl => ?_, fun s p n => ⟨_, rfl, rfl, fun hl => drawnAtEnd_of_ready hl p,
      setPort_other s p _, ?_, ?_⟩⟩
  · obtain ⟨honly, hothers⟩ := setPort_only s p (beginFrame bits s.ports[p])
    obtain ⟨hkept, hresult⟩ := beginFrame_kept s.ports[p] bits
    refine ⟨_, exec_frameBegin h, honly, hothers, ?_⟩
    unfold Answers
    rw [setPort_self]
    refine ⟨rfl, rfl, (endReply_reply s.ports[p]).1, beginFrame_out _ bits, ⟨hresult, hkept⟩, ?_⟩
    show (endReply s.ports[p]).notices = _
    split
    · next taken hr => rw [endReply_of_notices hr]
    · next hr => rw [endReply_of_other hr]
  · obtain ⟨hframe, hout⟩ := exec_heard_frame hb hw hh he hl
    rw [hframe, hout]
    refine ⟨openFrame_received bs _, ?_⟩
    split
    · next bits hf => rw [openFrame_begun hf]
    · next hf => rw [openFrame_untold hf]; rfl
  · show ClockedOut s s.ports[p] n (s.setPort p (endFrame s n s.ports[p])).ports[p].out
    rw [setPort_self]
    exact clockedOut_spec s n s.ports[p]
  · show (s.setPort p (endFrame s n s.ports[p])).ports[p] = _
    rw [setPort_self]
    refine endFrame_eq_with s n s.ports[p] (endFrame_lastResult s n s.ports[p]) ?_ ?_
    · split
      · next taken hr => rw [endReply_of_notices hr]
      · next hr => rw [endReply_of_other hr]
    · split
      · next taken hr => rw [endReply_of_notices hr]
      · next hr => rw [endReply_of_other hr]

end Sys2Proof.Machine
end

section
/-! SUPPORT. The words of a record and how its fields read (R171, R195, section 11.3). -/

namespace Sys2Proof.Machine

/-! ## Words -/

theorem optIndex_eq {n : Nat} (x : Option (Fin n)) : optIndex x = indexWord x := by cases x <;> rfl

theorem optCode_eq {α : Type} [DecidableEq α] (l : List α) (x : Option α) : optCode l x = codeWord l x := by
  cases x <;> rfl

/-- The high word of a remaining time, none of a stopped timer. -/
def timeHigh (t : Option Nat) : Word := optNum (t.map (· / 65536))

/-- The low word of a remaining time, none of a stopped timer. -/
def timeLow (t : Option Nat) : Word := optNum (t.map (· % 65536))

theorem timeWords_eq (t : Option Nat) : timeWords t = [timeHigh t, timeLow t] := by cases t <;> rfl

theorem troubleWord_bits (x : TroubleSummary) :
    (troubleWord x).getLsbD 0 = x.lines ∧ (troubleWord x).getLsbD 1 = x.doors ∧ (troubleWord x).getLsbD 2 = x.lifts ∧
      (troubleWord x).getLsbD 3 = x.voice ∧ (troubleWord x).getLsbD 4 = x.store ∧ (troubleWord x).toNat < 32 := by
  obtain ⟨lines, lifts, doors, voice, store⟩ := x
  revert lines lifts doors voice store
  decide

/-- A history entry reads 0 beyond the length (R195). -/
theorem historyWord_eq (h : List Nat) (k : Nat) :
    historyWord h k = if hk : k < h.length then BitVec.ofNat 16 h[k] else 0 := by
  split
  · next hk => rw [historyWord, List.getD_eq_getElem _ _ hk, num]
  · next hk => rw [historyWord, List.getD_eq_default _ _ (Nat.le_of_not_lt hk)]; rfl

theorem averageWord_eq (h : List Nat) :
    num ((average h).getD 0) = if h = [] then 0 else BitVec.ofNat 16 (h.sum / h.length) := by
  cases h <;> rfl

/-- The bits of the three words of a floor set are its floors in order (section 11.1). -/
theorem floorWord_bit (fs : FloorSet) (w : Fin 3) (n : Fin 16) :
    (fs.extractLsb' (16 * w.val) 16).getLsbD n.val = fs.has (16 * w.val + n.val) := by
  simp [FloorSet.has, n.isLt]

theorem entryWords_length (e : Option Entry) : (entryWords e).length = 11 := by cases e <;> rfl

theorem reportWords_length (r : Option Report) : (reportWords r).length = 4 := by cases r <;> rfl

/-- The words of a car's last report, each none before the first report (R195). -/
theorem reportWords_cases (r : Option Report) :
    ∃ a b c d, reportWords r = [a, b, c, d] ∧ (r = none → a = 0xFFFF ∧ b = 0xFFFF ∧ c = 0xFFFF ∧ d = 0xFFFF) ∧
      ∀ x, r = some x →
        (x.position = none → a = 0x00FF) ∧ (∀ f, x.position = some f → a = BitVec.ofNat 16 f.val) ∧
          b = code Motion.list x.motion ∧ c = code CarDoors.list x.doors ∧ d = code ServiceMode.list x.mode := by
  cases r with
  | none => exact ⟨_, _, _, _, rfl, fun _ => ⟨rfl, rfl, rfl, rfl⟩, nofun⟩
  | some y =>
    refine ⟨_, _, _, _, rfl, nofun, fun x hx => ?_⟩
    obtain rfl := Option.some.inj hx
    exact ⟨fun h => by rw [h], fun f h => by rw [h]; rfl, rfl, rfl, rfl⟩

/-! ## Reading a record -/

section
variable {s : State} {t : Table} {r k : Nat} {w : Word}

/-- A remaining time reads as its two words. -/
theorem readsTime_iff (x : Option Nat) :
    ReadsTime s t r k x ↔ Reads s t r k (timeHigh x) ∧ Reads s t r (k + 1) (timeLow x) := by
  cases x <;> exact Iff.rfl

theorem readsWhether_of {b : Bool} {p : Prop} (h : Reads s t r k (flag b)) (hb : b = true ↔ p) :
    ReadsWhether s t r k p := by
  refine ⟨fun hp => ?_, fun hp => ?_⟩
  · rw [hb.mpr hp] at h; exact h
  · rw [Bool.eq_false_iff.mpr (mt hb.mp hp)] at h; exact h

theorem readsFloors_of {fs : FloorSet} {has : Fin 48 → Prop} (h0 : Reads s t r k (fs.extractLsb' 0 16))
    (h1 : Reads s t r (k + 1) (fs.extractLsb' 16 16)) (h2 : Reads s t r (k + 2) (fs.extractLsb' 32 16))
    (hh : ∀ f : Fin 48, fs.has f = true ↔ has f) : ReadsFloors s t r k has := by
  intro w n
  have hw : Reads s t r (k + w.val) (fs.extractLsb' (16 * w.val) 16) := by
    fin_cases w
    · exact h0
    · exact h1
    · exact h2
  exact ⟨_, hw, by rw [floorWord_bit]; exact hh ⟨16 * w.val + n.val, by omega⟩⟩

end

section
variable (s : State)

theorem tableRecord_floor (i : Fin 48) : tableRecord s .floor i = floorRecord s i :=
  congrArg (floorRecord s) (Fin.ofNat_val_eq_self i)
theorem tableRecord_line (i : Fin 64) : tableRecord s .line i = lineRecord s i :=
  congrArg (lineRecord s) (Fin.ofNat_val_eq_self i)
theorem tableRecord_pgroup (i : Fin 8) : tableRecord s .pgroup i = pgroupRecord s i :=
  congrArg (pgroupRecord s) (Fin.ofNat_val_eq_self i)
theorem tableRecord_car (i : Fin 12) : tableRecord s .car i = carRecord s i :=
  congrArg (carRecord s) (Fin.ofNat_val_eq_self i)
theorem tableRecord_lgroup (i : Fin 3) : tableRecord s .lgroup i = lgroupRecord s i :=
  congrArg (lgroupRecord s) (Fin.ofNat_val_eq_self i)
theorem tableRecord_door (i : Fin 32) : tableRecord s .door i = doorRecord s i :=
  congrArg (doorRecord s) (Fin.ofNat_val_eq_self i)
theorem tableRecord_dgroup (i : Fin 16) : tableRecord s .dgroup i = dgroupRecord s i :=
  congrArg (dgroupRecord s) (Fin.ofNat_val_eq_self i)
theorem tableRecord_channel (i : Fin 4) : tableRecord s .channel i = channelRecord s i :=
  congrArg (channelRecord s) (Fin.ofNat_val_eq_self i)
theorem tableRecord_queue (i : Fin 16) : tableRecord s .queue i = queueRecord s i :=
  congrArg (queueRecord s) (Fin.ofNat_val_eq_self i)
theorem tableRecord_port (i : Fin 4) : tableRecord s .port i = portRecord s i :=
  congrArg (portRecord s) (Fin.ofNat_val_eq_self i)
theorem tableRecord_store (i : Fin 136) : tableRecord s .store i = storeRecord s i :=
  congrArg (storeRecord s) (Fin.ofNat_val_eq_self i)

/-- Every record has the fields of its table (section 11.3). -/
theorem tableRecord_length (t : Table) (r : Nat) : (tableRecord s t r).length = Table.fields t := by
  cases t with
  | regime => simp [tableRecord, regimeRecord, timeWords_eq, Table.fields]
  | floor =>
    show (floorRecord s (Fin.ofNat 48 r)).length = 5
    unfold floorRecord
    split <;> rfl
  | line => simp [tableRecord, lineRecord, timeWords_eq, Table.fields]
  | pgroup => simp [tableRecord, pgroupRecord, timeWords_eq, Table.fields]
  | car => simp [tableRecord, carRecord, timeWords_eq, FloorSet.words, reportWords_length, Table.fields]
  | lgroup => simp [tableRecord, lgroupRecord, Table.fields]
  | door => simp [tableRecord, doorRecord, timeWords_eq, Table.fields]
  | dgroup => simp [tableRecord, dgroupRecord, timeWords_eq, Table.fields]
  | channel => simp [tableRecord, channelRecord, timeWords_eq, Table.fields]
  | queue => simp [tableRecord, queueRecord, entryWords_length, Table.fields]
  | port => simp [tableRecord, portRecord, Table.fields]
  | store => simp [tableRecord, storeRecord, timeWords_eq, Table.fields]

end

end Sys2Proof.Machine
end

section
/-! SUPPORT. Every field of every record reads as section 11.3 and R195 give it (O55). -/

namespace Sys2Proof.Machine

section
variable (s : State)

/-! ## The regime and the floors (R67, R86) -/

/-- The spread timer's condition and its remaining time (R67). -/
theorem spreadReads : Reads s .regime 0 8 (num (spreadCode s.regime.spread)) ∧
    ReadsTime s .regime 0 9 (spreadTime s.regime.spread) := by
  simp only [readsTime_iff, Reads, tableRecord, regimeRecord, timeWords_eq]
  exact ⟨rfl, rfl, rfl⟩

theorem regimeReads : RegimeReads s := by
  simp only [RegimeReads, readsTime_iff]
  refine ⟨rfl, ?_, ?_, ?_, ?_, ?_, ?_, ?_, ?_, ?_, _, ?_, troubleWord_bits s.regime.trouble⟩
  case refine_6 =>
    obtain ⟨hcode, htime⟩ := spreadReads s
    rw [readsTime_iff] at htime
    split
    · next n h => rw [h] at hcode htime; exact ⟨hcode, htime⟩
    · next n h => rw [h] at hcode htime; exact ⟨hcode, htime⟩
    · next h => rw [h] at hcode htime; exact ⟨hcode, htime⟩
  all_goals simp only [Reads, tableRecord, regimeRecord, timeWords_eq, optIndex_eq]
  case refine_2 | refine_4 => exact ⟨rfl, rfl⟩
  all_goals rfl

theorem floorReads (f : Fin 48) : FloorReads s f := by
  simp only [FloorReads, Reads, tableRecord_floor, floorRecord, State.present, decide_eq_true_eq, optIndex_eq]
  split
  · exact ⟨rfl, rfl, rfl, rfl, rfl⟩
  · intro k
    fin_cases k <;> rfl

/-! ## The lines and the power groups (R13, R42) -/

theorem lineInTrouble_iff (c : LineCfg) (l : Line) :
    lineInTrouble c l = true ↔
      l.state ≠ .isolated ∧
        (l.state = .troubleOpen ∨ l.state = .troubleShort ∨ l.unstable = true ∨
          c.kind = .panelTrouble ∧ l.state = .active) := by
  simp only [lineInTrouble, Bool.and_eq_true, Bool.or_eq_true, bne_iff_ne, beq_iff_eq, or_assoc]

theorem lineReads (i : Fin 64) : LineReads s i := by
  have htrouble : Reads s .line i 23 (flag (lineInTrouble s.config.lines[i] s.lines[i])) := by
    simp only [Reads, tableRecord_line, lineRecord, timeWords_eq]
    rfl
  have htroubled := readsWhether_of htrouble (lineInTrouble_iff s.config.lines[i] s.lines[i])
  simp only [LineReads, readsTime_iff, Reads, tableRecord_line, lineRecord, timeWords_eq, optCode_eq, historyWord_eq,
    averageWord_eq]
  refine ⟨rfl, rfl, rfl, rfl, rfl, rfl, rfl, rfl, rfl, fun k => ?_, rfl, rfl, rfl, rfl, rfl, rfl, ⟨rfl, rfl⟩, rfl,
    rfl, htroubled⟩
  fin_cases k <;> rfl

theorem pgroupReads (g : Fin 8) : PGroupReads s g := by
  simp only [PGroupReads, readsTime_iff, Reads, tableRecord_pgroup, pgroupRecord, timeWords_eq]
  exact ⟨rfl, ⟨rfl, rfl⟩, rfl, rfl, rfl⟩

/-! ## The cars and the lift groups (R109, R110) -/

theorem carReads (c : Fin 12) : CarReads s c := by
  obtain ⟨position, motion, doors, mode, hwords, hunreported, hreported⟩ := reportWords_cases s.cars[c].report
  have hserved (f : Fin 48) : (presentFloors s s.config.cars[c].served).has f = true ↔
      f.val < s.config.system.nfloor ∧ s.config.cars[c].served.has f = true := by
    simp [presentFloors, State.present]
  have hrecord : tableRecord s .car c = carRecord s c := tableRecord_car s c
  simp only [carRecord, timeWords_eq, hwords, optIndex_eq] at hrecord
  have hread {k : Nat} {w : Word} (h : (tableRecord s .car c)[k]? = some w) : Reads s .car c k w := h
  rw [hrecord] at hread
  simp only [CarReads, readsTime_iff]
  refine ⟨hread rfl, hread rfl, readsFloors_of (hread rfl) (hread rfl) (hread rfl) hserved, ?_, hread rfl,
    ⟨hread rfl, hread rfl⟩, hread rfl, hread rfl, hread rfl, hread rfl,
    readsFloors_of (hread rfl) (hread rfl) (hread rfl) fun _ => Iff.rfl, hread rfl⟩
  split
  · next h =>
    obtain ⟨rfl, rfl, rfl, rfl⟩ := hunreported h
    intro k
    fin_cases k <;> exact hread rfl
  · next x h =>
    obtain ⟨hnone, hsome, rfl, rfl, rfl⟩ := hreported x h
    refine ⟨?_, hread rfl, hread rfl, hread rfl⟩
    split
    · next hp => rw [← hnone hp]; exact hread rfl
    · next f hp => rw [← hsome f hp]; exact hread rfl

theorem lobbyCause_iff (g : Fin 3) : lobbyCause s g = true ↔ LobbyActive s g := by
  simp only [lobbyCause, groupServes, inGroup, LobbyActive, List.any_eq_true, List.mem_finRange, true_and,
    Bool.and_eq_true, beq_iff_eq, and_assoc]

theorem automaticCause_iff (g : Fin 3) :
    automaticCause s g = true ↔
      s.config.lgroups[g].present = true ∧ s.regime.state ≠ .quiet ∧
        (s.config.lgroups[g].recallAny = true ∨ LobbyActive s g ∨ HoistwayActive s g) := by
  simp only [automaticCause, Bool.and_eq_true, Bool.or_eq_true, bne_iff_ne, lobbyCause_iff, hoistwayCause_iff,
    and_assoc, or_assoc]

theorem lgroupReads (g : Fin 3) : LGroupReads s g := by
  have hcause : Reads s .lgroup g 7 (flag (automaticCause s g)) := by
    simp only [Reads, tableRecord_lgroup]
    rfl
  have hcaused := readsWhether_of hcause (automaticCause_iff s g)
  simp only [LGroupReads, Reads, tableRecord_lgroup, lgroupRecord, optIndex_eq]
  exact ⟨rfl, rfl, rfl, rfl, rfl, rfl, rfl, hcaused, rfl, rfl, rfl, rfl, rfl, rfl⟩

/-! ## The door unit (R138, R139) -/

theorem readsClosed_iff (c : Fin 32) :
    readsClosed s c = true ↔
      ∀ i : Fin 64, s.config.lines[i].mode = .contact → s.config.lines[i].kind = .doorPosition →
        s.config.lines[i].link = some c.val → s.lines[i].state = .normal := by
  simp only [readsClosed, List.all_eq_true, List.mem_finRange, forall_const, Bool.or_eq_true, Bool.not_eq_true',
    Bool.and_eq_false_iff, beq_eq_false_iff_ne, beq_iff_eq]
  exact forall_congr' fun i => by tauto

theorem circuitReads (c : Fin 32) : CircuitReads s c := by
  have hclosed : Reads s .door c 13 (flag (readsClosed s c)) := by
    simp only [Reads, tableRecord_door, doorRecord, timeWords_eq]
    rfl
  have hreads := readsWhether_of hclosed (readsClosed_iff s c)
  simp only [CircuitReads, readsTime_iff, Reads, tableRecord_door, doorRecord, timeWords_eq, optCode_eq]
  exact ⟨rfl, rfl, rfl, rfl, rfl, rfl, rfl, ⟨rfl, rfl⟩, rfl, rfl, rfl, rfl, hreads⟩

theorem demand_iff (g : Fin 16) : demand s g = true ↔ HasDemand s g := by
  unfold demand HasDemand AutoDemand
  rw [Bool.and_eq_true]
  refine and_congr_right fun _ => ?_
  cases s.dgroups[g].override with
  | forceRelease | forceSecure => simp
  | auto =>
    cases s.config.dgroups[g].policy with
    | onAlarm => exact beq_iff_eq
    | onEvacuate => exact memberEvacuates_iff s g

/-- A group's place in the queue is its first (R139). -/
theorem idxOf_of_first {l : List (Fin 16)} {g : Fin 16} {k : Nat} (hk : l[k]? = some g)
    (hfirst : ∀ j < k, l[j]? ≠ some g) : l.idxOf g = k := by
  obtain ⟨hlt, hg⟩ := List.getElem?_eq_some_iff.mp hk
  have hle : l.idxOf g ≤ k := by
    by_contra hgt
    have hother : (l[k] == g) = false := List.not_of_lt_findIdx (Nat.lt_of_not_le hgt)
    exact absurd hg (beq_eq_false_iff_ne.mp hother)
  have hmem : g ∈ l := hg ▸ List.getElem_mem hlt
  by_contra hne
  exact hfirst _ (Nat.lt_of_le_of_ne hle hne) (List.getElem?_idxOf hmem)

theorem dgroupReads (g : Fin 16) : DGroupReads s g := by
  have hdemand : Reads s .dgroup g 3 (flag (demand s g)) := by
    simp only [Reads, tableRecord_dgroup]
    rfl
  have hdemanded := readsWhether_of hdemand (demand_iff s g)
  have hplace : Reads s .dgroup g 5 (if s.resecure.contains g then num (s.resecure.idxOf g) else absent) := by
    simp only [Reads, tableRecord_dgroup]
    rfl
  have hout (h : g ∉ s.resecure) : Reads s .dgroup g 5 0xFFFF := by
    rw [if_neg (by simpa using h)] at hplace
    exact hplace
  have hin (k : Fin 16) (hk : s.resecure[k.val]? = some g)
      (hfirst : ∀ j : Fin 16, j < k → s.resecure[j.val]? ≠ some g) : Reads s .dgroup g 5 (BitVec.ofNat 16 k.val) := by
    have hidx : s.resecure.idxOf g = k.val := idxOf_of_first hk fun j hj => hfirst ⟨j, by omega⟩ hj
    rw [if_pos (by simpa using List.mem_of_getElem? hk), hidx] at hplace
    exact hplace
  have hrecord : tableRecord s .dgroup g = dgroupRecord s g := tableRecord_dgroup s g
  simp only [dgroupRecord, timeWords_eq] at hrecord
  have hread {k : Nat} {w : Word} (h : (tableRecord s .dgroup g)[k]? = some w) : Reads s .dgroup g k w := h
  rw [hrecord] at hread
  simp only [DGroupReads, readsTime_iff]
  exact ⟨hread rfl, hread rfl, hread rfl, hdemanded, hread rfl, hout, hin, ⟨hread rfl, hread rfl⟩, hread rfl,
    hread rfl, hread rfl, hread rfl, hread rfl, hread rfl, hread rfl, hread rfl⟩

/-! ## The announcement router (R164) -/

theorem optMessage_eq (x : Option Byte) : optNum (x.map (·.toNat)) = messageWord x := by
  cases x with
  | none => rfl
  | some b => exact BitVec.eq_of_toNat_eq (by simp [optNum, num, messageWord])

theorem channelReads (c : Fin 4) :
    Reads s .channel c 0 (code ChannelState.list s.channels[c].state) ∧
      Reads s .channel c 1 (indexWord s.channels[c].entry) ∧
      Reads s .channel c 2 (messageWord s.channels[c].message) ∧ ReadsTime s .channel c 3 s.channels[c].play ∧
      ReadsTime s .channel c 5 s.channels[c].stop ∧ Reads s .channel c 7 (flag s.channels[c].lapse) ∧
      Reads s .channel c 8 (countWord fun f : Fin 48 => s.present f && s.floors[f].routed == some c) := by
  simp only [readsTime_iff, Reads, tableRecord_channel, channelRecord, timeWords_eq, optIndex_eq, optMessage_eq]
  exact ⟨rfl, rfl, rfl, ⟨rfl, rfl⟩, ⟨rfl, rfl⟩, rfl, rfl⟩

theorem queueReads : QueueReads s := by
  refine ⟨fun sl => ?_, channelReads s⟩
  have hrecord : tableRecord s .queue sl = queueRecord s sl := tableRecord_queue s sl
  rw [queueRecord] at hrecord
  have hread {k : Nat} {w : Word} (h : (tableRecord s .queue sl)[k]? = some w) : Reads s .queue sl k w := h
  rw [hrecord] at hread
  refine ⟨hread ?_, ?_⟩
  · rw [List.getElem?_append_right (by rw [entryWords_length]), entryWords_length]
    rfl
  · split
    · next he =>
      rw [he] at hread
      intro k
      fin_cases k <;> exact hread rfl
    · next e he =>
      rw [he] at hread
      simp only [entryWords, optIndex_eq] at hread
      refine ⟨hread rfl, hread rfl, readsFloors_of (hread rfl) (hread rfl) (hread rfl) fun _ => Iff.rfl, hread rfl,
        hread rfl, hread rfl, hread rfl, hread ?_, hread rfl⟩
      cases e.channel <;> rfl

/-! ## The ports and the store (R182, R193) -/

theorem portReads (p : Fin 4) : PortReads s p := by
  simp only [PortReads, Reads, tableRecord_port, portRecord, optIndex_eq, roleWord, rankWord, flag_beq]
  exact ⟨rfl, rfl, rfl, rfl, rfl, rfl, rfl, rfl, rfl, rfl, rfl, rfl, rfl, rfl, rfl, rfl⟩

/-- The last field of a STORE record has the enable input in bit 0 and the load in bit 1 (R193). -/
theorem pinsWord_bits (a b : Bool) :
    let x := num ((if a then 1 else 0) + (if b then 2 else 0))
    x.getLsbD 0 = a ∧ x.getLsbD 1 = b ∧ x.toNat < 4 := by
  cases a <;> cases b <;> decide

/-- The contents of a STORE record stand after its kind and its index (section 11.3). -/
theorem contents_getElem? (a b : Word) (v : Image) (l : List Word) (k : Fin 17) :
    ([a, b] ++ (v.toList ++ l))[2 + k.val]? = some v[k] := by
  have hk : k.val < v.toList.length := by simp
  rw [List.getElem?_append_right (Nat.le_add_right 2 _), List.length_cons, List.length_singleton, Nat.add_sub_cancel_left,
    List.getElem?_append_left hk, List.getElem?_eq_getElem hk]
  simp

/-- The fields of a STORE record after its contents (section 11.3). -/
theorem afterContents_getElem? (a b : Word) (v : Image) (l : List Word) (k : Nat) :
    ([a, b] ++ (v.toList ++ l))[19 + k]? = l[k]? := by
  have hlen : ([a, b] ++ v.toList).length = 19 := by simp
  rw [← List.append_assoc, List.getElem?_append_right (by omega), hlen, Nat.add_sub_cancel_left]

theorem storeReads (n : Fin 136) : StoreReads s n := by
  have hrecord : tableRecord s .store n = storeRecord s n := tableRecord_store s n
  simp only [storeRecord, timeWords_eq, optIndex_eq, List.append_assoc] at hrecord
  have hread {k : Nat} {w : Word} (h : (tableRecord s .store n)[k]? = some w) : Reads s .store n k w := h
  have hafter {k : Nat} {w : Word} (h : (tableRecord s .store n)[19 + k]? = some w) : Reads s .store n (19 + k) w := h
  rw [hrecord] at hread hafter
  simp only [afterContents_getElem?] at hafter
  simp only [StoreReads, readsTime_iff]
  exact ⟨hread rfl, hread rfl, fun k => hread (contents_getElem? ..), hafter (k := 0) rfl, hafter (k := 1) rfl,
    hafter (k := 2) rfl, hafter (k := 3) rfl, hafter (k := 4) rfl, hafter (k := 5) rfl, hafter (k := 6) rfl,
    ⟨hafter (k := 7) rfl, hafter (k := 8) rfl⟩, _, hafter (k := 9) rfl, pinsWord_bits s.enable s.loading⟩

/-- Every record of every table is laid out as section 11.3 and R195 give it. -/
theorem tablesLaidOut : TablesLaidOut s :=
  ⟨tableRecord_length s, regimeReads s, floorReads s, lineReads s, carReads s, ⟨circuitReads s, dgroupReads s⟩,
    queueReads s, pgroupReads s, lgroupReads s, portReads s, storeReads s⟩

end

end Sys2Proof.Machine
end

section
/-! SUPPORT. READ: the stream, its words and its walk (O55). -/

namespace Sys2Proof.Machine

/-! ## The sizes of the tables and of their values (R171, R196) -/

theorem tableSizes : TableSizes := fun t => by cases t <;> rfl

/-- The number of fields of the value that begins at field `f`, by a list of the longer values. -/
def spanIn (l : List (Nat × Nat)) (f : Nat) : Nat := ((l.find? fun x => x.1 == f).map (·.2)).getD 1

theorem spanAt_eq (t : Table) (r f : Nat) : spanAt t r f = spanIn (spans t r) f := by
  unfold spanAt spanIn
  cases (spans t r).find? fun x => x.1 == f <;> rfl

theorem spanIn_cons (x : Nat × Nat) (l : List (Nat × Nat)) (f : Nat) :
    spanIn (x :: l) f = if f = x.1 then x.2 else spanIn l f := by
  by_cases h : f = x.1
  · simp [spanIn, h]
  · have hne : (x.1 == f) = false := by simpa using fun e => h e.symm
    simp [spanIn, hne, h]

theorem spanIn_nil (f : Nat) : spanIn [] f = 1 := rfl

theorem valueSpans : ValueSpans := by
  intro t r f
  rw [spanAt_eq]
  cases t with
  | store =>
    dsimp only [spans]
    split
    · next hcar => simp only [spanIn_cons, spanIn_nil, hcar]; grind
    · next hcar => simp only [spanIn_cons, spanIn_nil, hcar, and_false, if_false]
  | regime | car | dgroup | channel =>
    simp only [spans, spanIn_cons, spanIn_nil]
    grind
  | _ => simp only [spans, spanIn_cons, spanIn_nil]

/-! ## The words of the stream (R174, R196) -/

section
variable {s : State} {p : Fin 4} {c : Port} {ws : List Word}

theorem shown_of_ready (hl : s.load = none) : shown s = s := by
  simp [shown, State.loading, hl]

/-- A word that is taken is the first of some: each value has a field (R174). -/
theorem takenWords_ne_nil (s : State) (c : Port) : takenWords s c ≠ [] := by
  have hpos := spanAt_pos c.table c.record c.field
  unfold takenWords
  dsimp only
  split
  · simp; omega
  · simp

/-- The words taken at the pointer after the load: the table's word, and the rest of its value where the walk shifts it
whole (R174, R196). -/
theorem takenWords_of_ready (hl : s.load = none) (c : Port) :
    takenWords s c = (tableRecord s c.table c.record).getD c.field 0xFFFF :: valueRest s c := by
  have hspan : spanAt c.table c.record c.field = spanAt c.table c.record c.field - 1 + 1 :=
    (Nat.sub_add_cancel (spanAt_pos c.table c.record c.field)).symm
  have hwalk : (walksFields c && c.field + spanAt c.table c.record c.field ≤ c.lastField + 1) = true ↔
      (c.order = .fieldFirst ∨ c.firstRecord = c.lastRecord) ∧
        c.field + spanAt c.table c.record c.field ≤ c.lastField + 1 := by
    simp [walksFields]
  unfold takenWords valueRest
  simp only [shown_of_ready hl, hwalk]
  split
  · rw [hspan, List.range_succ_eq_map, List.map_cons, List.map_map, Nat.add_sub_cancel]
    refine congrArg₂ List.cons rfl (List.map_congr_left fun j _ => ?_)
    rw [Function.comp, Nat.add_right_comm]
    rfl
  · rfl

/-- The words still captured, or those taken now, begin with a word (R196). -/
theorem nextWords_cons (s : State) (c : Port) (ws : List Word) : ∃ w rest, nextWords s c ws = w :: rest := by
  cases ws with
  | nil => exact List.exists_cons_of_ne_nil (takenWords_ne_nil s c)
  | cons w ws => exact ⟨w, ws, rfl⟩

theorem drawn_of_ready (hl : s.load = none) (ws : List Word) : drawn s ws = s.free := by
  cases ws <;> simp [drawn, State.loading, hl]

theorem setPort_ports_self (s : State) (p : Fin 4) : s.setPort p s.ports[p] = s := by
  simp [State.setPort]

/-! ## The edges of a word (R174) -/

theorem exec_readWordShifted_dummy (h : s.ports[p].reply = .dummy) (e : WordEdge) :
    exec (.readWordShifted ⟨p, e⟩) s = .next (s.setPort p (dummyEdge s.ports[p] e)) := by
  show Host.Outcome.next _ = _
  rw [h]

theorem exec_readWordShifted_stream (h : s.ports[p].reply = .stream ws) (e : WordEdge) :
    exec (.readWordShifted ⟨p, e⟩) s =
      .next { s.setPort p (shiftEdge s ws s.ports[p] e) with free := drawn s ws } := by
  show Host.Outcome.next _ = _
  rw [h]

/-- A captured word that begins to shift is taken already, so nothing changes (R196). -/
theorem beginWord_captured (h : c.reply = .stream ws) (hne : ws ≠ []) (s : State) : beginWord s ws c = c := by
  obtain ⟨w, rest, rfl⟩ := List.exists_cons_of_ne_nil hne
  rw [beginWord, nextWords, ← h]

/-- The pointer after a word, by the walk order (the tables of R174). -/
structure Advanced (c d : Port) : Prop where
  fieldFirst : c.order = .fieldFirst →
    if c.field < c.lastField then d.field = c.field + 1 ∧ d.record = c.record
    else d.field = c.firstField ∧ d.record = if c.record < c.lastRecord then c.record + 1 else c.firstRecord
  recordFirst : c.order = .recordFirst →
    if c.record < c.lastRecord then d.record = c.record + 1 ∧ d.field = c.field
    else d.record = c.firstRecord ∧ d.field = if c.field < c.lastField then c.field + 1 else c.firstField

theorem advanced_advance (c : Port) : Advanced c (advance c) where
  fieldFirst h := by
    by_cases hf : c.field < c.lastField <;> by_cases hr : c.record < c.lastRecord <;> simp [advance, h, hf, hr]
  recordFirst h := by
    by_cases hr : c.record < c.lastRecord <;> by_cases hf : c.field < c.lastField <;> simp [advance, h, hf, hr]

/-- The walk moves record and field alone (R174). -/
theorem advance_eq_with (c : Port) :
    advance c = { c with record := (advance c).record, field := (advance c).field } := by
  unfold advance
  (repeat' split) <;> rfl

/-- The last edge sends the first of the next words and leaves the others captured (R196). -/
theorem shiftWord_words {w : Word} {rest : List Word} (h : nextWords s c ws = w :: rest) :
    (shiftWord s ws c).out = c.out ++ Word.bytes w ∧ (shiftWord s ws c).reply = .stream rest := by
  simp [shiftWord, streamWord, h]

/-- The last edge moves the pointer as `advance` does, and beside it and the stream nothing of the port. -/
theorem shiftWord_eq_with (s : State) (ws : List Word) (c : Port) :
    shiftWord s ws c = { c with
      record := (advance c).record, field := (advance c).field
      out := (shiftWord s ws c).out, reply := (shiftWord s ws c).reply } := by
  unfold shiftWord
  rw [advance_eq_with]

end

/-- Settles O55: READ by its own rule, each edge of a word by what it leaves of the port, and the tables field by
field. -/
theorem readStreamsTheWindow : Obligations.ReadStreamsTheWindow := by
  refine ⟨fun s p hh => ?_, fun s p hr => ?_, fun s p hr => exec_readWordShifted_dummy hr .last, fun s p ws hr => ?_,
    fun s p ws hr => ?_, tableSizes, valueSpans, tablesLaidOut⟩
  · have hkept := (openFrame_kept (Instr.bytes (.read p)) s.ports[p]).1
    have hexec : exec (.read p) s = .next (command p (Instr.bytes (.read p)) (readBody p) s) := rfl
    rw [hexec, command_setPort (body := readBody p) hh rfl, opened_port]
    obtain ⟨honly, hothers⟩ := setPort_only s p
      { openFrame (Instr.bytes (.read p)) s.ports[p] with reply := .dummy, lastResult := .ok }
    exact ⟨_, rfl, honly, hothers, by rw [setPort_self], answers_setPort hkept⟩
  · rw [exec_readWordShifted_dummy hr, dummyEdge, setPort_ports_self]
  · have hport : ({ s.setPort p (beginWord s ws s.ports[p]) with free := drawn s ws } : State).ports[p] =
        beginWord s ws s.ports[p] := setPort_self s p _
    refine ⟨_, exec_readWordShifted_stream hr .first, rfl, setPort_other s p _, fun hl => drawn_of_ready hl ws, ?_⟩
    dsimp only [shiftEdge]
    rw [hport]
    refine ⟨rfl, fun hne => ?_, ?_, fun hnil hl => ?_⟩
    · rw [beginWord_captured hr hne, setPort_ports_self]
      obtain ⟨w, rest, rfl⟩ := List.exists_cons_of_ne_nil hne
      rfl
    · obtain ⟨w, rest, hw⟩ := nextWords_cons s s.ports[p] ws
      exact ⟨w, rest, congrArg Reply.stream hw⟩
    · subst hnil
      exact congrArg Reply.stream (takenWords_of_ready hl s.ports[p])
  · have hport : ({ s.setPort p (shiftWord s ws s.ports[p]) with free := drawn s ws } : State).ports[p] =
        shiftWord s ws s.ports[p] := setPort_self s p _
    refine ⟨_, exec_readWordShifted_stream hr .last, rfl, setPort_other s p _, fun hl => drawn_of_ready hl ws, ?_⟩
    dsimp only [shiftEdge]
    rw [hport]
    refine ⟨fun hnil hl => ?_, fun w rest hws => ?_, ?_, ?_⟩
    · subst hnil
      exact shiftWord_words (takenWords_of_ready hl s.ports[p])
    · subst hws
      exact shiftWord_words rfl
    · obtain ⟨w, rest, hw⟩ := nextWords_cons s s.ports[p] ws
      exact ⟨w, rest, shiftWord_words hw⟩
    · rw [shiftWord_eq_with]
      refine ⟨rfl, rfl, rfl, rfl, rfl, rfl, rfl, rfl, rfl, rfl, rfl, rfl, ?_⟩
      split
      · next hwalk => exact (advanced_advance s.ports[p]).fieldFirst hwalk
      · next hwalk => exact (advanced_advance s.ports[p]).recordFirst hwalk

end Sys2Proof.Machine
end
